-- ==== Sys2Proof/Word.lean ====
section
/-!
DEFINITION. Word.lean: the word types of the model. Registers, handles and encoded fields are bit vectors;
counts, tick numbers, lengths and identifiers are natural numbers (R6, R7).
-/
namespace Sys2Proof

/-- One byte of a packet, a record or a waybill (R6). -/
abbrev Byte := BitVec 8

/-- A 32-bit register of the host window (R8). -/
abbrev Reg := BitVec 32

/-- A channel handle: TYPE [31:28], GEN [27:12], SLOT [11:0] (R41). -/
abbrev Handle := BitVec 32

/-- A digest of 32 bytes (R30). -/
abbrev Digest := BitVec 256

end Sys2Proof
end

