-- ==== Sys2Proof/Machine/Data/Input.lean ====
section
/-!
DEFINITION. Machine/Data/Input.lean: what commands and events carry in from outside: paths, command packets, air frames, PTP
messages, owners of store words, and twin-link frames.
-/
namespace Sys2Proof

/-- The path on which a command packet reaches the module, with what its reply needs to find its way back
(R74 Table 4, R75, R108, R420, ch. 20). -/
inductive Path where
  /-- Command ring `r` of the PCIe host: slot, cookie, reply address and reply size of the descriptor (R75). -/
  | ring (r slot cookie replyAddr replySize : Nat)
  /-- Mailbox `m` (R84 to R90). -/
  | mailbox (m : Nat)
  /-- The service port: the number of its connection since reset (R420). -/
  | service (conn : Nat)
  /-- The remote path: arrival port BH0 or BH1, key slot, source address, source UDP port (R108, R111). -/
  | remote (port keySlot addr udp : Nat)
  /-- The twin link or backhaul of the twin partner (ch. 20): the path it arrived on. -/
  | twin (path : Nat)
  /-- Firmware inside the module: masters 5 to 8 (R74). -/
  | internal (master : Nat)
  deriving DecidableEq, Repr

/-- A command packet (R95 Table 1). `length` is the header's payload length field, `received` the number of bytes
that arrived, `payload` the bytes after the header. -/
structure Packet where
  path : Path
  version : Nat := 3
  flags : Nat := 0
  opcode : Nat := 0
  tag : Nat := 0
  length : Nat := 0
  handle : Handle := 0
  seq : Nat := 0
  payload : List Byte := []
  received : Nat := 16
  deriving DecidableEq, Repr

/-- A received IEEE 802.15.4 frame as the air sequencer finds it (R269, R270): the FCS holds, frame version, type (1 data,
2 acknowledgement), PAN ID, security level, PSDU octets, the MIC holds, source EUI-64, frame counter, acknowledgement request,
NACK bit of an Enh-Ack, SFD offset in µs (measured minus expected), RSSI, LQI, and the decrypted MAC payload. -/
structure AirFrame where
  fcs : Bool := true
  version : Nat := 2
  type : Nat := 1
  pan : Nat := 0
  level : Nat := 5
  psdu : Nat := 0
  mic : Bool := true
  eui : Nat := 0
  counter : Nat := 0
  ackReq : Bool := false
  nack : Bool := false
  sfd : Int := 0
  rssi : Int := -60
  lqi : Nat := 0
  payload : List Byte := []
  deriving DecidableEq, Repr

/-- What an Announce message says of its grandmaster (IEEE 1588-2019, R318, R326). -/
structure Announce where
  prio1 : Nat := 128
  clockClass : Nat := 255
  accuracy : Nat := 0
  variance : Nat := 0
  prio2 : Nat := 128
  gm : Nat := 0
  steps : Nat := 0
  utc : Int := 37
  utcValid : Bool := false
  leap61 : Bool := false
  leap59 : Bool := false
  traceable : Bool := false
  deriving DecidableEq, Repr

/-- A PTP message (R318 Table 2): Sync with its Follow_Up (value t2 − t1, ns), Delay_Resp (t4 − t3), Pdelay_Resp (the
mean link delay its four stamps give), Pdelay_Req, Announce, or one the module ignores. -/
inductive PtpKind where
  | sync (value : Int)
  | delayResp (value : Int)
  | pdelayResp (delay : Int)
  | pdelayReq
  | announce (a : Announce)
  | other
  deriving DecidableEq, Repr

/-- What a word of the working store holds (R361 Table 7): channel state, the state of a device computation (0 the issue step, 1 the
partner step, 2 device metering), a post in transit, a waybill of the ring (tick, byte offset), a working-store checkpoint, a stream's
item, firmware, or nothing. -/
inductive StoreOwner where
  | channel (h : Handle)
  | device (computation : Nat)
  | post (dst : Handle)
  | waybill (tick offset : Nat)
  | checkpoint (tick : Nat)
  | stream (h : Handle) (item : Nat)
  | firmware
  | free
  deriving DecidableEq, Repr

/-- What a block of the log store holds (R365, Table 4 of ch. 17): a digest record, an interval or balance record of a circuit number, a
spilled item of a stream, the image of a session slot. -/
inductive LogPart where
  | digest (tick : Nat)
  | interval (circuit seq : Nat)
  | balance (circuit seq : Nat)
  | spill (stream : Handle) (item : Nat)
  | image (slot : Nat)
  deriving DecidableEq, Repr

/-- What the stores show to the computations of a tick: a word that one reads (R352, R353) or writes in part (R354), with its region,
offset, what the code finds (1 corrected, 2 newly uncorrectable, 3 poison) and its owner; a full write of a poisoned word; and content of
the log store whose block verifies no longer (R365). -/
inductive StoreEvent where
  | read (region word code : Nat) (owner : StoreOwner)
  | merge (region word code : Nat) (owner : StoreOwner)
  | overwrite (region word : Nat)
  | logFault (part : LogPart)
  deriving DecidableEq, Repr

/-- The owner of an MRAM word (R364): a commit record (plan slot), the calibration set, a persistent checkpoint, a key slot,
a Guestbook record (sequence, 8-byte word), or another area. -/
inductive MramArea where
  | commit (slot : Nat)
  | calibration
  | checkpoint (tick : Nat)
  | keySlot (slot : Nat)
  | guestbook (seq word : Nat)
  | other
  deriving DecidableEq, Repr

/-- A damaged MRAM word that a scrub finds: address, uncorrectable or corrected, and whose it is. -/
structure MramError where
  addr : Nat
  hard : Bool
  area : MramArea
  deriving DecidableEq, Repr

/-- What a twin-link frame carries beside heartbeats and exported waybills (R395): a command packet, a message of a mailbox whose
MASTER_A is 4 with its MBX_ILEN word, or the MBX_OACK word for such a mailbox. -/
inductive TwinFrame where
  | command (b : List Byte)
  | post (mailbox ilen : Nat) (data : List Byte)
  | ack (mailbox value : Nat)
  deriving DecidableEq, Repr

end Sys2Proof
end

