-- ==== Sys2Proof/Machine/Data/Core.lean ====
section
/-!
DEFINITION. Machine/Data/Core.lean: the data of packets and replies, waybills and the clerk, the Guestbook, the event
counters, the host link, the mailboxes and the paths of masters (ch. 2, 4, 5, 19, 23). Every field's default is its
value after reset.
-/
namespace Sys2Proof.Machine

/-- Status codes (R102 Table 4). -/
inductive Status where
  | ok | accepted | superseded | badOpcode | badLength | badParam | badHandle | staleHandle | noResource | busy
  | notPermitted | wrongState | authFail | storeError | timeout | aborted | incompatible | range | badSlot | deferred
  | tainted | internal
  deriving DecidableEq, Repr

/-- The code of a status (R102 Table 4). -/
def Status.code : Status → Nat
  | .ok => 0x00 | .accepted => 0x01 | .superseded => 0x02 | .badOpcode => 0x10 | .badLength => 0x11
  | .badParam => 0x12 | .badHandle => 0x13 | .staleHandle => 0x14 | .noResource => 0x15 | .busy => 0x16
  | .notPermitted => 0x17 | .wrongState => 0x18 | .authFail => 0x19 | .storeError => 0x1A | .timeout => 0x1B
  | .aborted => 0x1C | .incompatible => 0x1D | .range => 0x1E | .badSlot => 0x1F | .deferred => 0x20
  | .tainted => 0x21 | .internal => 0xFF

/-- What executing a command answers: status, reply payload, and the handle of the reply header where the command's
definition puts another one there (R98). -/
structure Ans where
  status : Status := .ok
  payload : List Byte := []
  handle : Option Handle := none
  /-- The reply is formed by a later event, as the command's definition says. -/
  later : Bool := false
  deriving DecidableEq, Repr

/-- A reply (R98 Table 2) with the path it leaves on. `flags` are the command's bits [1:0]; `final`, `echo` and
`wasDeferred` are the other flag bits. -/
structure Reply where
  path : Path
  flags : Nat := 0
  echo : Bool := false
  final : Bool := true
  wasDeferred : Bool := false
  opcode : Nat := 0
  tag : Nat := 0
  status : Nat := 0
  handle : Handle := 0
  tick : Nat := 0
  payload : List Byte := []
  /-- The completion flag TAG_COLLISION (R78). -/
  collision : Bool := false
  /-- NO_REPLY: the reply itself is not written, its completion is (R79). -/
  silent : Bool := false
  /-- The command was refused at intake, so its tag never went into flight (R101). -/
  refused : Bool := false
  deriving DecidableEq, Repr

/-- What a waybill entry carries (R29, Table 5): a command packet or other bytes. -/
inductive Body where
  | command (p : Packet)
  | raw (bytes : List Byte)
  deriving DecidableEq, Repr

/-- A waybill entry (R29 Table 4). -/
structure Entry where
  kind : Nat
  cls : Nat
  index : Nat
  deferred : Bool := false
  held : Nat := 0
  offset : Nat := 0
  body : Body
  deriving DecidableEq, Repr

/-- A sealed waybill (R29 Table 3). -/
structure Waybill where
  tick : Nat
  resume : Bool := false
  planChanged : Bool := false
  planGen : Nat := 0
  prev : Digest := 0
  entries : List Entry := []
  deriving DecidableEq, Repr

/-- The quota of one source (R23 Table 2). -/
structure Quota where
  cls : Nat
  index : Nat
  entries : Nat
  kib : Nat
  deriving DecidableEq, Repr

/-- The default quotas of Table 2 (R23). -/
def defaultQuotas : List Quota :=
  (List.range 5).map (fun m => ⟨1, m, 256, 192⟩) ++ (List.range 4).map (fun r => ⟨2, r, 4096, 384⟩) ++
    [⟨3, 0, 512, 64⟩, ⟨4, 0, 64, 16⟩, ⟨5, 0, 64, 16⟩, ⟨6, 0, 256, 64⟩, ⟨7, 0, 4096, 256⟩]

/-- An input on its way to the clerk, in its path's buffer or intake stile (R25, R480): `held` counts the seals at
which it was held. -/
structure Waiting where
  cls : Nat
  index : Nat
  kind : Nat
  body : Body
  held : Nat := 0
  deriving DecidableEq, Repr

/-- One line of the table of R28: an ordered command and, when formed, its final reply. -/
structure Dup where
  master : Nat
  seq : Nat
  tick : Nat
  entry : Nat
  released : Bool := false
  reply : Option Reply := none
  /-- Retries that wait for the first ordering's reply. -/
  waiters : List Packet := []
  deriving DecidableEq, Repr

/-- The results of the computation of one tick, awaiting their release (R22, R103). -/
structure CmdResult where
  entry : Nat
  /-- The tick in which the command was ordered. -/
  tick : Nat := 0
  held : Nat
  master : Nat
  packet : Packet
  status : Nat
  payload : List Byte
  handle : Option Handle
  /-- The computation that made it was tainted (R36). -/
  tainted : Bool := false
  deriving DecidableEq, Repr

/-- One item of a section of the output record (R31). -/
structure Item where
  section_ : Nat
  key : Nat
  key2 : Nat := 0
  tainted : Bool := false
  bytes : List Byte := []
  deriving DecidableEq, Repr

/-- A Guestbook record a computation derives from inputs (R386): kind, master, detail. -/
structure Derived where
  kind : Nat
  master : Nat := 0xFF
  detail : List Byte := []
  deriving DecidableEq, Repr

/-- A digest record of the log store (R32): D(n) and O(n); both zero for a tick without a waybill. -/
structure DigestRec where
  tick : Nat
  d : Digest := 0
  o : Digest := 0
  /-- Whether a section of the recorded output record carries TAINTED (R38). -/
  tainted : Bool := false
  deriving DecidableEq, Repr

/-- The replay job (R37, R38, REPLAY_STATUS). States: 0 idle, 1 running, 2 paused, 3 done equal, 4 done with
mismatch, 5 aborted. -/
structure Replay where
  job : Nat := 0
  state : Nat := 0
  mismatch : Nat := 0
  section_ : Nat := 0
  done : Nat := 0
  mismatchTick : Nat := 0
  mismatches : Nat := 0
  reason : Nat := 0
  first : Nat := 0
  last : Nat := 0
  mode : Nat := 0
  speed : Nat := 0
  /-- The next tick the replay recomputes. -/
  next : Nat := 0
  deriving DecidableEq, Repr

/-- What GLOBAL_STATUS shows of the module's running (ch. 4, 20, 21): READY, COPPICE, and the role 0 ALONE, 1 ACTIVE,
2 STANDBY. -/
structure Mode where
  ready : Bool := false
  coppice : Bool := false
  role : Nat := 0
  /-- The lifecycle: 0 BLANK … as ch. 18 numbers it; MANUFACTURE is 1 (R378). -/
  lifecycle : Nat := 1
  deriving DecidableEq, Repr

/-- The waybill clerk and the registers of ch. 2. -/
structure Clerk where
  /-- Ticks run (TICK_PHASE.RUNNING). -/
  running : Bool := false
  /-- The current tick of TB_M (R19). -/
  tick : Nat := 0
  /-- µs elapsed in the tick, as last sampled (R21). -/
  offset : Nat := 0
  /-- The tick is lengthened (R21). -/
  long : Bool := false
  open_ : List Entry := []
  resume : Bool := false
  /-- Inputs in the intake stiles and path buffers, oldest first (R25, R480). -/
  intake : List Waiting := []
  /-- Clerk entries held to later waybills (R27), oldest first. -/
  heldEntries : List Entry := []
  dups : List Dup := []
  /-- The waybill ring, oldest first (64 MiB). -/
  ring : List Waybill := []
  /-- D(n) of the last sealed waybill and its tick. -/
  lastD : Digest := 0
  lastTick : Nat := 0
  /-- D(n − 1) for the open waybill's header: the chain (R34). -/
  chain : Digest := 0
  records : List DigestRec := []
  /-- Stretches of ticks without a waybill (R32): first and last tick. Their digest records are 64 zero bytes. -/
  gaps : List (Nat × Nat) := []
  late : Bool := false
  taint : Bool := false
  replayMismatch : Bool := false
  ckptFail : Bool := false
  resumed : Bool := false
  deferCnt : Nat := 0
  lateCnt : Nat := 0
  /-- The held shadow of TICK_NUM_HI, and of WBL_DIGEST1 to 7 with WBL_DIGEST_TICK (R39). -/
  tickShadow : Option Nat := none
  digestShadow : Option (Digest × Nat) := none
  replay : Replay := {}
  nextJob : Nat := 1
  deriving DecidableEq, Repr

/-- A Guestbook record (R381 Table 1). -/
structure GbkRec where
  seq : Nat := 0
  kind : Nat
  derived : Bool := false
  untrusted : Bool := false
  noTick : Bool := false
  master : Nat := 0xFF
  secs : Nat := 0
  sub : Nat := 0
  tick : Nat := 0
  repeats : Nat := 1
  last : Nat := 0
  detail : List Byte := []
  /-- The damaged 8-byte words of the stored record (R387), as a mask, and whether a read has found them. -/
  damage : Nat := 0
  found : Bool := false
  deriving DecidableEq, Repr

/-- A place of the front buffer (R388): a record, repeats of the newest record, or the overflow record due. -/
inductive GbkPlace where
  | record (r : GbkRec)
  | repeats (count last : Nat)
  deriving DecidableEq, Repr

/-- Losses of the front buffer not yet recorded (R388): count, ticks of the first and last, kind of the first. -/
structure GbkLoss where
  count : Nat
  first : Nat
  last : Nat
  kind : Nat
  deriving DecidableEq, Repr

/-- The Guestbook (ch. 19). -/
structure Guestbook where
  front : List GbkPlace := []
  loss : Option GbkLoss := none
  /-- How many places entered the buffer before the first loss and have not left it (R388). -/
  beforeLoss : Nat := 0
  /-- Stored records, ascending sequence: permanent area (sequence up to 4,096) and circulating area. -/
  stored : List GbkRec := []
  next : Nat := 1
  clearedTo : Nat := 0
  clearings : Nat := 0
  clearTick : Nat := 0
  lost : Nat := 0
  freeze : Bool := false
  /-- A last save holds the drain (R446, R448). -/
  saving : Bool := false
  autoInc : Bool := false
  erasing : Option (Nat × Nat × Nat × Nat × Packet) := none
  loaded : Bool := false
  absent : Bool := false
  overflow : Bool := false
  mramErr : Bool := false
  timedOut : Bool := false
  sel : Nat := 0
  data : List Byte := []
  /-- Records due before any that waits in the front buffer: kinds 0x1302 and 0x1304. -/
  urgent : List GbkRec := []
  deriving DecidableEq, Repr

/-- One event counter (R431): selected source, enable, 48-bit count. -/
structure Counter where
  source : Nat := 0
  en : Bool := false
  count : Nat := 0
  deriving DecidableEq, Repr

/-- A counter snapshot (R433). -/
structure Snapshot where
  values : List (Nat × Nat) := []
  ovf : Nat := 0
  tick : Nat := 0
  offset : Nat := 0
  cause : Nat := 0
  valid : Bool := false
  deriving DecidableEq, Repr

/-- The counter block, the test multiplexer and the test access port (ch. 23). -/
structure CountersTest where
  counters : List Counter := List.replicate 32 {}
  ovf : Nat := 0
  auto : Bool := false
  view : Bool := false
  snap : Snapshot := {}
  /-- The held shadow of CNT_VAL_HI(c) (R434). -/
  valShadow : Option (Nat × Nat) := none
  muxSel : List Nat := [0, 0, 0, 0]
  muxDiv : Nat := 8
  muxSlot : Nat := 0
  /-- Uptime, ms, at which the lease in force expires (R436), and the lease as granted, s. -/
  lease : Option Nat := none
  leaseSecs : Nat := 0
  tapInstr : Nat := 0x02
  deriving DecidableEq, Repr

/-- A command ring (R75 to R82). -/
structure Ring where
  enable : Bool := false
  irqEn : Bool := false
  modCount : Nat := 0
  modUs : Nat := 0
  cmdLo : Nat := 0
  cmdHi : Nat := 0
  cmpLo : Nat := 0
  cmpHi : Nat := 0
  cmdTail : Nat := 0
  cmdHead : Nat := 0
  cmpHead : Nat := 0
  cmpTail : Nat := 0
  phase : Bool := true
  dmaErr : Bool := false
  descErr : Bool := false
  errSlot : Nat := 0
  /-- Final completions written and not yet signalled (R92). -/
  unsignalled : Nat := 0
  /-- Completions held because the completion ring was full when their turn came (R80). -/
  held : Nat := 0
  deriving DecidableEq, Repr

/-- One write into host memory (R77): address and bytes. -/
structure HostWrite where
  addr : Nat
  bytes : List Byte
  deriving DecidableEq, Repr

/-- A mailbox (R84 to R90). -/
structure Mailbox where
  masterA : Nat := 0
  masterB : Nat := 5
  inBuf : List Byte := List.replicate 256 0
  outBuf : List Byte := List.replicate 256 0
  iLen : Nat := 0
  iSeg : Nat := 0
  iMore : Bool := false
  iSeq : Nat := 0
  post : Bool := false
  ackCode : Nat := 0
  ackSeq : Nat := 0
  ackValid : Bool := false
  oLen : Nat := 0
  oSeg : Nat := 0
  oMore : Bool := false
  oSeq : Nat := 0
  oFull : Bool := false
  odb : Nat := 0
  omask : Nat := 0xFFFFFFFF
  ignored : Nat := 0
  seqErr : Nat := 0
  hostErr : Nat := 0
  /-- The packet joined so far and the next segment (R87). -/
  partial_ : List Byte := []
  nextSeg : Nat := 0
  /-- The reply being posted outbound, what of its bytes still waits, and its tag. -/
  outTag : Option Nat := none
  outRest : List Byte := []
  deriving DecidableEq, Repr

/-- The registers of the host link, interrupts and identity (R69 to R74, R92 to R94), with the pins and the traffic
the host sees. -/
structure HostLink where
  /-- HOSTSEL and BOOTSEL as the board straps them now, and as sampled (R69). -/
  hostselPin : Bool := false
  bootselPin : Bool := false
  hostsel : Bool := false
  bootsel : Bool := false
  speed : Nat := 0
  msi : Nat := 0
  linkUp : Bool := false
  aerUncorr : Bool := false
  spiError : Bool := false
  rings : List Ring := List.replicate 4 {}
  intRing : Nat := 0
  readyChg : Bool := false
  intEnable : Nat := 0
  alertEnable : Nat := 0x3FFFF
  /-- GLOBAL_CTL. -/
  globalCtl : Nat := 4
  scratch : Nat := 0
  inkBeat : Nat := 0
  /-- INT_STATUS AND INT_ENABLE as last signalled, for the rising edges of MSI (R92). -/
  signalled : Nat := 0
  msiSent : List Nat := []
  hostWrites : List HostWrite := []
  /-- The value the last register read returned. -/
  readValue : Nat := 0
  mailboxes : List Mailbox := List.replicate 16 {}
  mbxWin : Nat := 0
  bindLocked : Bool := false
  violation : Bool := false
  /-- The binding record in the persistent store: the 32 bytes MASTER_A, MASTER_B of mailboxes 0 to 15 (R84). -/
  bindRecord : Option (List Byte) := none
  bindWaiting : Bool := false
  deriving DecidableEq, Repr

/-- A tag in flight (R78, R89, R101 check 8) with what its TIMEOUT reply echoes; `answered`: ACCEPTED or a final
status has been formed. -/
structure Flight where
  path : Path
  tag : Nat
  opcode : Nat := 0
  flags : Nat := 0
  handle : Handle := 0
  answered : Bool := false
  deriving DecidableEq, Repr

/-- A datagram or frame of a path that has left the module: port, address, UDP port and bytes. -/
structure Sent where
  port : Nat
  addr : Nat := 0
  udp : Nat := 0
  bytes : List Byte := []
  deriving DecidableEq, Repr

/-- Replay-counter window of a key slot (R109): H and the accepted counters of H − 63 to H − 1. -/
structure Window where
  slot : Nat
  high : Nat := 0
  seen : List Nat := []
  deriving DecidableEq, Repr

/-- The masters' paths (ch. 5, ch. 20 R391, ch. 21 R420). -/
structure Paths where
  flights : List Flight := []
  /-- Replies formed and not yet delivered on rings and mailboxes, in order. -/
  outgoing : List Reply := []
  sent : List Sent := []
  udpPort : Nat := 41640
  portsEnabled : Nat := 3
  windows : List Window := []
  ownCounters : List (Nat × Nat) := []
  /-- Failures of R110 not yet recorded, by key slot. -/
  failures : List (Nat × Nat) := []
  /-- Datagrams queued for master 3 while its intake is full (R112). -/
  remoteQueue : List Waiting := []
  serviceOpen : Bool := false
  /-- Service connections opened since reset: the number of the newest (R420). -/
  serviceConn : Nat := 0
  /-- Remote datagrams accepted and replies dropped for want of a link, on BH0 and BH1 (PATH_STATUS). -/
  accepted : List Nat := [0, 0]
  dropped : List Nat := [0, 0]
  deriving DecidableEq, Repr

/-- A selector of a stream with its filter (STREAM_CONFIG). -/
structure Selector where
  code : Nat
  filter : Nat
  deriving DecidableEq, Repr

/-- A STREAM channel's configuration. -/
structure StreamCfg where
  master : Nat := 0
  window : Nat := 1
  queueKiB : Nat := 256
  spillMiB : Nat := 0
  keySlot : Nat := 0
  udp : Nat := 0
  addr : Nat := 0
  selectors : List Selector := []
  configured : Bool := false
  deriving DecidableEq, Repr

/-- An item of a stream waiting to be sent: item number, tick, selector, data, bytes already sent; a gap item has
selector 0. -/
structure StreamItem where
  num : Nat
  tick : Nat
  selector : Nat
  data : List Byte
  sent : Nat := 0
  spilled : Bool := false
  /-- Spilled to a block of the log store that verifies no longer (R365). -/
  faded : Bool := false
  gap : Bool := false
  deriving DecidableEq, Repr

/-- A stream message sent and not acknowledged (R117): number, payload, resends so far. -/
structure StreamMsg where
  num : Nat
  payload : List Byte
  resends : Nat := 0
  deriving DecidableEq, Repr

/-- The delivery side of a STREAM channel (R115 to R119), not part of the ordered state. -/
structure StreamRun where
  slot : Nat
  ack : Nat := 0
  window : Nat := 1
  lastSent : Nat := 0
  nextItem : Nat := 1
  waiting : List StreamItem := []
  unacked : List StreamMsg := []
  dropped : Nat := 0
  gaps : Nat := 0
  /-- A registry snapshot asked for and not yet produced: first and last partner (R133). -/
  snapshot : Option (Nat × Nat) := none
  deriving DecidableEq, Repr

end Sys2Proof.Machine
end

