-- ==== Sys2Proof/Machine/Data/Air.lean ====
section
/-!
DEFINITION. Machine/Data/Air.lean: radios, slot plans and hopping (ch. 13); partners, faults and sessions (ch. 14).
-/
namespace Sys2Proof.Machine

/-- RADIO_CONFIG (Table 10 of ch. 13). -/
structure RadioCfg where
  on : Bool
  family : Nat
  rate : Nat
  option : Nat
  flags : Nat
  preamble : Nat
  level : Nat
  guard : Nat
  pan : Nat
  key : Nat
  deriving DecidableEq, Repr

/-- SLOT_PLAN_SET: field frames, and the kinds of slots 3 to 17 in legs 0 to 3. -/
structure SlotPlan where
  field : Nat
  kinds : List Nat
  deriving DecidableEq, Repr

/-- HOP_SET (Table 11 of ch. 13). -/
structure HopPlan where
  f0 : Nat
  spacing : Nat
  phases : List Nat
  limit : Nat
  window : Nat
  channels : List Nat
  deriving DecidableEq, Repr

/-- A radio's configuration as the waybills make it: in force (none: none has taken effect yet; R481) and pending with its
change instant (R278). -/
structure RadioOrd where
  cfg : Option RadioCfg := none
  nextCfg : Option (Nat × RadioCfg) := none
  plan : Option SlotPlan := none
  nextPlan : Option (Nat × SlotPlan) := none
  /-- Broadcast and unicast power, 0.5 dBm. -/
  bcast : Int := 28
  ucast : Int := 28
  /-- The tick since which the radio has been on without failure, as the waybills show it (R306). -/
  onSince : Option Nat := none
  failed : Bool := false
  deriving DecidableEq, Repr

/-- An assignment (R300); `ref` is the frame that carries its last ASSIGN, `acked` the tick of that frame's last attempt. -/
structure Assign where
  index : Nat
  role : Nat
  radio : Nat
  slot : Nat
  mini : Nat
  period : Nat
  phase : Nat
  start : Nat
  ref : Option Nat := none
  acked : Option Nat := none
  deriving DecidableEq, Repr

/-- What the partner step keeps of a placed partner beside its registry fields (R302). -/
structure Partner where
  assigns : List Assign := []
  /-- Assignments sent ahead of a slot plan change, with its instant (R305). -/
  next : Option (Nat × List Assign) := none
  misses : Nat := 0
  period : Nat := 900
  /-- Tick of the last rescue frame. -/
  rescue : Nat := 0
  counter : Nat := 0
  wasAbsent : Bool := false
  /-- The elements sent at the entry into RESCUED held BROADCAST_KEY. -/
  withKey : Bool := true
  /-- The frame whose acknowledgement ends RESCUED (Table 9). -/
  awaits : Option Nat := none
  /-- Allocation found no candidate and is tried again (R301). -/
  again : Bool := false
  /-- The MOVE to the primary radio: sent, and its frame (R306). -/
  home : Option Nat := none
  /-- Occurrences in which a frame was received: tick, radio, slot, mini-slot (R303). -/
  heard : List (Nat × Nat × Nat × Nat) := []
  /-- Occurrences counted as missed: tick and assignment index. -/
  missed : List (Nat × Nat) := []
  /-- The pending air slot for which BROADCAST_KEY has been sent (R376). -/
  rekeyed : Option Nat := none
  deriving DecidableEq, Repr

/-- A fault record (R309). -/
structure FaultRec where
  num : Nat
  partner : Nat
  bit : Nat
  open_ : Bool := true
  acked : Bool := false
  inconsistent : Bool := false
  confirmed : Bool := false
  repeats : Nat := 1
  first : Nat
  last : Nat
  /-- A LIGHT_OUT record not yet tested: the tick of its frame (R310). -/
  untested : Option Nat := none
  deriving DecidableEq, Repr

/-- The mean import power of a circuit in a measurement tick (R310): tick, circuit, Q16.16 kW, GAP. -/
structure PowerPoint where
  tick : Nat
  circuit : Nat
  power : Nat
  gap : Bool
  deriving DecidableEq, Repr

/-- The ordered state of radios, partners and faults. -/
structure AirOrd where
  radios : List RadioOrd := List.replicate 4 {}
  hop : Option HopPlan := none
  nextHop : Option (Nat × HopPlan) := none
  /-- Ascending partner number. -/
  partners : List (Nat × Partner) := []
  faults : List FaultRec := []
  nextFault : Nat := 1
  /-- Power and recorded levels of the last 256 ticks (R310): levels at the boundary that opened a tick, as lantern and P. -/
  power : List PowerPoint := []
  levels : List (Nat × List (Nat × Nat)) := []
  /-- Frames formed by the partner step of the tick so far (R307). -/
  formed : Nat := 0
  /-- Frames sent and not yet reported: reference, partner. -/
  refs : List (Nat × Nat) := []
  /-- JOIN frames not yet reported: reference, session slot, partner. -/
  joins : List (Nat × Nat × Nat) := []
  deriving DecidableEq, Repr

/-- A partner image as its SESSION_IMAGE entry gives it (R311). -/
structure ImageRec where
  length : Nat
  manifest : List Byte
  digest : List Byte
  deriving DecidableEq, Repr

/-- A SESSION channel (R311 to R315). Phases: 0 configured, 1 JOINING, 2 SENDING, 3 DONE, 4 ABORTED. -/
structure Session where
  /-- The session number that frames carry (log entry 22). -/
  num : Nat := 1
  image : Option ImageRec := none
  hw : Nat := 0
  mask : Nat := 0
  byGroup : Bool := false
  target : Nat := 0
  overhead : Nat := 2000
  duration : Nat := 60
  k : Nat := 0
  t : Nat := 0
  targets : List Nat := []
  excluded : Nat := 0
  phase : Nat := 0
  cause : Nat := 0
  /-- Targets not yet sent their JOIN, and targets whose JOIN has been acknowledged. -/
  toJoin : List Nat := []
  joined : List Nat := []
  /-- States reported (R315). -/
  reports : List (Nat × Nat) := []
  /-- ESIs sent, as the SESSION_PROGRESS entries tell. -/
  sent : Nat := 0
  start : Nat := 0
  deriving DecidableEq, Repr

/-- A downlink frame (R284): its reference, partner, session slot of a JOIN, MAC payload, and how it fares. -/
structure DownFrame where
  ref : Nat
  partner : Nat
  payload : List Byte
  /-- Extended destination (Table 2 of ch. 14). -/
  extended : Bool := false
  /-- Tick in which it entered the queue. -/
  queued : Nat := 0
  attempts : Nat := 0
  last : Nat := 0
  deriving DecidableEq, Repr

/-- A transmission in the accounting (R279): its start in µs of TB_M. -/
structure AirTx where
  tick : Nat
  start : Nat
  channel : Nat
  /-- Air time in thirds of a µs. -/
  time : Nat
  fixed : Bool
  deriving DecidableEq, Repr

/-- What a radio has put on the air: slot, channel, power in 0.5 dBm, and the PSDU without its MIC and FCS. -/
structure OnAir where
  tick : Nat
  slot : Nat
  channel : Nat
  power : Int
  key : Nat
  counter : Nat
  payload : List Byte
  deriving DecidableEq, Repr

/-- The air sequencer of one radio (ch. 13). States: 0 floor, 1 on, 2 failed, 3 restarting. -/
structure Sequencer where
  failed : Bool := false
  restarting : Bool := false
  /-- Uptime, ms, at the end of the last restart after a failure; kept by a failure within 600 s of it, which then stands (R286). -/
  restarted : Option Nat := none
  down : List DownFrame := []
  /-- The open receive windows: slot and mini-slot (0xFF: none); and the frame whose acknowledgement is awaited. -/
  windows : List (Nat × Nat) := []
  awaitAck : Option Nat := none
  /-- Transmissions still in the accounting window. -/
  used : List AirTx := []
  /-- The frames sent in the present leg. -/
  onAir : List OnAir := []
  /-- The next own frame counter and the counter saved (R289). -/
  counter : Nat := 0
  saved : Nat := 0
  /-- Field-frame entries by leg: tick, and partner, target and code in cyclic order. -/
  field : List (Nat × List (Nat × Nat × Nat)) := []
  bcast : Int := 28
  ucast : Int := 28
  /-- Thermal derating (R285): begun, and its size in 0.5 dB. -/
  hot : Bool := false
  derating : Nat := 0
  accepted : Nat := 0
  dropped : Nat := 0
  acks : Nat := 0
  nacks : Nat := 0
  sentDown : Nat := 0
  deferrals : Nat := 0
  refusals : Nat := 0
  /-- Ticks of the last record of kinds 0x0D05 and 0x0D06, of the last refusal, and of the last full receive queue. -/
  rec5 : Option Nat := none
  rec6 : Option Nat := none
  /-- Frames found the receive queue full since the last record of kind 0x0D06. -/
  fullCount : Nat := 0
  refusedAt : Option Nat := none
  fullAt : Option Nat := none
  /-- The RADIO alert raised by a refused fixed transmission (R281). -/
  alert : Bool := false
  deriving DecidableEq, Repr

/-- The session streamer's side of a session: image bytes held, total, next ESI, and symbols sent in the tick. -/
structure Streamer where
  slot : Nat
  bytes : List Byte := []
  total : Nat := 0
  /-- The image has been checked and its entry placed (R311). -/
  placed : Bool := false
  /-- The tick of the start that the symbols sent belong to (R312). -/
  run : Nat := 0
  esi : Nat := 0
  inTick : Nat := 0
  /-- A block of the image in the log store verifies no longer; a read has failed, and the image sends no more symbols (R365). -/
  faded : Bool := false
  poisoned : Bool := false
  deriving DecidableEq, Repr

/-- The air hardware and the session streamer. -/
structure Air where
  radios : List Sequencer := (List.range 4).map (fun r => { counter := r, saved := r })
  streamers : List Streamer := []
  /-- The session whose turn was last, by slot index (R312). -/
  turn : Nat := 0
  /-- The highest counters accepted from partners, by EUI-64 (R289). -/
  counters : List (Nat × Nat) := []
  /-- The tick of the last frame received from a partner on a radio, and of its last acknowledged rescue (R295, R299). -/
  heard : List (Nat × Nat × Nat) := []
  rescued : List (Nat × Nat × Nat) := []
  deriving DecidableEq, Repr

end Sys2Proof.Machine
end

