-- ==== Sys2Proof/Machine/Data/Light.lean ====
section
/-!
DEFINITION. Machine/Data/Light.lean: groups, schedules, overrides and the records of the issue step (ch. 7).
-/
namespace Sys2Proof.Machine

/-- An override in a slot (R147, R148): `tick` and `entry` say when it was ordered. -/
structure Override where
  emergency : Bool
  master : Nat
  code : Nat
  level : Nat
  first : Nat
  last : Nat
  expiry : Nat
  tick : Nat
  entry : Nat
  deriving DecidableEq, Repr

/-- A curfew window (R145). -/
structure Curfew where
  days : Nat
  start : Nat
  stop : Nat
  level : Nat
  deriving DecidableEq, Repr

/-- Fallback parameters (R156). -/
structure Fallback where
  level : Nat := 1000
  delay : Nat := 120
  code : Nat := 31
  mode : Nat := 1
  deriving DecidableEq, Repr

/-- The contenders and the result of one member in a group's last running computation (R135, R161). -/
structure MemberVal where
  partner : Nat
  schedule : Nat := 0
  escort : Nat := 0
  safety : Nat := 0
  above : Option Nat := none
  overEmergency : Bool := false
  overCode : Nat := 0xFF
  capCircuit : Nat := 1000
  capCurfew : Nat := 1000
  health : Nat := 1000
  final : Nat := 0
  decider : Nat := 0
  dark : Bool := false
  deriving DecidableEq, Repr

/-- A GROUP channel (ch. 7). -/
structure Group where
  schedule : Handle := 0
  up : Nat := 0
  down : Nat := 0
  flags : Nat := 0
  neighbours : Nat := 1
  raise : Nat := 0
  refresh : Nat := 0
  curfews : List Curfew := []
  fallback : Option Fallback := none
  /-- Slots in use, ascending (R147). -/
  overrides : List (Nat × Override) := []
  /-- The latest cap post of each circuit: cap, and the tick in whose computation it was read (R144). -/
  caps : List (Nat × (Nat × Nat)) := []
  schedLevel : Nat := 0
  schedPost : Bool := false
  curfewCap : Nat := 1000
  vals : List MemberVal := []
  deriving DecidableEq, Repr

/-- A programme step (R139): anchor 0 clock, 1 dusk, 2 dawn. -/
structure Step where
  anchor : Nat
  level : Nat
  time : Int
  deriving DecidableEq, Repr

/-- A daylight-saving rule (R138). -/
structure DstRule where
  month : Nat := 0
  week : Nat := 0
  weekday : Nat := 0
  minute : Nat := 0
  deriving DecidableEq, Repr

/-- A holiday entry (R139). -/
structure Holiday where
  year : Nat
  month : Nat
  day : Nat
  programme : Nat
  deriving DecidableEq, Repr

/-- The solar events of a local date (R141): day number, dusk and dawn in UTC seconds since 2000, and bit 0 below,
bit 1 above all day. -/
structure Solar where
  day : Int
  dusk : Int
  dawn : Int
  flags : Nat := 0
  /-- The sun does not cross the angle that day. -/
  noDusk : Bool := false
  noDawn : Bool := false
  deriving DecidableEq, Repr

/-- A SCHEDULE channel (ch. 7). -/
structure Schedule where
  lat : Int := 0
  lon : Int := 0
  duskAngle : Nat := 0
  dawnAngle : Nat := 0
  std : Int := 0
  dst : Nat := 0
  planPlace : Bool := false
  startRule : DstRule := {}
  endRule : DstRule := {}
  week : List Nat := []
  programmes : List (List Step) := []
  holidays : List Holiday := []
  /-- The events computed for the dates in use, newest last (R141). -/
  solar : List Solar := []
  /-- The last posted level, programme, step and day (R140). -/
  posted : Option (Nat × Nat × Nat × Int) := none
  deriving DecidableEq, Repr

/-- An entry issued and not yet at its start boundary (R150): the tick its boundary opens, target and code. -/
structure Queued where
  start : Nat
  target : Nat
  code : Nat
  deriving DecidableEq, Repr

/-- The record of a lantern (R150, R152). -/
structure LevelRec where
  p : Nat
  t : Nat
  d : Nat := 0
  code : Nat := 0
  queue : List Queued := []
  deriving DecidableEq, Repr

/-- What the module keeps of a placed lantern (R137, R146, R152, R153). -/
structure Lantern where
  lightOut : Bool := false
  absent : Bool := false
  derate : Nat := 1000
  record : Option LevelRec := none
  lastTarget : Nat := 0xFFFF
  lastTick : Nat := 0
  age : Nat := 0
  waiting : Bool := false
  refreshDue : Bool := false
  leaveDue : Bool := false
  deriving DecidableEq, Repr

end Sys2Proof.Machine
end

