-- ==== Sys2Proof/Machine/Data/Loop.lean ====
section
/-!
DEFINITION. Machine/Data/Loop.lean: the loop engine's slots, contention sets and traces (ch. 9). Signals are Q16.16 in the
slot's unit, KP, KI and KD are Q8.24 (R186).
-/
namespace Sys2Proof.Machine

/-- A queued write (R194): a coefficient of Table 4 by its identifier, or a compensation table. -/
inductive LoopWrite where
  | coef (id : Nat) (value : Int)
  | table (entries : List Nat)
  deriving DecidableEq, Repr

/-- The coefficients of a slot whose law has not been configured, in the order of Table 4 (log entry 19). -/
def loopCoefs : List Int := [0, 0, 0, 65536, 0, 65536, 0, 0, 0, 65536, 0, 65536]

/-- A loop slot (R182 to R200). Law 0: not configured; class 0 fast, 1 slow, 2 not configured. -/
structure LoopSlot where
  slot : Nat
  owner : Handle
  member : Nat
  law : Nat := 0
  cls : Nat := 2
  comp : Nat := 0
  divider : Nat := 0
  src : Nat := 0
  sp : Nat := 0
  pos : Nat := 0
  bus : Nat := 0
  coef : List Int := loopCoefs
  table : List Nat := List.replicate 64 16384
  i : Int := 0
  d : Int := 0
  yPrev : Option Int := none
  rEff : Int := 0
  u : Int := 0
  uRaw : Int := 0
  y : Int := 0
  r : Int := 0
  e : Int := 0
  p : Int := 0
  t : Int := 0
  c : Nat := 16384
  /-- The factor of LX-2 compensation was limited at the last sample (R191). -/
  limited : Bool := false
  satHi : Bool := false
  satLo : Bool := false
  lost : Bool := false
  /-- Held by LOOP_HOLD or the oscillation detector, and held by the owner's state (R198). -/
  held : Bool := false
  chHeld : Bool := false
  osc : Bool := false
  holdCount : Nat := 0
  samples : Nat := 0
  queue : List LoopWrite := []
  /-- A release waiting for its sample (R197): mode, and the LOOP_RELEASE to answer. -/
  release : Option (Nat × Option Packet) := none
  oscAction : Nat := 0
  oscN : Nat := 0
  oscA : Int := 65536
  oscW : Nat := 4
  oscAt : List Nat := []
  oscSign : Int := 0
  /-- Uptime of the last record of kind 0x0A05, ms. -/
  oscRec : Option Nat := none
  deriving DecidableEq, Repr

/-- A contention set (R192): owner, number, members, output of its last sample. -/
structure LoopSet where
  owner : Handle
  set : Nat
  members : List Nat
  out : Int := 0
  deriving DecidableEq, Repr

/-- A TRACE channel's configuration (Table 11). -/
structure TraceCfg where
  nodes : List (Nat × Nat) := []
  kind : Nat := 0
  trigNode : Nat := 0
  decim : Nat := 1
  depth : Nat := 256
  pre : Nat := 0
  level : Int := 0
  mask : Nat := 0
  slot : Nat := 0
  deriving DecidableEq, Repr

/-- A trace in D10 (R202): state 0 idle, 1 armed, 2 triggered, 3 done; rows oldest first. -/
structure TraceRun where
  handle : Handle
  cfg : TraceCfg
  state : Nat := 0
  forced : Bool := false
  /-- Slots of its nodes that have been freed. -/
  gone : List Nat := []
  rows : List (List Int) := []
  preRows : Nat := 0
  left : Nat := 0
  skip : Nat := 0
  prev : Option Int := none
  instant : Nat := 0
  deriving DecidableEq, Repr

end Sys2Proof.Machine
end

