-- ==== Sys2Proof/Machine/Data/Drive.lean ====
section
/-!
DEFINITION. Machine/Data/Drive.lean: directly wired luminaires and the drive block of D10 (ch. 10).
-/
namespace Sys2Proof.Machine

/-- STRING_CONFIG: Hz, Q16.16 A, µΩ, Q16.16 V, Q16.16. -/
structure StringCfg where
  fsw : Nat
  rated : Nat
  shunt : Nat
  vmin : Nat
  duty : Nat
  deriving DecidableEq, Repr

/-- A LUMINAIRE channel (ch. 10). `latched` and `seqs` are the causes and sequence numbers of the latest STRING_FAULT
entries read, for colours 0 to 2 and the NTC. -/
structure Lum where
  num : Option Nat := none
  bus : Nat := 0
  lead : Nat := 0
  mix : List Nat := [0, 0, 0]
  r25 : Nat := 10000
  beta : Nat := 3950
  strings : List (Option StringCfg) := [none, none, none]
  tables : List (List Nat) := List.replicate 3 (List.replicate 16 16384)
  knee : Nat := 85
  max : Nat := 105
  factor : Nat := 250
  latched : List Nat := [0, 0, 0, 0]
  seqs : List Nat := [0, 0, 0, 0]
  derated : Bool := false
  /-- Fractions, g and temperature of the last RUNNING computation, frozen while HELD or FAULTED. -/
  lastX : List Nat := [0, 0, 0]
  lastG : Nat := 65536
  lastT : Int := 0
  limited : Bool := false
  deriving DecidableEq, Repr

/-- What reaches D10 through stile 38 from the computation of a tick (R194, ch. 10): loop control and drive
configuration. -/
inductive DriveMsg where
  /-- A slot configured whole, or freed. -/
  | slot (x : LoopSlot)
  | free (slot : Nat)
  | writes (slot : Nat) (ws : List LoopWrite)
  | hold (slot : Nat)
  | release (slot mode : Nat) (p : Option Packet)
  | osc (slot action n : Nat) (a : Int) (w : Nat)
  | set (owner : Handle) (set : Nat) (members : List Nat)
  /-- A channel's state: 1 running, 2 held, 3 released, 4 destroyed, with the tick of the change. -/
  | chan (h : Handle) (what tick : Nat)
  | lum (h : Handle) (x : Lum)
  /-- Clears of latched faults: string number or 24 + luminaire for the NTC, and sequence number (R219). -/
  | clear (faults : List (Nat × Nat))
  | trace (h : Handle) (cfg : TraceCfg)
  deriving DecidableEq, Repr

/-- A string of the drive block. `iSet` and `n` are in force in the present frame; `nextI` and `nextN` wait for the next
(R213). Cause 0: no fault latched. -/
structure StrRun where
  n : Nat := 0
  a : Nat := 0
  iSet : Int := 0
  nextN : Nat := 0
  nextA : Nat := 0
  nextI : Int := 0
  x : Nat := 0
  trips : Nat := 0
  lastTrips : Nat := 0
  cause : Nat := 0
  seq : Nat := 0
  openRun : Nat := 0
  shortRun : Nat := 0
  highRun : Nat := 0
  lowRun : Nat := 0
  mismatch : Bool := false
  gate : Bool := false
  /-- On-time of the last switching cycle, in units of 1/1,228.8 µs. -/
  onTime : Nat := 0
  /-- Tick of the last STRING_FAULT entry, and whether one is due. -/
  entryTick : Option Nat := none
  due : Bool := false
  y : Int := 0
  duty : Int := 0
  deriving DecidableEq, Repr

/-- A luminaire of the drive block. -/
structure LumRun where
  handle : Handle
  cfg : Lum
  num : Nat
  running : Bool := false
  /-- The tick whose opening boundary starts it (R208). -/
  start : Option Nat := none
  level : LevelRec := { p := 0, t := 0 }
  /-- The entry waiting is the fallback entry (R209). -/
  fbEntry : Bool := false
  /-- Held by the channel's state: 1 from the next boundary, 2 standing (R208). -/
  held : Nat := 0
  /-- The record is to be rejoined at the next boundary. -/
  rejoin : Bool := false
  fallback : Bool := false
  temp : Int := 0
  ntcCause : Nat := 0
  ntcSeq : Nat := 0
  ntcLow : Nat := 0
  ntcHigh : Nat := 0
  ntcEntry : Option Nat := none
  ntcDue : Bool := false
  gLive : Int := 65536
  limited : Bool := false
  /-- The channel's fault sequence (R219). -/
  seq : Nat := 0
  deriving DecidableEq, Repr

/-- The drive block and the fast loops of D10. -/
structure Drive where
  /-- Base instants since the start of D10 (R183). -/
  base : Nat := 0
  slots : List LoopSlot := []
  sets : List LoopSet := []
  /-- Owners whose slots run. -/
  running : List Handle := []
  strs : List StrRun := List.replicate 24 {}
  lums : List LumRun := []
  vbus : List Int := [0, 0]
  /-- Messages on their way through stile 38, oldest first, by tick of their computation. -/
  inbound : List (Nat × List DriveMsg) := []
  /-- Entries on their way to luminaires: lead lantern, start, target, code (R207). -/
  entries : List (Nat × Nat × Nat × Nat) := []
  traces : List TraceRun := []
  /-- Sequence of the tick messages: the last boundary's tick. -/
  tick : Nat := 0
  deriving DecidableEq, Repr

end Sys2Proof.Machine
end

