-- ==== Sys2Proof/Machine/Data/Escort.lean ====
section
/-!
DEFINITION. Machine/Data/Escort.lean: the data of an ESCORT channel (ch. 8).
-/
namespace Sys2Proof.Machine

/-- An escort profile (Table 2). Lengths in cm, rise in ms, speeds in mm/s. -/
structure Profile where
  level : Nat
  lead : Nat
  trail : Nat
  rise : Nat
  vmin : Nat
  vnom : Nat
  vmax : Nat
  deriving DecidableEq, Repr

/-- A hypothesis (R171): its weight out of 32,768 and its path, the anchor link first, each link with its direction of
travel (true: forward). -/
structure Hyp where
  weight : Nat
  path : List (Nat × Bool)
  ended : Bool := false
  deriving DecidableEq, Repr

/-- A traveller (R168). Instants in µs of TB_M. -/
structure Traveller where
  num : Nat
  cls : Nat
  link : Nat
  chainage : Nat
  t0 : Int
  known : Bool
  vest : Nat
  measured : Bool
  hint : Bool
  created : Nat
  hyps : List Hyp
  /-- Nodes at which it has been handed over (R178). -/
  nodes : List Nat := []
  /-- Its anchor link has left the zone. -/
  gone : Bool := false
  /-- Its effect instant exceeds its anchor plus H plus C (R172). -/
  late : Bool := false
  deriving DecidableEq, Repr

/-- A presence event (R164), an INJECT hint or a handover. -/
structure Presence where
  link : Nat
  chainage : Nat
  instant : Int
  dir : Option Bool := none
  speed : Nat := 0
  cls : Option Nat := none
  /-- A speed that is not measured, from a handover. -/
  est : Option Nat := none
  hint : Bool := false
  deriving DecidableEq, Repr

/-- A TURN hint: arriving link, node, shares of the continuation links (R177). -/
structure Turn where
  link : Nat
  node : Nat
  shares : List (Nat × Nat)
  deriving DecidableEq, Repr

/-- An OCCUPY hint: its last tick is the one before `expiry`. -/
structure Occupy where
  link : Nat
  cls : Nat
  expiry : Nat
  deriving DecidableEq, Repr

/-- An ESCORT channel (ch. 8). -/
structure Escort where
  horizon : Nat := 8000
  cycle : Nat := 4000
  allot : Nat := 0
  slack : Nat := 800
  threshold : Nat := 2048
  flags : Nat := 0
  links : List Nat := []
  profiles : List Profile :=
    [⟨600, 2000, 1500, 2000, 300, 1400, 2500⟩, ⟨800, 3300, 2000, 1500, 1500, 5000, 8000⟩, ⟨1000, 12000, 3000, 1500, 2000, 13900, 36100⟩]
  tables : List (Nat × List Nat) := []
  turns : List Turn := []
  occupied : List Occupy := []
  travellers : List Traveller := []
  /-- INJECT hints of the tick with their place in the waybill, until step 3 of R165. -/
  injected : List (Nat × Presence) := []
  /-- Travellers ended so far in the tick, with their end cause. -/
  ended : List (Traveller × Nat) := []
  /-- The posts of the last RUNNING computation (R180). -/
  lastPosts : List (Handle × List Byte) := []
  /-- Items of Table 5 of the last computation. -/
  tracks : List (Nat × List Byte) := []
  demanded : Nat := 0
  absent : Nat := 0
  nAssociated : Nat := 0
  nCreated : Nat := 0
  nEnded : Nat := 0
  nDiscarded : Nat := 0
  /-- Ticks of the last records of kinds 0x0903 and 0x0904. -/
  rec903 : Option Nat := none
  rec904 : Option Nat := none
  deriving DecidableEq, Repr

end Sys2Proof.Machine
end

