-- ==== Sys2Proof/Machine/Data/Metro.lean ====
section
/-!
DEFINITION. Machine/Data/Metro.lean: feeder metrology and its records (ch. 11, 12). Energies are in 1/65,536 µWh, µvarh or
µVAh; lists of five follow the quantities of ch. 12, Table 2.
-/
namespace Sys2Proof.Machine

/-- An interval whose balance waits (R257): its record's fields. -/
structure WaitingBalance where
  seq : Nat
  start : Nat
  stop : Nat
  net : Int
  outage : Bool
  /-- The lanterns on the circuit at the end tick. -/
  lanterns : List Nat
  deriving DecidableEq, Repr

/-- The metering state of a circuit number (R243 to R257). -/
structure Meter where
  /-- Phase accumulators: five quantities each of phases 1 to 3. -/
  phases : List (List Nat) := List.replicate 3 (List.replicate 5 0)
  length : Nat := 15
  align : Int := 0
  delay : Nat := 2
  threshold : Nat := 80
  seq : Nat := 1
  start : Nat := 0
  /-- UTC seconds since 2000 of the start tick. -/
  utcStart : Int := 0
  snapshot : List Nat := List.replicate 5 0
  opened : Bool := false
  measured : Nat := 0
  skip : Bool := false
  cal : Bool := false
  holdup : Bool := false
  s0 : Nat := 0
  intervals : List (Nat × List Byte) := []
  balances : List (Nat × List Byte) := []
  waiting : List WaitingBalance := []
  overRun : Nat := 0
  /-- The tick whose CIRCUIT_TICK entry has been read. -/
  readTick : Option Nat := none
  deriving DecidableEq, Repr

/-- A CIRCUIT channel (ch. 11). -/
structure Circuit where
  num : Option Nat := none
  phases : List (Nat × Nat) := []
  neutral : Nat := 0xFF
  limit : Nat := 0
  un : Nat := 230
  noLoad : Nat := 4
  inom : Nat := 0
  /-- The mean import power last read (R235), Q16.16 kW. -/
  power : Int := 0
  /-- Phase voltages absent, one bit each. -/
  absentV : Nat := 0
  deriving DecidableEq, Repr

/-- An input's configuration and the constants of Table 7: per path offset, gain and phase. -/
structure MetIn where
  value : Nat
  flags : Nat := 0
  offset : List Int := [0, 0]
  gain : List Nat := [0x40000000, 0x40000000]
  phase : List Int := [0, 0]
  deriving DecidableEq, Repr

/-- A pulse output's configuration. -/
structure PulseOutCfg where
  enable : Bool := false
  mask : Nat := 0
  quantity : Nat := 0
  k : Nat := 1
  width : Nat := 40
  deriving DecidableEq, Repr

/-- A pulse input's configuration. -/
structure PulseInCfg where
  enable : Bool := false
  circuit : Nat := 0xFF
  quantity : Nat := 0
  k : Nat := 1
  debounce : Nat := 5
  width : Nat := 20
  deriving DecidableEq, Repr

/-- A lantern's energy reading: tick and cumulative µWh (R256). -/
structure Reading where
  tick : Nat
  energy : Nat
  deriving DecidableEq, Repr

/-- The device metering state, part of the ordered state. -/
structure MeterState where
  meters : List Meter := List.replicate 8 {}
  /-- Voltage inputs 0 to 3 and current inputs 0 to 15 as configured (ordered view). -/
  vin : List MetIn := List.replicate 4 { value := 1000000 }
  iin : List MetIn := List.replicate 16 { value := 50000 }
  nominal : Nat := 50
  calCount : Nat := 0
  /-- Pulse outputs and inputs as configured. -/
  outs : List PulseOutCfg := List.replicate 4 {}
  ins : List PulseInCfg := List.replicate 4 {}
  readings : List (Nat × List Reading) := []
  /-- The mean import power last read of each circuit, Q16.16 kW (R235). -/
  power : List Int := List.replicate 8 0
  deriving DecidableEq, Repr

/-- What reaches D9 through stile 37. -/
inductive MetroMsg where
  | circuit (h : Handle) (c : Circuit)
  | input (kind input value flags : Nat)
  | nominal (hz : Nat)
  | constants (kind input path counter : Nat) (offset : Int) (gain : Nat) (phase : Int)
  | pulseOut (o : Nat) (c : PulseOutCfg)
  | pulseIn (i : Nat) (c : PulseInCfg)
  /-- Measurement of a circuit starts with a tick, or stops. -/
  | start (h : Handle) (tick : Nat)
  | stop (h : Handle)
  /-- The job's result has been committed. -/
  | committed (job : Nat)
  deriving DecidableEq, Repr

/-- A calibration job (R241). State: 0 idle, 1 measuring, 2 done, 3 failed, 4 committed. -/
structure CalJob where
  job : Nat := 0
  state : Nat := 0
  cause : Nat := 0
  step : Nat := 0
  input : Nat := 0
  pair : Nat := 0
  path : Nat := 0
  done : Nat := 0
  asked : Nat := 0
  vref : Nat := 0
  iref : Nat := 0
  phi : Int := 0
  v : Nat := 0
  i : Nat := 0
  angle : Int := 0
  freq : Nat := 0
  old : Int := 0
  new : Int := 0
  deriving DecidableEq, Repr

/-- A line cycle in progress of a phase of a circuit (R230, R231), with running sums. -/
structure PhaseRun where
  n : Nat := 0
  p : Int := 0
  q : Int := 0
  vv : Int := 0
  ii : Int := 0
  /-- The cycles ended in the tick, sorted: five quantities. -/
  acc : List Nat := List.replicate 5 0
  cycles : Nat := 0
  tickVV : Nat := 0
  tickII : Nat := 0
  signedP : Int := 0
  signedS : Nat := 0
  clipped : Bool := false
  switched : Bool := false
  absent : Bool := false
  /-- Samples in a row with the voltage below 10 % of Un (R230). -/
  low : Nat := 0
  /-- Samples of the cycles ended in the tick. -/
  ended : Nat := 0
  /-- The harmonics window in progress: voltage, current, cycles (R233). -/
  winV : List Int := []
  winI : List Int := []
  winCycles : Nat := 0
  deriving DecidableEq, Repr

/-- A completed harmonics window of one phase quantity (R233): the tick in which it ended, fundamental, mHz, THD, and
magnitude and phase of orders 2 to 31. -/
structure Harm where
  phase : Nat
  quantity : Nat
  tick : Nat
  fund : Nat
  freq : Nat
  thd : Nat
  orders : List (Nat × Int)
  deriving DecidableEq, Repr

/-- A circuit as D9 measures it. -/
structure MeterRun where
  handle : Handle
  cfg : Circuit
  from_ : Nat
  phases : List PhaseRun := List.replicate 3 {}
  samples : Nat := 0
  /-- Residual current sum of squares, and ticks in a row above 5 % of In (R231). -/
  residual : Nat := 0
  residualRms : Nat := 0
  residualTicks : Nat := 0
  freq : Nat := 0
  gap : Bool := false
  applied : Bool := false
  /-- The last entry formed with its measurement tick, for METER_READ. -/
  last : Option (Nat × List Byte) := none
  thd : List (Nat × Nat) := List.replicate 3 (0, 0)
  harmonics : List Harm := []
  deriving DecidableEq, Repr

/-- A current input's path selection (R225): ×16 in use, and line cycles in a row below the threshold. -/
structure PathRun where
  high : Bool := false
  quiet : Nat := 0
  /-- Every ×1 sample of the cycle in progress was below the threshold. -/
  below : Bool := true
  deriving DecidableEq, Repr

/-- A pulse output in D9 (R250 to R252). -/
structure PulseOut where
  cfg : PulseOutCfg := {}
  r : Nat := 0
  backlog : Nat := 0
  /-- Crossings whose edge is due: sample indices in the measurement run. -/
  due : List Nat := []
  active : Bool := false
  /-- The backlog has been above 0 for 60 s. -/
  aged : Bool := false
  /-- R and backlog as last reported to D1. -/
  reported : Nat × Nat := (0, 0)
  deriving DecidableEq, Repr

/-- A pulse input in D9 (R253). -/
structure PulseIn where
  cfg : PulseInCfg := {}
  active : Bool := false
  pulses : Nat := 0
  rejected : Nat := 0
  deriving DecidableEq, Repr

/-- A save record (R259). -/
structure SaveRec where
  valid : Bool := false
  freeze : Nat := 0
  instant : Nat := 0
  meters : List Meter := []
  pulses : List (Nat × Nat) := []
  residueValid : Bool := false
  residue : List (Nat × Nat) := []
  cancelled : Bool := false
  deriving DecidableEq, Repr

/-- The metering front end of D9 and its persistent data. -/
structure Metro where
  runs : List MeterRun := []
  vin : List MetIn := List.replicate 4 { value := 1000000 }
  iin : List MetIn := List.replicate 16 { value := 50000 }
  paths : List PathRun := List.replicate 16 {}
  nominal : Nat := 50
  calCount : Nat := 0
  job : CalJob := {}
  nextJob : Nat := 1
  outs : List PulseOut := List.replicate 4 {}
  ins : List PulseIn := List.replicate 4 {}
  /-- Messages on their way through stile 37 by tick of their computation, and those that wait for their measurement
  tick (R242). -/
  inbound : List (Nat × List MetroMsg) := []
  later : List (Nat × MetroMsg) := []
  /-- METRO_APPLIED entries due (R242). -/
  applied : List (Nat × List Byte) := []
  samples : Nat := 0
  /-- The sample of the last crossing of each line voltage, and its last period. -/
  cross : List (Option Nat) := [none, none, none]
  period : List Nat := [0, 0, 0]
  gated : Bool := false
  restarted : Bool := false
  saves : List SaveRec := [{}, {}]
  /-- The slot of the last save. -/
  saveSlot : Nat := 1
  /-- A save is running or written and not cancelled since PFW_N fell. -/
  saving : Bool := false
  residues : List SaveRec := []
  alertClip : Bool := false
  alertAbsent : Bool := false
  alertResidual : Bool := false
  /-- Constants as stored, with their digest good. -/
  storeGood : Bool := true
  deriving DecidableEq, Repr

end Sys2Proof.Machine
end

