-- ==== Sys2Proof/Machine/Data/Plan.lean ====
section
/-!
DEFINITION. Machine/Data/Plan.lean: the street plan and the registry (ch. 6). Plan items are kept in their PLAN_LOAD
layout (Table 7), each under its number.
-/
namespace Sys2Proof.Machine

/-- A street plan (R121, R127): the information item, and nodes, links, placements and membership items in ascending
number. The empty plan is generation 0 (R125). -/
structure Plan where
  info : Option (List Byte) := none
  nodes : List (Nat × List Byte) := []
  links : List (Nat × List Byte) := []
  placements : List (Nat × List Byte) := []
  members : List (Nat × List Byte) := []
  deriving DecidableEq, Repr

/-- A commit record (R125 Table 1). -/
structure CommitRec where
  gen : Nat := 0
  slot : Nat := 0
  digest : Digest := 0
  tick : Nat := 0
  valid : Bool := false
  /-- An uncorrectable MRAM word has been found in it or its slot (R364): its digest fails at the next boot. -/
  bad : Bool := false
  deriving DecidableEq, Repr

/-- The plan slots, commit records and staging session (R126). Session states: 0 IDLE, 1 STAGING, 2 PREPARING. -/
structure PlanStore where
  slots : List Plan := [{}, {}]
  records : List CommitRec := [{ slot := 0 }, { slot := 1 }]
  state : Nat := 0
  step : Nat := 0
  owner : Nat := 0xFF
  outcome : Nat := 0
  gen : Nat := 0
  slot : Nat := 0
  commitTick : Nat := 0
  /-- Uptime, ms, of the final reply of PLAN_COMMIT; 0 before it. -/
  replied : Nat := 0
  /-- The commit record is valid and PLAN_SWITCH placed (R129). -/
  switched : Bool := false
  deriving DecidableEq, Repr

/-- The plan in force (R126, PLAN_STATUS), part of the ordered state. -/
structure InForce where
  gen : Nat := 0
  slot : Nat := 0
  digest : Digest := 0
  fromTick : Nat := 0
  plan : Plan := {}
  deriving DecidableEq, Repr

/-- The dynamic fields of a registry record (R132 Table 6). -/
structure RegDyn where
  airState : Nat := 0
  radio : Nat := 0xFF
  rssi : Int := -128
  lqi : Nat := 0
  drift : Int := 0
  temp : Int := -128
  firmware : Nat := 0
  faults : Nat := 0
  firstHeard : Nat := 0
  lastHeard : Nat := 0
  lastReport : Nat := 0
  energy : Nat := 0
  gen : Nat := 0
  deriving DecidableEq, Repr

end Sys2Proof.Machine
end

