-- ==== Sys2Proof/Machine/Data/Ordered.lean ====
section
/-!
DEFINITION. Machine/Data/Ordered.lean: the ordered state, which the computations of the ticks make from the waybills
alone (R35, R54): channels, posts in transit, quotas, master rank, and the device computations.
-/
namespace Sys2Proof.Machine

/-- Channel states (R46 Table 4). -/
inductive ChanState where
  | created | configured | running | held | faulted
  deriving DecidableEq, Repr

/-- A post (R52): `due` is the tick whose computation reads it. -/
structure Post where
  src : Handle
  dst : Handle
  kind : Nat
  seq : Nat
  tainted : Bool := false
  payload : List Byte := []
  deriving DecidableEq, Repr

/-- What a channel of each type holds (R42 Table 2). -/
inductive ChanBody where
  | group (g : Group)
  | schedule (c : Schedule)
  | stream (c : StreamCfg)
  | escort (e : Escort)
  | circuit (c : Circuit)
  | luminaire (l : Lum)
  | loop
  | trace (c : TraceCfg)
  | session (c : Session)
  deriving DecidableEq, Repr

/-- A channel (R41 to R48). -/
structure Channel where
  handle : Handle
  state : ChanState := .created
  /-- The state held before the fault (R47). -/
  before : ChanState := .created
  cause : Nat := 0
  tainted : Bool := false
  created : Nat := 0
  since : Nat := 0
  label : List Byte := []
  body : ChanBody
  /-- The items of the last good computation, released again by R49. -/
  lastItems : List Item := []
  deriving DecidableEq, Repr

/-- The ordered state. -/
structure Ordered where
  quotas : List Quota := defaultQuotas
  rank : List Nat := [2, 3, 0, 1, 4]
  rankTick : Nat := 0
  /-- Slots whose generation counter differs from 0x0001, ascending (R43). -/
  gens : List (Nat × Nat) := []
  /-- Live channels, ascending slot. -/
  channels : List Channel := []
  /-- Slots freed in the computation of `freedTick` (R44). -/
  freed : List Nat := []
  plan : InForce := {}
  /-- The dynamic registry fields of placed partners, ascending partner number (R132). -/
  registry : List (Nat × RegDyn) := []
  /-- The membership in force: lantern number and GROUP handle, ascending (R134, R158). -/
  members : List (Nat × Handle) := []
  /-- The UTC offset in force, from the TIME entries (R325, R326). -/
  utc : Int := 37
  leap61 : Bool := false
  leap59 : Bool := false
  /-- The midnight, UTC seconds since 2000 with the offset before it, at which the pending leap second falls. -/
  leapEnd : Int := 0
  /-- Placed lanterns and their records, ascending number (R152). -/
  lanterns : List (Nat × Lantern) := []
  /-- The device fallback defaults (R156). -/
  fallback : Fallback := {}
  /-- Tick of the last issue-backlog record of each radio (kind 0x0808), when there was one. -/
  backlog : List (Nat × Nat) := []
  /-- The loop slots in use, ascending, the contention sets, and the slots freed in the latest computation (R182). -/
  loops : List LoopSlot := []
  loopSets : List LoopSet := []
  loopsFreed : List Nat := []
  /-- The last DRIVE_SAMPLE entry read (R220). -/
  driveSample : List Byte := []
  metering : MeterState := {}
  air : AirOrd := {}
  /-- Ordered commands whose final reply waits for an effect of a later tick (R197). -/
  awaited : List CmdResult := []
  /-- Posts made in the latest computation (R53). -/
  posts : List Post := []
  /-- The device computations whose outputs of the latest tick carry TAINTED: 0 the issue step, 1 the partner step, 2 metering (R361). -/
  devTaint : List Nat := []
  deriving DecidableEq, Repr

end Sys2Proof.Machine
end

