-- ==== Sys2Proof/Machine/Data/Store.lean ====
section
/-!
DEFINITION. Machine/Data/Store.lean: the stores of D5 (ch. 17), checkpoints (R33), lodgings and stiles (ch. 3).
-/
namespace Sys2Proof.Machine

/-- A checkpoint (R33): the ordered state after a tick, with the table of R28 and the chain digest. -/
structure Checkpoint where
  tick : Nat
  ord : Ordered
  dups : List Dup := []
  chain : Digest := 0
  digest : Digest := 0
  /-- The firmware set version vector and the checkpoint format that wrote it (R430), and whether a restore installed it. -/
  fw : List Nat := []
  format : Nat := 0
  installed : Bool := false
  deriving DecidableEq, Repr

/-- A working-store region (R348, R356). States: 0 free, 1 in use, 2 evacuating, 3 retired, 4 spare; areas: 0 waybill ring,
1 checkpoints, 2 firmware, 3 pool, 4 spare. `recent`: corrected words by minute of uptime. -/
structure Region where
  state : Nat
  area : Nat
  strong : Option Bool := none
  recent : List (Nat × Nat) := []
  corrected : Nat := 0
  uncorrectable : Nat := 0
  poison : List Nat := []
  owners : List Handle := []
  deriving DecidableEq, Repr

/-- The regions as the Innkeeper divides them at boot (Table 2 of ch. 17). -/
def initialRegions : List Region :=
  List.replicate 32 { state := 1, area := 0, strong := some true } ++ List.replicate 24 { state := 1, area := 1, strong := some true } ++
    List.replicate 4 { state := 1, area := 2, strong := some true } ++ List.replicate 60 { state := 0, area := 3 } ++ List.replicate 8 { state := 4, area := 4 }

/-- The stores' controllers (ch. 17). -/
structure Store where
  regions : List Region := initialRegions
  /-- Evacuations due, in order: region and cause (0 threshold, 1 uncorrectable, 2 command). -/
  queue : List (Nat × Nat) := []
  /-- The evacuation that runs: region and target. -/
  running : Option (Nat × Nat) := none
  /-- Regions under test (R359), with the command that waits. -/
  tests : List (Nat × Packet) := []
  /-- Latched flags of Table 8, and the live ones. -/
  latched : Nat := 0
  spareOut : Bool := false
  overdue : Bool := false
  /-- The Pruner: region, word offset of its next burst, start of the lap (ms of uptime), last lap (s), laps. -/
  region : Nat := 0
  offset : Nat := 0
  lapStart : Nat := 0
  lastLap : Nat := 0
  laps : Nat := 0
  limit : Nat := 7200
  threshold : Nat := 32
  corrected : Nat := 0
  uncorrectable : Nat := 0
  mramCorrected : Nat := 0
  mramUncorrectable : Nat := 0
  logFailed : Nat := 0
  /-- Digest, interval and balance records whose blocks of the log store verify no longer (R365). -/
  logBad : List LogPart := []
  /-- Owners whose next outputs carry TAINTED (R361): channels, and device computations. -/
  taint : List Handle := []
  /-- Channels to which a post in transit has been poisoned. -/
  postTaint : List Handle := []
  /-- Poisoned bytes of waybills in the ring: tick and byte offset (R362). -/
  badWaybills : List (Nat × Nat) := []
  deriving DecidableEq, Repr

/-- Results of a tick that a rebuild withholds (R22, R51): field-frame entries (radio, partner, target, code) and downlink frames by radio. -/
structure Withheld where
  tick : Nat
  entries : List (Nat × Nat × Nat × Nat) := []
  frames : List (Nat × DownFrame) := []
  deriving DecidableEq, Repr

/-- A rebuild (R51, R361): the owner, the checkpoint's tick, the tick whose computation it replaced, whether a finding
ordered it, and the command that waits for its start. -/
structure Rebuild where
  handle : Handle
  ckpt : Nat := 0
  since : Nat := 0
  finding : Bool := false
  packet : Option Packet := none
  /-- What it withholds meanwhile (R22). -/
  withheld : List Withheld := []
  deriving DecidableEq, Repr

/-- An engine (R57): retired, and its local-memory errors: corrected by minute of uptime, uncorrectable. -/
structure Engine where
  retired : Bool := false
  recent : List (Nat × Nat) := []
  uncorrectable : Nat := 0
  longest : Nat := 0
  deriving DecidableEq, Repr

/-- A channel's lodging (R55 to R60). -/
structure Lodge where
  slot : Nat
  engine : Nat
  hint : Nat := 0
  near : Handle := 0
  pinned : Bool := false
  notFollowed : Bool := false
  /-- Longest computation in the last 240 ticks, µs. -/
  work : Nat := 0
  relocations : Nat := 0
  regions : List Nat := []
  /-- The region that data moves to, when a move runs: from, to. -/
  moving : Option (Nat × Nat) := none
  deriving DecidableEq, Repr

/-- A stile's diagnostics (R61 to R67). -/
structure Stile where
  hwm : Nat := 0
  flags : Nat := 0
  corrected : Nat := 0
  uncorrectable : Nat := 0
  underruns : Nat := 0
  stalls : Nat := 0
  packets : Nat := 0
  /-- Corrections in the current calendar day of TB_L, with the day. -/
  today : Nat := 0
  day : Nat := 0
  /-- Losses in a row of the message now repeated (Table 11). -/
  losses : Nat := 0
  deriving DecidableEq, Repr

/-- The Innkeeper (ch. 3): engines, gated wings, lodgings, rebuilds and stiles. -/
structure Inn where
  engines : List Engine := List.replicate 12 {}
  /-- Wings gated, one bit each. -/
  gated : Nat := 0
  lodges : List Lodge := []
  /-- A review of placement is due at the next boundary (R59). -/
  review : Bool := false
  rebuilds : List Rebuild := []
  waiting : List Rebuild := []
  stiles : List Stile := List.replicate 48 {}
  threshold : Nat := 16
  evsel : Nat := 0
  deriving DecidableEq, Repr

end Sys2Proof.Machine
end

