-- ==== Sys2Proof/Syntax.lean ====
section
/-!
DEFINITION. Syntax.lean: the commands of the block. One constructor of `Instr` per row of the spec's table of
operations and events. A command row carries the packet that brings the command; an event row carries what the
outside world supplies with the event (an instant, a measured value, the bytes of a frame).
-/
namespace Sys2Proof
open Machine

/-- The commands and events of the block: one constructor per row of the table. -/
inductive Instr where
  /-- DEVICE_INFO (R120): Command returning part, band, stepping, serial, firmware set, lifecycle, role and host link. -/
  | deviceInfo (p : Packet)
  /-- ECHO (R120): Command returning its payload unchanged. -/
  | echo (p : Packet)
  /-- RANK_GET (R107): Command returning the master rank order and the tick from which it applies. -/
  | rankGet (p : Packet)
  /-- RANK_SET (R107): Waybill command replacing the rank order of masters 0-4 from the next waybill. -/
  | rankSet (p : Packet)
  /-- MAILBOX_BIND_GET (R84): Command returning the mailbox binding in force and any waiting binding record. -/
  | mailboxBindGet (p : Packet)
  /-- MAILBOX_BIND_SET (R84): Command writing or deleting the mailbox binding record, effective at the next device reset. -/
  | mailboxBindSet (p : Packet)
  /-- REMOTE_CFG_GET (R108): Command returning the remote UDP port and enabled backhaul ports. -/
  | remoteCfgGet (p : Packet)
  /-- REMOTE_CFG_SET (R108): Command setting the remote UDP port and enabled ports, applied from the datagram after its reply. -/
  | remoteCfgSet (p : Packet)
  /-- STREAM_CONFIG (R115): Waybill command configuring a STREAM channel's destination, selectors, queue and spill quota. -/
  | streamConfig (p : Packet)
  /-- STREAM_CREDIT (R117): Command from a push destination setting the acknowledged-through number and window. -/
  | streamCredit (p : Packet)
  /-- STREAM_READ (R117): Command from a pull destination acknowledging and fetching the next stream message. -/
  | streamRead (p : Packet)
  /-- STREAM_STATUS (R117): Command returning a stream's sent, acknowledged, queued, spilled and dropped counts. -/
  | streamStatus (p : Packet)
  /-- RESET_DEVICE (R419): Command scheduling a device reset, optionally into coppice mode, 10 ms after its reply. -/
  | resetDevice (p : Packet)
  /-- DOMAIN_RESTART (R416): Command restarting the logic of one power domain under Table 5. -/
  | domainRestart (p : Packet)
  /-- BOOT_REPORT (R413): Command returning the reset code, restore kind, checkpoint and RESUME ticks and boot times. -/
  | bootReport (p : Packet)
  /-- RECOVERY_STATUS (R415): Command returning rebuilds, restarts, watchdog expiries and reset counts. -/
  | recoveryStatus (p : Packet)
  /-- CHANNEL_CREATE (R44): Waybill command allocating the lowest free slot and creating a channel of a given type. -/
  | channelCreate (p : Packet)
  /-- CHANNEL_START (R46): Waybill command moving a CONFIGURED channel to RUNNING. -/
  | channelStart (p : Packet)
  /-- CHANNEL_HOLD (R47): Waybill command moving a RUNNING channel to HELD. -/
  | channelHold (p : Packet)
  /-- CHANNEL_RELEASE (R46): Waybill command returning a HELD channel to RUNNING. -/
  | channelRelease (p : Packet)
  /-- CHANNEL_DESTROY (R50): Waybill command destroying an unreferenced channel and advancing its slot generation. -/
  | channelDestroy (p : Packet)
  /-- CHANNEL_RESET (R51): Command ordering a rebuild of a channel from the newest checkpoint at the next boundary. -/
  | channelReset (p : Packet)
  /-- CHANNEL_INFO (R46): Command returning a channel's state, flags, fault cause, ticks and label. -/
  | channelInfo (p : Packet)
  /-- CHANNEL_LIST (R42): Command listing live channel handles in slot order. -/
  | channelList (p : Packet)
  /-- LODGING_GET (R60): Command returning a channel's engine, wing, hint, planned work and regions. -/
  | lodgingGet (p : Packet)
  /-- PLACEMENT_HINT (R60): Command setting a channel's placement hint. -/
  | placementHint (p : Packet)
  /-- CHANNEL_PIN (R57): Command pinning a channel to an engine or unpinning it, in the test lifecycle only. -/
  | channelPin (p : Packet)
  /-- ENGINE_STATUS (R57): Command returning state, load, errors and temperature of each engine. -/
  | engineStatus (p : Packet)
  /-- QUOTA_GET (R23): Command returning the quotas of all fourteen sources. -/
  | quotaGet (p : Packet)
  /-- QUOTA_SET (R24): Waybill command changing source quotas from the next waybill. -/
  | quotaSet (p : Packet)
  /-- WAYBILL_READ (R29): Command reading bytes of a sealed waybill from the ring. -/
  | waybillRead (p : Packet)
  /-- DIGEST_READ (R32): Command reading digest records from the log store. -/
  | digestRead (p : Packet)
  /-- CHECKPOINT_LIST (R33): Command listing usable checkpoints, newest first. -/
  | checkpointList (p : Packet)
  /-- REPLAY (R37): Command starting a replay self-audit of a range of ticks. -/
  | replay (p : Packet)
  /-- REPLAY_STATUS (R38): Command returning the state and results of the replay job. -/
  | replayStatus (p : Packet)
  /-- REPLAY_ABORT (R38): Command aborting a running or paused replay. -/
  | replayAbort (p : Packet)
  /-- PLAN_BEGIN (R126): Command opening a plan staging session in the free slot. -/
  | planBegin (p : Packet)
  /-- PLAN_LOAD (R126): Command writing plan items into the staged slot. -/
  | planLoad (p : Packet)
  /-- PLAN_COMMIT (R127): Waybill command checking the staged plan and starting its preparation. -/
  | planCommit (p : Packet)
  /-- PLAN_ABORT (R126): Command abandoning a staging session before the commit record write. -/
  | planAbort (p : Packet)
  /-- PLAN_STATUS (R126): Command returning the plan session state and generation in force. -/
  | planStatus (p : Packet)
  /-- REGISTRY_GET (R132): Command returning one partner's registry record as of the latest released tick. -/
  | registryGet (p : Packet)
  /-- REGISTRY_EXPORT (R133): Command requesting a registry snapshot on a STREAM channel. -/
  | registryExport (p : Packet)
  /-- REGISTRY_FIND (R132): Command returning partner numbers matching an EUI-64, link range, circuit or group. -/
  | registryFind (p : Packet)
  /-- GROUP_CONFIG (R135): Waybill command setting a group's schedule, ramp codes, flags, safety and refresh. -/
  | groupConfig (p : Packet)
  /-- GROUP_MEMBERS (R158): Waybill command adding or removing lanterns from a group, applied at the end of the tick. -/
  | groupMembers (p : Packet)
  /-- GROUP_STATUS (R161): Command returning a group's state, members, levels and override slots. -/
  | groupStatus (p : Packet)
  /-- LANTERN_LEVEL_GET (R152): Command returning a lantern's record, contenders, decider and last entry. -/
  | lanternLevelGet (p : Packet)
  /-- SCHEDULE_CONFIG (R138): Waybill command configuring a schedule's place, time zone, daylight saving and programmes. -/
  | scheduleConfig (p : Packet)
  /-- HOLIDAY_SET (R139): Waybill command replacing a schedule's holiday list. -/
  | holidaySet (p : Packet)
  /-- SOLAR_GET (R141): Command returning the resolved dusk and dawn of a local date. -/
  | solarGet (p : Packet)
  /-- OVERRIDE (R147): Waybill command filling an override slot of a group for a duration. -/
  | override (p : Packet)
  /-- OVERRIDE_CANCEL (R148): Waybill command cancelling one or all override slots of a group. -/
  | overrideCancel (p : Packet)
  /-- CURFEW_SET (R145): Waybill command replacing a group's curfew windows. -/
  | curfewSet (p : Packet)
  /-- FALLBACK_SET (R156): Waybill command setting the fallback parameters of a group or the device. -/
  | fallbackSet (p : Packet)
  /-- ESCORT_CONFIG (R163): Waybill command setting an escort zone's horizon, cycle, allotment, gate, threshold and links. -/
  | escortConfig (p : Packet)
  /-- ESCORT_PROFILE (R167): Waybill command setting the escort profile of one traveller class. -/
  | escortProfile (p : Packet)
  /-- CHAINAGE_SET (R175): Waybill command setting or removing a link's chainage table. -/
  | chainageSet (p : Packet)
  /-- TRAFFIC_HINT (R177): Waybill command applying a TURN, INJECT or OCCUPY hint to a zone. -/
  | trafficHint (p : Packet)
  /-- ESCORT_STATUS (R181): Command returning a zone's travellers, hypotheses, demand and counts. -/
  | escortStatus (p : Packet)
  /-- TRACK_LIST (R181): Command returning traveller items of a zone. -/
  | trackList (p : Packet)
  /-- LOOP_CONFIG (R188): Waybill command installing a loop slot's law, class, sources and coefficients whole. -/
  | loopConfig (p : Packet)
  /-- LOOP_COEFF (R194): Waybill command queueing coefficient writes to a loop slot. -/
  | loopCoeff (p : Packet)
  /-- LOOP_COMP_TABLE (R190): Waybill command queueing a new compensation table as one write. -/
  | loopCompTable (p : Packet)
  /-- LOOP_HOLD (R196): Waybill command holding a loop slot from its next sample. -/
  | loopHold (p : Packet)
  /-- LOOP_RELEASE (R197): Waybill command ordering the release of a held slot in mode 0 or bumpless mode 1. -/
  | loopRelease (p : Packet)
  /-- LOOP_STATUS (R204): Command returning a loop slot's values and flags. -/
  | loopStatus (p : Packet)
  /-- CONTENTION_SET (R192): Waybill command forming or removing a contention set of members. -/
  | contentionSet (p : Packet)
  /-- OSC_CONFIG (R200): Waybill command configuring a slot's oscillation detector and clearing its OSC flag. -/
  | oscConfig (p : Packet)
  /-- TRACE_CONFIG (R202): Waybill command configuring a trace's nodes, trigger, decimation and depth. -/
  | traceConfig (p : Packet)
  /-- TRACE_ARM (R202): Command arming, forcing or disarming a trace. -/
  | traceArm (p : Packet)
  /-- TRACE_READ (R202): Command returning captured trace samples of one node. -/
  | traceRead (p : Packet)
  /-- LUMINAIRE_CONFIG (R205): Waybill command binding a LUMINAIRE channel to a luminaire, lead lantern, mix and NTC. -/
  | luminaireConfig (p : Packet)
  /-- STRING_CONFIG (R216): Waybill command configuring one string's switching frequency, current, shunt and limits. -/
  | stringConfig (p : Packet)
  /-- COLOUR_TABLE (R210): Waybill command setting a colour's relative flux table. -/
  | colourTable (p : Packet)
  /-- DERATE_SET (R211): Waybill command setting the derate knee, maximum and NTC fault factor. -/
  | derateSet (p : Packet)
  /-- DRIVE_STATUS (R212): Command returning a snapshot of a luminaire's drive state. -/
  | driveStatus (p : Packet)
  /-- STRING_FAULT_CLEAR (R219): Waybill command clearing latched string or NTC faults whose sequence numbers match. -/
  | stringFaultClear (p : Packet)
  /-- CIRCUIT_CONFIG (R226): Waybill command configuring a metered circuit's phases, inputs and power limit. -/
  | circuitConfig (p : Packet)
  /-- METER_INPUT_CONFIG (R224): Waybill command setting an input's scale and flags or the nominal frequency. -/
  | meterInputConfig (p : Packet)
  /-- CAL_START (R241): Command starting a calibration job for one step, input and path. -/
  | calStart (p : Packet)
  /-- CAL_STATUS (R241): Command returning the state and proposed constant of the calibration job. -/
  | calStatus (p : Packet)
  /-- CAL_COMMIT (R242): Waybill command committing calibration constants and advancing the counter. -/
  | calCommit (p : Packet)
  /-- METER_READ (R231): Command returning a circuit's latest measurements. -/
  | meterRead (p : Packet)
  /-- HARMONICS_READ (R233): Command returning harmonic magnitudes and phases of one phase quantity. -/
  | harmonicsRead (p : Packet)
  /-- ENERGY_READ (R243): Command returning a circuit's reported registers and open interval. -/
  | energyRead (p : Packet)
  /-- INTERVAL_CONFIG (R246): Waybill command setting a circuit's interval length, alignment, closing delay and threshold. -/
  | intervalConfig (p : Packet)
  /-- INTERVAL_READ (R249): Command reading stored interval or balance records. -/
  | intervalRead (p : Packet)
  /-- PULSE_OUT_CONFIG (R250): Waybill command configuring a pulse output's circuits, quantity, constant and width. -/
  | pulseOutConfig (p : Packet)
  /-- PULSE_IN_CONFIG (R254): Waybill command assigning an S0 input to a circuit with its constant and timing. -/
  | pulseInConfig (p : Packet)
  /-- BALANCE_READ (R257): Command returning the newest balance record and waiting balances. -/
  | balanceRead (p : Packet)
  /-- HOLDUP_RESIDUE_READ (R260): Command returning the 16 most recent hold-up residues. -/
  | holdupResidueRead (p : Packet)
  /-- RADIO_CONFIG (R278): Waybill command configuring a radio's PHY, security, guard, PAN ID and key slot at its change instant. -/
  | radioConfig (p : Packet)
  /-- SLOT_PLAN_SET (R280): Waybill command setting a radio's slot plan at its change instant. -/
  | slotPlanSet (p : Packet)
  /-- HOP_SET (R277): Waybill command setting the channel plan, phases and regulatory limits at its change instant. -/
  | hopSet (p : Packet)
  /-- RADIO_STATUS (R286): Command returning a snapshot of a radio's state and counts. -/
  | radioStatus (p : Packet)
  /-- REGULATORY_STATUS (R279): Command returning the regulatory accounts of all radios and channels. -/
  | regulatoryStatus (p : Packet)
  /-- TX_POWER_SET (R285): Waybill command setting a radio's broadcast and unicast power. -/
  | txPowerSet (p : Packet)
  /-- PARTNER_STATUS (R302): Command returning a partner's state, radio, misses and assignments. -/
  | partnerStatus (p : Packet)
  /-- PARTNER_SLOT_ASSIGN (R301): Waybill command allocating, adding or releasing a partner's assignments or setting its report period. -/
  | partnerSlotAssign (p : Packet)
  /-- FAULT_LIST (R309): Command listing fault records. -/
  | faultList (p : Packet)
  /-- FAULT_ACK (R309): Waybill command acknowledging fault records. -/
  | faultAck (p : Packet)
  /-- SESSION_CONFIG (R311): Waybill command configuring a firmware session's targets, radios, overhead and duration. -/
  | sessionConfig (p : Packet)
  /-- SESSION_IMAGE_LOAD (R311): Command storing a chunk of a partner image in the log store. -/
  | sessionImageLoad (p : Packet)
  /-- SESSION_STATUS (R313): Command returning a session's state and target progress. -/
  | sessionStatus (p : Packet)
  /-- SESSION_ABORT (R313): Waybill command aborting a running session. -/
  | sessionAbort (p : Packet)
  /-- TIME_CONFIG (R320): Command setting domains, ports, mode, servo bandwidth, absorb limit and UTC offset. -/
  | timeConfig (p : Packet)
  /-- TIME_STATUS (R321): Command returning a snapshot of the time bases. -/
  | timeStatus (p : Packet)
  /-- TIME_SELECT (R328): Command switching TB_M to a named base at the next tick boundary. -/
  | timeSelect (p : Packet)
  /-- PTP_PORT_CONFIG (R318): Command configuring one PTP instance on one port. -/
  | ptpPortConfig (p : Packet)
  /-- PPS_CONFIG (R333): Command configuring PPS_IN monitoring and PPS_OUT. -/
  | ppsConfig (p : Packet)
  /-- RTC_SET (R340): Command sending a complete date and time as a commit to the calendar clock. -/
  | rtcSet (p : Packet)
  /-- RTC_GET (R339): Command returning calendar time read from one internal shadow. -/
  | rtcGet (p : Packet)
  /-- RTC_TRIM (R338): Command setting the calendar clock trim. -/
  | rtcTrim (p : Packet)
  /-- WAKE_SET (R346): Command configuring the wake timer period and WAKEN_EN. -/
  | wakeSet (p : Packet)
  /-- STORE_STATUS (R366): Command clearing latched store flags and returning store status. -/
  | storeStatus (p : Packet)
  /-- REGION_LIST (R356): Command returning per-region state, code, area and counts. -/
  | regionList (p : Packet)
  /-- PRUNER_CONFIG (R363): Command setting the Pruner overdue limit and evacuation threshold. -/
  | prunerConfig (p : Packet)
  /-- REGION_RETIRE (R359): Command queueing evacuation of a region or its test and return to service. -/
  | regionRetire (p : Packet)
  /-- KEY_GENERATE (R372): Command filling an empty slot with a key-import P-256 pair. -/
  | keyGenerate (p : Packet)
  /-- KEY_IMPORT (R372): Command filling an empty slot with a plain, wrapped or public key. -/
  | keyImport (p : Packet)
  /-- KEY_INFO (R368): Command returning a slot's state, attributes, fill count and key field. -/
  | keyInfo (p : Packet)
  /-- KEY_DESTROY (R373): Command erasing a slot's key. -/
  | keyDestroy (p : Packet)
  /-- ATTEST (R380): Command returning a signed attestation statement for a slot. -/
  | attest (p : Packet)
  /-- LIFECYCLE_SET (R378): Command changing the lifecycle under Table 4. -/
  | lifecycleSet (p : Packet)
  /-- DEBUG_UNLOCK (R379): Command opening the debug lock with a purpose-1 token until the next device reset. -/
  | debugUnlock (p : Packet)
  /-- GBK_READ (R381): Command returning Guestbook records from a sequence. -/
  | gbkRead (p : Packet)
  /-- GBK_CLEAR (R390): Command starting the erase of circulating records up to S with a purpose-3 token. -/
  | gbkClear (p : Packet)
  /-- GBK_STATUS (R388): Command returning Guestbook sequences, fill, losses and clearings. -/
  | gbkStatus (p : Packet)
  /-- TWIN_CONFIG (R392): Command enabling or disabling twin operation and setting its keys and addresses. -/
  | twinConfig (p : Packet)
  /-- TWIN_STATUS (R392): Command returning the twin role, epoch and peer state. -/
  | twinStatus (p : Packet)
  /-- TWIN_SWITCH (R402): Command ordering a handover on the active or a forced takeover on a standby. -/
  | twinSwitch (p : Packet)
  /-- PATH_STATUS (R391): Command returning backhaul, twin link and radio group path status. -/
  | pathStatus (p : Packet)
  /-- IMAGE_BEGIN (R424): Command starting staging, ordering a revert or setting the service address. -/
  | imageBegin (p : Packet)
  /-- IMAGE_DATA (R426): Command writing and reading back one chunk of a staged container. -/
  | imageData (p : Packet)
  /-- IMAGE_END (R425): Command checking the staged container's length and CRC and marking it STAGED. -/
  | imageEnd (p : Packet)
  /-- IMAGE_STATUS (R425): Command returning the staging session state. -/
  | imageStatus (p : Packet)
  /-- IMAGE_ABORT (R423): Command ending a STAGING or STAGED slot. -/
  | imageAbort (p : Packet)
  /-- FWSET_INFO (R423): Command returning running slot, stored epoch and both slot states. -/
  | fwsetInfo (p : Packet)
  /-- COUNTER_CONFIG (R432): Command writing a counter's source, enable and clear. -/
  | counterConfig (p : Packet)
  /-- COUNTER_SNAPSHOT (R433): Command taking a counter snapshot with cause 2 and returning it. -/
  | counterSnapshot (p : Packet)
  /-- TMUX_UNLOCK (R436): Command granting or ending a test multiplexer lease in FIELD. -/
  | tmuxUnlock (p : Packet)
  /-- SUPPLY_STATUS (R444): Command returning supply voltages, extremes, currents and flags. -/
  | supplyStatus (p : Packet)
  /-- THERMAL_CONFIG (R452): Command setting the thermal alert threshold and hysteresis. -/
  | thermalConfig (p : Packet)
  /-- POWER_REPORT (R450): Command returning per-supply power, energy, domains and temperatures. -/
  | powerReport (p : Packet)
  /-- REGISTER_WRITE (R8): Host write to a register without a row of its own, with access-code effects and R9 coincidence. -/
  | registerWrite (offset value size : Nat)
  /-- REGISTER_SHADOW_READ (R39): Read of TICK_NUM_LO, WBL_DIGEST0 or CNT_VAL_LO loading the companion registers into a shadow. -/
  | registerShadowRead (offset size : Nat)
  /-- SHADOW_TIMEOUT (R39): Release of a held tick, digest or counter shadow 1 ms after loading. -/
  | shadowTimeout (offset : Nat)
  /-- SPI_LINK_STATUS (R71): Quad SPI LINK_STATUS instruction returning READY, COPPICE and ERROR. -/
  | spiLinkStatus (instruction : Nat)
  /-- HOST_LINK_RESET (R70): PCI Express conventional or hot reset disabling rings and resetting ring and interrupt registers. -/
  | hostLinkReset
  /-- HOST_LINK_STATE (R70): PCI Express link coming up or going down. -/
  | hostLinkState (up : Bool) (speed msi : Nat) (aer : Bool)
  /-- RING_CTL_ENABLE (R82): Setting RING_CTL.ENABLE, resetting ring pointers and phase when inactive. -/
  | ringCtlEnable (ring value : Nat)
  /-- RING_CTL_DISABLE (R82): Clearing RING_CTL.ENABLE, stopping fetches while fetched commands complete. -/
  | ringCtlDisable (ring value : Nat)
  /-- CMD_TAIL_DOORBELL (R77): Write of CMD_TAIL posting descriptors, or ignored with DESC_ERR if it meets the head. -/
  | cmdTailDoorbell (ring value : Nat)
  /-- DESCRIPTOR_FETCH (R77): Fetch of a command descriptor and its packet, with descriptor, DMA and tag checks. -/
  | descriptorFetch (ring : Nat) (desc : List Byte) (packet : Option (List Byte))
  /-- COMPLETION_WRITE (R76): Writing a reply and its completion entry to the host, held while the completion ring is full. -/
  | completionWrite (ring : Nat)
  /-- CMP_HEAD_ADVANCE (R80): Write of CMP_HEAD freeing completion entries so held completions are written. -/
  | cmpHeadAdvance (ring value : Nat)
  /-- RING_MODERATION_TIMEOUT (R92): Expiry of MOD_US for the oldest unsignalled completion setting INT_STATUS.RING. -/
  | ringModerationTimeout (ring : Nat)
  /-- INTAKE_TIMEOUT (R83): Final TIMEOUT reply for a command with no ACCEPTED or final status 10 ms after the clerk read it. -/
  | intakeTimeout (path : Path) (tag : Nat)
  /-- MBX_POST (R86): Write of MBX_IDB.POST posting an inbound mailbox message. -/
  | mbxPost (mailbox value : Nat)
  /-- MBX_DISCARD (R87): Write of MBX_IDB.DISCARD discarding a partial packet and pending message. -/
  | mbxDiscard (mailbox value : Nat)
  /-- MBX_IACK (R88): Module acknowledgement of an inbound message with a return code within 2 ms. -/
  | mbxIack (mailbox : Nat)
  /-- MBX_OUTBOUND_POST (R90): Module posting an outbound reply or segment once the previous one is acknowledged. -/
  | mbxOutboundPost (mailbox : Nat)
  /-- MBX_OACK (R90): Host write of MBX_OACK releasing or re-requesting the posted outbound message. -/
  | mbxOack (mailbox value : Nat)
  /-- MBX_AGED (R90): Outbound message still posted 1 s after posting, setting AGED and the alert. -/
  | mbxAged (mailbox : Nat)
  /-- REMOTE_DATAGRAM (R109): Receipt of a remote UDP datagram, checked for format, CMAC and replay counter. -/
  | remoteDatagram (port addr udp dest : Nat) (b : List Byte)
  /-- SERVICE_CONNECTION_OPEN (R420): Opening of the single service port TCP connection; further attempts are reset. -/
  | serviceConnectionOpen
  /-- SERVICE_PACKET (R420): Receipt of a command packet on the service connection as master 2. -/
  | servicePacket (b : List Byte)
  /-- SERVICE_CONNECTION_CLOSE (R420): Closing of the service connection; later replies are not sent. -/
  | serviceConnectionClose
  /-- CLERK_ACCEPT (R20): Clerk acceptance of an input at its END word into the open waybill, or deferral when its quota is spent. -/
  | clerkAccept (cls index offset : Nat)
  /-- TICK_BOUNDARY (R20): TB_M reaching a tick boundary: seal, digest, post delivery and start of computations.
  `events`: what the stores show to the computations that start now. -/
  | tickBoundary (events : List StoreEvent)
  /-- CHANNEL_FAULT_DETECT (R48): Innkeeper detecting a fault cause and placing a CHANNEL_FAULT entry. -/
  | channelFaultDetect (channel : Handle) (cause : Nat)
  /-- ISSUE_STEP (R153): Device computation after all group computations, turning final levels into field-frame entries within budgets. -/
  | issueStep
  /-- RESULT_RELEASE (R22): Release of a computation's results, forming O(n) and replies, late if after tick n+1. -/
  | resultRelease
  /-- STREAM_MESSAGE_SEND (R117): Sending of a STREAM_DATA message when the window allows. -/
  | streamMessageSend (stream : Handle)
  /-- STREAM_RESEND (R117): Resending of an unacknowledged pushed stream message after its backoff. -/
  | streamResend (stream : Handle) (message : Nat)
  /-- REPLAY_TICK (R38): Replay of one tick comparing D(n) and O(n), ending or counting on mismatch. -/
  | replayTick
  /-- REBUILD_START (R51): Start of a channel rebuild at a boundary, replacing the computation of that tick. The owner is a channel's handle,
  or 0xF000_0000 plus 0 for the issue step, 1 for the partner step, 2 for device metering (R361). -/
  | rebuildStart (owner : Handle)
  /-- REBUILD_COMPLETE (R51): Completion or stop of a rebuild, placing CHANNEL_RESTORED or faulting with cause 0x03. -/
  | rebuildComplete (owner : Handle)
  /-- PLACEMENT_REVIEW (R59): Innkeeper review of lodgings at every 240th boundary or after a trigger, moving channels and gating wings. -/
  | placementReview (work moves : List (Nat × Nat)) (errors : List (Nat × Nat × Nat))
  /-- DATA_MOVE_COMPLETE (R56): Switch of a channel's data to its new region at the end of a data move. -/
  | dataMoveComplete (slot : Nat) (damaged : List Nat)
  /-- STILE_PACKET_READ (R64): Consumer reading a stile packet, correcting single-bit errors. -/
  | stilePacketRead (stile words corrected uncorrectable : Nat) (underrun : Bool) (stalls peak : Nat) (reader : Handle)
  /-- STILE_RESEND (R67): Sender repeating a lost message after 1 ms, restarting the far domain after a third loss. -/
  | stileResend (stile : Nat)
  /-- PLAN_SESSION_IDLE (R126): Abandonment of a staging session after 600 s without PLAN_LOAD or PLAN_COMMIT. -/
  | planSessionIdle
  /-- PLAN_COMMIT_RECORD_VALID (R129): Completion of plan preparation with the commit record's valid mark written. -/
  | planCommitRecordValid
  /-- OVERRIDE_EXPIRY (R147): Expiry of an override after 4d ticks. -/
  | overrideExpiry (group : Handle) (slot : Nat)
  /-- REFRESH_DUE (R155): A member whose last entry is older than the refresh interval becoming a refresh candidate. -/
  | refreshDue (lantern : Nat)
  /-- TRAVELLER_TIMEOUT (R172): Ending of a traveller whose effect instant exceeds anchor plus H plus C. -/
  | travellerTimeout (zone : Handle) (traveller : Nat)
  /-- OCCUPY_EXPIRY (R177): End of an OCCUPY hint after its duration. -/
  | occupyExpiry (zone : Handle) (link : Nat)
  /-- FAST_SAMPLE (R183): Fast-class loop sample at a base instant: sample, compute laws, resolve sets, integrate, apply outputs. -/
  | fastSample (sense : List (Option Int)) (ntc : List Nat) (vbus : List Int)
  /-- LOOP_RELEASE_EFFECT (R197): Pending release taking effect at the first sample with an empty queue. -/
  | loopReleaseEffect (slot : Nat)
  /-- DRIVE_ENTRY_RECEIVE (R207): Arrival in D10 of a lead lantern's entry for a luminaire. -/
  | driveEntryReceive
  /-- DRIVE_TICK_MESSAGE (R209): Tick message to D10 at each boundary, restarting luminaire fallback timers and advancing ramps. -/
  | driveTickMessage (ntc : List Nat) (vbus : List Int)
  /-- LUMINAIRE_FALLBACK (R209): Luminaire fallback timer reaching its delay and installing the fallback entry. -/
  | luminaireFallback (luminaire : Nat)
  /-- DIMMING_FRAME_START (R213): Start of a 2.5 ms dimming frame taking new pulse counts and set-points. -/
  | dimmingFrameStart
  /-- SWITCHING_CYCLE (R215): Start of a buck switching cycle driving DRV_G with readback. -/
  | switchingCycle (string subPeriod : Nat) (afterHigh afterLow : Bool)
  /-- COMPARATOR_TRIP (R216): Trip comparator forcing DRV_G low until the next cycle. -/
  | comparatorTrip (string : Nat)
  /-- METERING_SAMPLE (R223): Simultaneous conversion of all metering inputs at 16 kHz. -/
  | meteringSample (v i1 i16 vh : List Int) (cross : List Bool)
  /-- CAL_JOB_COMPLETE (R241): Completion or failure of a calibration job with its proposed constant. -/
  | calJobComplete (cause done volts amps freq : Nat) (mean angle : Int)
  /-- PULSE_OUT_EDGE (R251): Leading edge of an output pulse 30 ms after its crossing, or from the backlog. -/
  | pulseOutEdge (output : Nat)
  /-- PULSE_OUT_END (R251): End of an output pulse after its width. -/
  | pulseOutEnd (output : Nat)
  /-- PULSE_BACKLOG_AGED (R251): A pulse backlog above 0 for 60 s raising the METER alert. -/
  | pulseBacklogAged (output : Nat)
  /-- PULSE_IN_LEVEL_ACCEPT (R253): Acceptance of a debounced S0 level, counting or rejecting a pulse. -/
  | pulseInLevelAccept (input : Nat) (level : Bool) (heldMs : Nat)
  /-- INTERVAL_CLOSE (R247): Closing of an interval at a boundary or on a SHORT event, emitting its record. -/
  | intervalClose (circuit : Nat)
  /-- BALANCE_CLOSE (R257): Closing of an interval's balance when all lanterns are accounted or the delay passes. -/
  | balanceClose (circuit : Nat)
  /-- METRO_DOMAIN_GATE (R445): Gating of D9 after its idle conditions have held for 10 s, and ungating when one ends. -/
  | metroDomainGate (quiet : Bool)
  /-- PFW_ACCEPT (R446): Acceptance of PFW_N low for 50 us starting the last save. -/
  | pfwAccept (residue : Option (List (Nat × Nat))) (parts us : Nat)
  /-- LAST_SAVE_CANCEL (R261): Cancellation of the save when PFW_N has been high for 100 ms at a boundary. -/
  | lastSaveCancel
  /-- SLOT_START (R271): Start of a radio slot: beacon, field frames, downlink or bulk transmission, or receive window. -/
  | slotStart (radio slot : Nat) (sfdNs : Nat)
  /-- RADIO_ALERT_EXPIRY (R281): End of the 60 s RADIO alert after a refused fixed transmission. -/
  | radioAlertExpiry (radio : Nat)
  /-- FRAME_RECEIVE (R270): Receipt and verification of a frame, acknowledging and passing it as AIR_FRAME. -/
  | frameReceive (radio slot mini : Nat) (f : AirFrame)
  /-- RECEIVE_WINDOW_TIMEOUT (R275): Closing of an empty receive window after guard plus SHR without SFD. -/
  | receiveWindowTimeout (radio slot mini : Nat)
  /-- DOWNLINK_AGE_TIMEOUT (R284): Downlink frame waiting 120 s ending with AIR_TX_RESULT 2. -/
  | downlinkAgeTimeout (radio ref : Nat)
  /-- CHANGE_INSTANT (R278): A pending radio, slot plan or hop change taking effect at its change instant. -/
  | changeInstant (radio : Nat)
  /-- RADIO_FAIL (R286): Air sequencer declaring its radio failed and the group restarting. -/
  | radioFail (radio cause : Nat)
  /-- OCCURRENCE_MISSED (R303): An owned uplink occurrence not heard by tick t+4, counting toward ABSENT. -/
  | occurrenceMissed (partner index : Nat)
  /-- PRIMARY_RETURN_MOVE (R306): Sending a MOVE back to a partner's primary radio after it has run 600 s without failure. -/
  | primaryReturnMove (partner : Nat)
  /-- FAULT_METER_TEST (R310): Test of a LIGHT_OUT record against circuit power at tick o+8. -/
  | faultMeterTest (record : Nat)
  /-- SESSION_DURATION_EXPIRY (R313): End of a session's sending when its duration has passed. -/
  | sessionDurationExpiry (session : Handle)
  /-- PTP_MESSAGE_RECEIVE (R318): Receipt of a PTP message by an instance, feeding BMCA, servo and UTC offset. -/
  | ptpMessageReceive (port domain : Nat) (m : PtpKind)
  /-- BASE_HOLDOVER (R320): A base entering HOLDOVER after 2 s without samples or an announce timeout. -/
  | baseHoldover (base : Nat)
  /-- TBM_EVALUATION (R321): Evaluation of TB_M's offset every 62.5 ms, setting rate correction and state. -/
  | tbmEvaluation (taiNs : Nat)
  /-- TBM_STEP (R322): Step of TB_M at slot 19 of the tick, with TICK_SKIP or lengthened tick. -/
  | tbmStep
  /-- TBM_SWITCH (R328): Switch of TB_M to the other base at the next tick boundary. -/
  | tbmSwitch
  /-- TBL_COMPARISON (R332): Comparison of TB_L with UTC every 64 s, trimming or setting the calendar clock. -/
  | tblComparison
  /-- PPS_IN_EDGE (R333): Stamping of a PPS_IN edge and its offset check. -/
  | ppsInEdge (falling : Bool) (offset : Int)
  /-- PPS_IN_LOSS (R333): No PPS_IN edge for 2 s raising the TIME alert. -/
  | ppsInLoss
  /-- PPS_OUT_PULSE (R334): PPS_OUT active edge at each whole second plus offset. -/
  | ppsOutPulse (second : Nat)
  /-- RTC_CTL_COMMIT (R340): Write of RTC_CTL.COMMIT sending the staging registers as one commit. -/
  | rtcCtlCommit
  /-- RTC_CTL_SHADOW_REL (R339): Write of RTC_CTL.SHADOW_REL releasing the host shadow. -/
  | rtcCtlShadowRel
  /-- RTC_SHADOW_READ (R339): Read of a calendar register loading the shadow, or of RTC_YEAR releasing it. -/
  | rtcShadowRead (reg : Nat)
  /-- RTC_SHADOW_TIMEOUT (R339): Release of the calendar shadow 1 s after loading. -/
  | rtcShadowTimeout
  /-- RTC_COMMIT (R340): D0 validating and loading or rejecting a commit of date and time. -/
  | rtcCommit
  /-- RTC_TRIM_REGISTER_WRITE (R341): Host write of RTC_TRIM, ignored while DISCIPLINED. -/
  | rtcTrimRegisterWrite (value : Nat)
  /-- RTC_WAKE_WRITE (R346): Host write of RTC_WAKE restarting the wake timer at once. -/
  | rtcWakeWrite (value : Nat)
  /-- RTC_RANGE_END (R337): Rollover past 2199 to 2000 setting OSC_STOP with cause 3. -/
  | rtcRangeEnd
  /-- OSC_STOP_DETECT (R343): Oscillator stop or D0 supply dip setting OSC_STOP with its cause. -/
  | oscStopDetect (dip : Bool)
  /-- D0_SUPPLY_SWITCH (R345): D0 switching between VIO and VBAT at the thresholds. -/
  | d0SupplySwitch (millivolts : Nat)
  /-- VBAT_MEASURE (R345): Measurement of VBAT at boot and every 3,600 s, setting or clearing VBAT_LOW. -/
  | vbatMeasure (millivolts : Nat)
  /-- WAKE_FIRE (R346): Wake timer firing, setting WAKE and driving WAKE_N. -/
  | wakeFire
  /-- WAKE_N_RELEASE (R346): Release of WAKE_N 1 s after a firing. -/
  | wakeNRelease
  /-- PRUNER_BURST (R360): Pruner reading one 64-byte burst, correcting or poisoning words. -/
  | prunerBurst (words : List Nat) (owner : StoreOwner)
  /-- EVACUATION_START (R357): Start of a region evacuation when it is next and a target region is free. -/
  | evacuationStart
  /-- EVACUATION_COMPLETE (R357): Completion of a region's evacuation and its retirement. -/
  | evacuationComplete
  /-- REGION_TEST_COMPLETE (R359): End of a retired region's pattern test returning it to spare or leaving it retired. -/
  | regionTestComplete (region : Nat) (error : Bool)
  /-- PRUNER_OVERDUE (R363): Pruner lap exceeding the overdue limit. -/
  | prunerOverdue
  /-- MRAM_SCRUB (R364): Daily read of every persistent-store word. -/
  | mramScrub (errors : List MramError)
  /-- VAULT_REQUEST (R371): Vault serving one request from stile 40, ungating D11 as needed. -/
  | vaultRequest
  /-- GUESTBOOK_RECORD_ENTRY (R382): A record or repeat entering the front buffer, merged, stored or discarded on overflow. -/
  | guestbookRecordEntry (kind master : Nat) (detail : List Byte)
  /-- GUESTBOOK_DRAIN (R383): Move of one record from the front buffer to the persistent store with its sequence. -/
  | guestbookDrain
  /-- GBK_CTL_FREEZE (R389): Write of GBK_CTL.FREEZE starting or ending a freeze. -/
  | gbkCtlFreeze (value : Nat)
  /-- GBK_FREEZE_TIMEOUT (R389): End of a freeze 10 s after it began. -/
  | gbkFreezeTimeout (ms : Nat)
  /-- GBK_SEL_WRITE (R390): Write of GBK_SEL loading the selected record into GBK_DATA. -/
  | gbkSelWrite (value : Nat)
  /-- GBK_DATA15_READ (R390): Read of GBK_DATA15 with AUTO_INC advancing GBK_SEL and loading the next record. -/
  | gbkData15Read
  /-- GBK_ERASE_COMPLETE (R390): Completion of a Guestbook erase writing the 0x1302 record and replying. -/
  | gbkEraseComplete
  /-- HEARTBEAT_SEND (R396): Sending of a twin heartbeat every 125 ms on the twin link and UDP. -/
  | heartbeatSend
  /-- HEARTBEAT_RECEIVE (R393): Receipt of a peer heartbeat, resolving dual ACTIVE by epoch and rank. -/
  | heartbeatReceive (path : Nat) (b : List Byte)
  /-- HEARTBEAT_DEADLINE (R396): Heartbeat deadline evaluating misses, silent legs and currency for takeover. -/
  | heartbeatDeadline
  /-- TAKEOVER (R400): Standby entering ACTIVE at a boundary, sealing catch-up waybills with TAKEOVER entries. -/
  | takeover
  /-- WAYBILL_IMPORT (R397): Standby receiving and computing an exported waybill and comparing digests. -/
  | waybillImport (waybill : List Byte) (counters : List (Nat × Nat)) (windows : List (Nat × Nat × List Nat)) (digestTick : Nat) (digest : List Byte) (tainted : Bool)
  /-- TWIN_FRAME_RECEIVE (R395): Receipt of a twin-link frame, discarded if its tag fails. -/
  | twinFrameReceive (ok : Bool) (frame : TwinFrame)
  /-- TWIN_FRAME_RESEND (R395): Resending of a discarded twin-link frame after 1 ms. -/
  | twinFrameResend
  /-- JOIN_TIMEOUT (R392): A JOINING module with no ACTIVE peer entering ACTIVE after 2 s or 4 s. -/
  | joinTimeout
  /-- SYNC_COMPLETE (R399): Completion or refusal of a twin sync. -/
  | syncComplete (cause : Nat) (plan : InForce) (ckpt : Checkpoint) (waybills : List (List Byte))
  /-- SYNC_RETRY (R392): New sync request every 60 s after a refusal. -/
  | syncRetry
  /-- HANDOVER (R402): Handover of ACTIVE to the READY peer at switch tick S. -/
  | handover
  /-- LINK_STATE_CHANGE (R391): Change of link state on BH0 or BH1. -/
  | linkStateChange (port speed : Nat)
  /-- POWER_ON (R403): VIO and VCORE becoming good, sampling straps and releasing D1-D11. -/
  | powerOn (hostsel bootsel d0Kept : Bool) (lateMs : Nat)
  /-- PORST_N_LOW (R404): PORST_N low causing a power-on reset. -/
  | porstNLow (hostsel bootsel : Bool)
  /-- RST_N_LOW (R404): RST_N low pulse causing a device reset. -/
  | rstNLow (us : Nat) (takes : Bool)
  /-- RESET_DEVICE_ASSERT (R404): Device reset asserted 10 ms after the RESET_DEVICE reply left. -/
  | resetDeviceAssert
  /-- BOOT (R407): Boot from the release of the last reset source through firmware selection, restore and READY. -/
  | boot (readErrors refused badKeys damaged : List Nat) (failed : Bool)
  /-- RESUME_TICK_OPEN (R412): Opening of the RESUME tick once TB_M is not NONE, with RESUME, PLAN_SWITCH and HOLDUP entries. -/
  | resumeTickOpen (tick : Nat)
  /-- INK_BEAT (R417): Advance of INK_BEAT every 10 ms with a watchdog kick. -/
  | inkBeat
  /-- WATCHDOG_EXPIRY (R417): Watchdog expiry after 2,000 ms without a kick or READY not risen in 15 s. -/
  | watchdogExpiry (ms : Nat)
  /-- BOOT_ROM_SILENT (R418): Boot ROM not signalling its start within 100 ms, asserting PWRCYC_N. -/
  | bootRomSilent
  /-- PWRCYC_RELEASE (R418): Release of PWRCYC_N after VIO stays below 2.7 V for 450 ms. -/
  | pwrcycRelease
  /-- DOMAIN_RESTART_COMPLETE (R416): Completion of a domain restart and its reply. -/
  | domainRestartComplete (domain ms : Nat)
  /-- TRIAL_COMPLETE (R428): A TRIAL firmware set becoming ACTIVE after 600 s without code 5 or 6 reset. -/
  | trialComplete
  /-- IMAGE_STAGING_IDLE (R423): Staging slot returning to EMPTY after 600 s without IMAGE_DATA. -/
  | imageStagingIdle
  /-- SUPPLY_MONITOR_CROSSING (R444): A supply crossing a monitor threshold with its response and flag. -/
  | supplyMonitorCrossing (supply : Nat) (above beyond : Bool) (mv : Nat)
  /-- SEQUENCE_FAULT (R443): VCORE exceeding VIO by 0.3 V latching a sequence fault. -/
  | sequenceFault (vcore vio : Nat)
  /-- SEQUENCE_FAULT_CLEAR (R443): Clearing of the sequence fault after VIO below 0.5 V for 10 ms. -/
  | sequenceFaultClear (kept : Bool)
  /-- THERMAL_READING (R452): Temperature reading every 10 ms, entering or leaving thermal stages and derating. -/
  | thermalReading (temps : List Int) (mv ma : List Nat)
  /-- CNT_CTL_SNAP (R433): Write of CNT_CTL.SNAP taking a counter snapshot. -/
  | cntCtlSnap (value : Nat)
  /-- CNT_CTL_SNAP_CLEAR (R433): Write of CNT_CTL.SNAP_CLEAR taking a snapshot and clearing enabled counters. -/
  | cntCtlSnapClear (value : Nat)
  /-- CNT_CFG_WRITE (R432): Write of CNT_CFG, clearing the counter on a change of source. -/
  | cntCfgWrite (counter value : Nat)
  /-- COUNTER_CLEAR (R432): Write of CNT_CFG.CLEAR clearing one counter. -/
  | counterClear (counter value : Nat)
  /-- TMUX_LEASE_EXPIRY (R436): Expiry of a test multiplexer lease driving the TMUX pins low. -/
  | tmuxLeaseExpiry
  /-- BOUNDARY_SCAN_INSTRUCTION (R439): Loading of a TAP instruction, intrusive ones acting only under their conditions. -/
  | boundaryScanInstruction (code : Nat)
  /-- DRIVE_CONTROL_ARRIVAL (R194): Arrival in D10 through stile 38 of a tick's loop control and drive configuration: fast-slot coefficient writes, holds, fault clears and channel state changes. -/
  | driveControlArrival
  /-- METRO_CONTROL_ARRIVAL (R252): Arrival in D9 through stile 37 of metrology control, such as a pulse output or pulse input configuration. -/
  | metroControlArrival
  /-- ANNOUNCE_RECEIPT_TIMEOUT (R319): Announce receipt timeout of one PTP instance making it leave SLAVE, so that its base takes samples from the other port. -/
  | announceReceiptTimeout (port inst : Nat)
  /-- PTP_DELAY_REQ_SEND (R318): Periodic sending of Delay_Req or Pdelay_Req by a PTP instance at its logMin(P)DelayReqInterval, with its egress stamp kept. -/
  | ptpDelayReqSend (port inst : Nat) (stamp : Nat)
  /-- TWIN_LINK_STATE_CHANGE (R397): The twin link coming up or going down, changing how a standby's TB_M follows the active and whether the standby can be current. -/
  | twinLinkStateChange (up : Bool)
  /-- SLOT_ERASE_COMPLETE (R424): Completion of the erase of the target image slot begun by IMAGE_BEGIN, sending its reply and moving the session from erasing to receiving. -/
  | slotEraseComplete (ms : Nat) (ok : Bool)
  /-- IMAGE_READ_BACK_COMPLETE (R425): Completion of IMAGE_END's read-back and CRC check, making the slot STAGED or EMPTY and releasing any IMAGE_ABORT that waited. -/
  | imageReadBackComplete (readError : Bool)
  deriving DecidableEq, Repr

end Sys2Proof
end

