-- ==== Sys2Proof/Decode.lean ====
section
/-!
DEFINITION. Decode.lean: the command that a word spells. The spec's table of operations and events gives no row any bits: a command
comes to the block as a packet or as an event, never as an instruction word. No word spells one.
-/
namespace Sys2Proof

/-- No row of the table has bits. -/
def decodeTableWord (_nbits _w : Nat) : Option Instr := none

end Sys2Proof
end

