-- ==== Sys2Proof/Machine/Bits.lean ====
section
/-!
DEFINITION. Machine/Bits.lean: byte order, bit fields and fixed-point numbers (R6, R7), handle fields (R41).
-/
namespace Sys2Proof.Machine

/-- The `n` little-endian bytes of `v` (R6). -/
def le : Nat → Nat → List Byte
  | 0, _ => []
  | n + 1, v => BitVec.ofNat 8 v :: le n (v / 256)

/-- The number that little-endian bytes spell (R6). -/
def unle : List Byte → Nat
  | [] => 0
  | b :: bs => b.toNat + 256 * unle bs

/-- The unsigned field of `n` bytes at offset `off`; bytes beyond the end read as 0. -/
def fld (bs : List Byte) (off n : Nat) : Nat := unle ((bs.drop off).take n)

/-- An unsigned number of `bits` bits read as two's complement (R7). -/
def toSigned (bits v : Nat) : Int :=
  if v % 2 ^ bits < 2 ^ (bits - 1) then (v % 2 ^ bits : Nat) else (v % 2 ^ bits : Nat) - (2 ^ bits : Nat)

/-- The two's-complement pattern of `i` in `bits` bits (R7). -/
def ofSigned (bits : Nat) (i : Int) : Nat := (i % (2 ^ bits : Nat)).toNat

/-- The signed field of `n` bytes at offset `off`. -/
def fldS (bs : List Byte) (off n : Nat) : Int := toSigned (8 * n) (fld bs off n)

/-- The `n` little-endian bytes of a signed number. -/
def leS (n : Nat) (i : Int) : List Byte := le n (ofSigned (8 * n) i)

/-- `n` zero bytes. -/
def zeros (n : Nat) : List Byte := List.replicate n 0

/-- The bytes cut or zero-padded to length `n`. -/
def fit (n : Nat) (bs : List Byte) : List Byte := (bs ++ zeros n).take n

/-- Zero bytes to the next multiple of 8. -/
def pad8 (bs : List Byte) : List Byte := bs ++ zeros ((8 - bs.length % 8) % 8)

/-- Bit `k` of a number. -/
def bit (v k : Nat) : Bool := v.testBit k

/-- 1 or 0. -/
def b2n (b : Bool) : Nat := if b then 1 else 0

/-- Bits [lo + n − 1 : lo] of a number. -/
def bits (v lo n : Nat) : Nat := v / 2 ^ lo % 2 ^ n

/-- Saturating addition at `2 ^ w − 1`. -/
def satAdd (w a b : Nat) : Nat := min (a + b) (2 ^ w - 1)

/-- A signed number held within a range. -/
def clampI (lo hi x : Int) : Int := max lo (min hi x)

/-- Division rounding half away from zero. -/
def roundDiv (a : Int) (b : Nat) : Int :=
  if 0 ≤ a then ((a.toNat * 2 + b) / (2 * b) : Nat) else -(((-a).toNat * 2 + b) / (2 * b) : Nat)

/-- Integer square root. -/
def isqrt (n : Nat) : Nat := n.sqrt

/-- The digest as 32 bytes, first byte first. -/
def digestBytes (d : BitVec 256) : List Byte := le 32 d.toNat

/-- The null handle and the device pseudo-handle (R41). -/
def nullHandle : Handle := 0
@[inherit_doc nullHandle] def deviceHandle : Handle := 0xF0000000#32

/-- The owner that stands for a device computation of R361 Table 7: 0 the issue step, 1 the partner step, 2 the device metering state. What
the outside sees of all three is 0xF000_0000. -/
def compOwner (k : Nat) : Handle := BitVec.ofNat 32 (0xF0000000 + k % 3)

/-- Handle fields (R41 Table 1). -/
def hType (h : Handle) : Nat := bits h.toNat 28 4
@[inherit_doc hType] def hGen (h : Handle) : Nat := bits h.toNat 12 16
@[inherit_doc hType] def hSlot (h : Handle) : Nat := bits h.toNat 0 12

/-- An owner as records show it. -/
def ownerShown (h : Handle) : Handle := if hType h == 15 then deviceHandle else h

/-- The handle of a type, a generation and a slot (R41 Table 1). -/
def mkHandle (type gen slot : Nat) : Handle := BitVec.ofNat 32 (type * 2 ^ 28 + gen % 2 ^ 16 * 2 ^ 12 + slot % 2 ^ 12)

/-- Replace the element at a place of a list. -/
def setAt {α : Type} (l : List α) (i : Nat) (x : α) : List α := l.set i x

/-- Change the element at a place of a list. -/
def modAt {α : Type} (l : List α) (i : Nat) (f : α → α) : List α := l.modify i f

/-- Keep the newest `n` of a list whose newest stands last. -/
def lastN {α : Type} (n : Nat) (l : List α) : List α := l.drop (l.length - n)

/-- Insert or replace in a key-sorted list. -/
def put {α : Type} (k : Nat) (v : α) : List (Nat × α) → List (Nat × α)
  | [] => [(k, v)]
  | (k', v') :: r => if k < k' then (k, v) :: (k', v') :: r else if k = k' then (k, v) :: r else (k', v') :: put k v r

/-- Remove a key. -/
def del {α : Type} (k : Nat) (l : List (Nat × α)) : List (Nat × α) := l.filter (fun p => p.1 ≠ k)

/-- Look a key up. -/
def look {α : Type} (k : Nat) (l : List (Nat × α)) : Option α := (l.find? (fun p => p.1 == k)).map (·.2)

/-- Look a key up, with a default. -/
def lookD {α : Type} (k : Nat) (d : α) (l : List (Nat × α)) : α := (look k l).getD d

/-- Sum of a list. -/
def sumBy {α : Type} (f : α → Nat) (l : List α) : Nat := l.foldl (fun a x => a + f x) 0

/-- Insertion sort by a key; equal keys keep their order. -/
def insertBy {α : Type} (f : α → Nat) (x : α) : List α → List α
  | [] => [x]
  | y :: ys => if f x < f y then x :: y :: ys else y :: insertBy f x ys
@[inherit_doc insertBy] def sortBy {α : Type} (f : α → Nat) (l : List α) : List α := l.foldl (fun acc x => insertBy f x acc) []

end Sys2Proof.Machine
end

