-- ==== Sys2Proof/Machine/Operands.lean ====
section
/-!
DEFINITION. Machine/Operands.lean: the opcode index (R120 Table 8): for each opcode whether it enters the waybill
(W), whether it accepts EMERGENCY (E), which masters may issue it, which handle it takes (R45), and which payload
lengths its definition allows (R101 check 7); and the fields of a packet header (R95).
-/
namespace Sys2Proof.Machine

/-- Which handle an opcode takes: the device pseudo-handle, a channel of one type (0: of any type), or either. -/
inductive HandleKind where
  | device
  | channel (type : Nat)
  | deviceOr (type : Nat)
  deriving DecidableEq, Repr

/-- One row of the opcode index. -/
structure OpInfo where
  w : Bool := false
  e : Bool := false
  masters : List Nat := [0, 1, 2, 3, 4]
  handle : HandleKind := .device
  len : List Byte → Bool

/-- The payload has exactly `n` bytes. -/
def lenIs (n : Nat) : List Byte → Bool := fun b => b.length == n

/-- The payload has `base` bytes and `size` more for each item, with the item count in the byte at `off`. -/
def lenItems (base size off : Nat) : List Byte → Bool := fun b => base ≤ b.length && b.length == base + size * fld b off 1

/-- The item size of a PLAN_LOAD section (Table 7 of ch. 6); 0: unknown section. -/
def planItemSize (sec : Nat) : Nat :=
  match sec with
  | 1 => 48 | 2 => 16 | 3 => 24 | 4 => 32 | 5 => 8 | _ => 0

/-- PLAN_LOAD: 8 bytes and count times the item size; the length of an unknown section is judged with it. -/
def lenPlanLoad : List Byte → Bool := fun b => 8 ≤ b.length && (planItemSize (fld b 0 1) == 0 || b.length == 8 + fld b 2 2 * planItemSize (fld b 0 1))

/-- The packet header and payload as the bytes of a COMMAND entry, with the master ID filled in (R95, Table 5). -/
def packetBytes (master : Nat) (p : Packet) : List Byte :=
  le 1 p.version ++ le 1 p.flags ++ le 2 p.opcode ++ le 1 p.tag ++ le 1 master ++ le 2 p.length ++
    le 4 p.handle.toNat ++ le 4 p.seq ++ p.payload

/-- A packet read from the bytes received on a path (R95 Table 1). -/
def parsePacket (path : Path) (b : List Byte) : Packet :=
  { path, version := fld b 0 1, flags := fld b 1 1, opcode := fld b 2 2, tag := fld b 4 1, length := fld b 6 2,
    handle := BitVec.ofNat 32 (fld b 8 4), seq := fld b 12 4, payload := b.drop 16, received := b.length }

end Sys2Proof.Machine

namespace Sys2Proof

/-- Header flag EMERGENCY (R96). -/
def Packet.emergency (p : Packet) : Bool := Machine.bit p.flags 0

/-- Header flag NO_REPLY (R96). -/
def Packet.noReply (p : Packet) : Bool := Machine.bit p.flags 1

/-- Header flag WAYBILL_ECHO (R96). -/
def Packet.wantsEcho (p : Packet) : Bool := Machine.bit p.flags 2

end Sys2Proof

namespace Sys2Proof.Machine

/-- The opcodes of area 0x00 (R120 Table 8). -/
def opInfo00 (op : Nat) : Option OpInfo :=
  match op with
  | 0x0001 => some { len := lenIs 0 }  -- DEVICE_INFO
  | 0x0002 => some { len := (fun b => b.length ≤ 4080) }  -- ECHO
  | 0x0010 => some { len := lenIs 0 }  -- RANK_GET
  | 0x0011 => some { w := true, masters := [0,1,2,3], len := lenIs 8 }  -- RANK_SET
  | 0x0018 => some { len := lenIs 0 }  -- MAILBOX_BIND_GET
  | 0x0019 => some { masters := [2], len := (fun b => b.length == 32 || b.length == 0) }  -- MAILBOX_BIND_SET
  | 0x0020 => some { len := lenIs 0 }  -- REMOTE_CFG_GET
  | 0x0021 => some { masters := [0,1,2], len := lenIs 8 }  -- REMOTE_CFG_SET
  | 0x0040 => some { w := true, handle := .channel 8, len := lenItems 32 8 1 }  -- STREAM_CONFIG
  | 0x0041 => some { handle := .channel 8, len := lenIs 16 }  -- STREAM_CREDIT
  | 0x0042 => some { handle := .channel 8, len := lenIs 16 }  -- STREAM_READ
  | 0x0043 => some { handle := .channel 8, len := lenIs 0 }  -- STREAM_STATUS
  | 0x0008 => some { masters := [0,1,2,3], len := lenIs 8 }  -- RESET_DEVICE
  | 0x0009 => some { masters := [0,1,2,3,5], len := lenIs 8 }  -- DOMAIN_RESTART
  | 0x000A => some { len := lenIs 0 }  -- BOOT_REPORT
  | 0x000B => some { len := lenIs 0 }  -- RECOVERY_STATUS
  | _ => none

/-- The opcodes of area 0x01 (R120 Table 8). -/
def opInfo01 (op : Nat) : Option OpInfo :=
  match op with
  | 0x0101 => some { w := true, len := lenIs 24 }  -- CHANNEL_CREATE
  | 0x0102 => some { w := true, handle := .channel 0, len := lenIs 0 }  -- CHANNEL_START
  | 0x0103 => some { w := true, handle := .channel 0, len := lenIs 0 }  -- CHANNEL_HOLD
  | 0x0104 => some { w := true, handle := .channel 0, len := lenIs 0 }  -- CHANNEL_RELEASE
  | 0x0105 => some { w := true, handle := .channel 0, len := lenIs 0 }  -- CHANNEL_DESTROY
  | 0x0106 => some { handle := .channel 0, len := lenIs 0 }  -- CHANNEL_RESET
  | 0x0107 => some { handle := .channel 0, len := lenIs 0 }  -- CHANNEL_INFO
  | 0x0108 => some { len := lenIs 4 }  -- CHANNEL_LIST
  | 0x0110 => some { handle := .channel 0, len := lenIs 0 }  -- LODGING_GET
  | 0x0111 => some { handle := .channel 0, len := lenIs 8 }  -- PLACEMENT_HINT
  | 0x0112 => some { handle := .channel 0, len := lenIs 4 }  -- CHANNEL_PIN
  | 0x0113 => some { len := lenIs 0 }  -- ENGINE_STATUS
  | _ => none

/-- The opcodes of area 0x02 (R120 Table 8). -/
def opInfo02 (op : Nat) : Option OpInfo :=
  match op with
  | 0x0201 => some { len := lenIs 0 }  -- QUOTA_GET
  | 0x0202 => some { w := true, len := lenItems 8 8 0 }  -- QUOTA_SET
  | 0x0210 => some { len := lenIs 16 }  -- WAYBILL_READ
  | 0x0211 => some { len := lenIs 16 }  -- DIGEST_READ
  | 0x0212 => some { len := lenIs 0 }  -- CHECKPOINT_LIST
  | 0x0220 => some { len := lenIs 20 }  -- REPLAY
  | 0x0221 => some { len := lenIs 0 }  -- REPLAY_STATUS
  | 0x0222 => some { len := lenIs 0 }  -- REPLAY_ABORT
  | _ => none

/-- The opcodes of area 0x03 (R120 Table 8). -/
def opInfo03 (op : Nat) : Option OpInfo :=
  match op with
  | 0x0301 => some { len := lenIs 8 }  -- PLAN_BEGIN
  | 0x0302 => some { len := lenPlanLoad }  -- PLAN_LOAD
  | 0x0303 => some { w := true, len := lenIs 8 }  -- PLAN_COMMIT
  | 0x0304 => some { len := lenIs 0 }  -- PLAN_ABORT
  | 0x0305 => some { len := lenIs 0 }  -- PLAN_STATUS
  | 0x0310 => some { len := lenIs 8 }  -- REGISTRY_GET
  | 0x0311 => some { handle := .channel 8, len := lenIs 8 }  -- REGISTRY_EXPORT
  | 0x0312 => some { len := lenIs 20 }  -- REGISTRY_FIND
  | _ => none

/-- The opcodes of area 0x04 (R120 Table 8). -/
def opInfo04 (op : Nat) : Option OpInfo :=
  match op with
  | 0x0401 => some { w := true, handle := .channel 1, len := lenIs 16 }  -- GROUP_CONFIG
  | 0x0402 => some { w := true, handle := .channel 1, len := lenItems 4 4 1 }  -- GROUP_MEMBERS
  | 0x0403 => some { handle := .channel 1, len := lenIs 0 }  -- GROUP_STATUS
  | 0x0404 => some { len := lenIs 8 }  -- LANTERN_LEVEL_GET
  | 0x0410 => some { w := true, handle := .channel 2, len := lenItems 48 132 40 }  -- SCHEDULE_CONFIG
  | 0x0411 => some { w := true, handle := .channel 2, len := lenItems 8 8 0 }  -- HOLIDAY_SET
  | 0x0412 => some { handle := .channel 2, len := lenIs 8 }  -- SOLAR_GET
  | 0x0420 => some { w := true, e := true, handle := .channel 1, len := lenIs 16 }  -- OVERRIDE
  | 0x0421 => some { w := true, e := true, handle := .channel 1, len := lenIs 4 }  -- OVERRIDE_CANCEL
  | 0x0430 => some { w := true, handle := .channel 1, len := lenItems 8 8 0 }  -- CURFEW_SET
  | 0x0431 => some { w := true, handle := .deviceOr 1, len := lenIs 8 }  -- FALLBACK_SET
  | _ => none

/-- The opcodes of area 0x05 (R120 Table 8). -/
def opInfo05 (op : Nat) : Option OpInfo :=
  match op with
  | 0x0501 => some { w := true, handle := .channel 3, len := fun b => 16 ≤ b.length && b.length == 16 + 2 * fld b 12 2 }  -- ESCORT_CONFIG
  | 0x0502 => some { w := true, handle := .channel 3, len := lenIs 24 }  -- ESCORT_PROFILE
  | 0x0503 => some { w := true, handle := .channel 3, len := fun b => 4 ≤ b.length && b.length == (if bit (fld b 2 1) 0 then 4 else 132) }  -- CHAINAGE_SET
  | 0x0504 => some { w := true, handle := .channel 3, len := fun b => 4 ≤ b.length && (match fld b 0 1 with | 1 => 12 ≤ b.length && b.length == 12 + 4 * fld b 8 1 | 2 => b.length == 24 | 3 => b.length == 12 | _ => true) }  -- TRAFFIC_HINT
  | 0x0505 => some { handle := .channel 3, len := lenIs 0 }  -- ESCORT_STATUS
  | 0x0506 => some { handle := .channel 3, len := lenIs 8 }  -- TRACK_LIST
  | _ => none

/-- The opcodes of area 0x06 (R120 Table 8). -/
def opInfo06 (op : Nat) : Option OpInfo :=
  match op with
  | 0x0601 => some { w := true, handle := .channel 0, len := lenIs 64 }  -- LOOP_CONFIG
  | 0x0602 => some { w := true, handle := .channel 0, len := lenItems 8 8 1 }  -- LOOP_COEFF
  | 0x0603 => some { w := true, handle := .channel 0, len := lenIs 132 }  -- LOOP_COMP_TABLE
  | 0x0604 => some { w := true, handle := .channel 0, len := lenIs 4 }  -- LOOP_HOLD
  | 0x0605 => some { w := true, handle := .channel 0, len := lenIs 4 }  -- LOOP_RELEASE
  | 0x0606 => some { handle := .channel 0, len := lenIs 8 }  -- LOOP_STATUS
  | 0x0607 => some { w := true, handle := .channel 0, len := lenIs 8 }  -- CONTENTION_SET
  | 0x0608 => some { w := true, handle := .channel 0, len := lenIs 12 }  -- OSC_CONFIG
  | 0x0610 => some { w := true, handle := .channel 9, len := lenIs 32 }  -- TRACE_CONFIG
  | 0x0611 => some { handle := .channel 9, len := lenIs 4 }  -- TRACE_ARM
  | 0x0612 => some { handle := .channel 9, len := lenIs 8 }  -- TRACE_READ
  | _ => none

/-- The opcodes of area 0x07 (R120 Table 8). -/
def opInfo07 (op : Nat) : Option OpInfo :=
  match op with
  | 0x0701 => some { w := true, handle := .channel 5, len := lenIs 24 }  -- LUMINAIRE_CONFIG
  | 0x0702 => some { w := true, handle := .channel 5, len := lenIs 24 }  -- STRING_CONFIG
  | 0x0703 => some { w := true, handle := .channel 5, len := lenIs 36 }  -- COLOUR_TABLE
  | 0x0704 => some { w := true, handle := .channel 5, len := lenIs 8 }  -- DERATE_SET
  | 0x0705 => some { handle := .channel 5, len := lenIs 0 }  -- DRIVE_STATUS
  | 0x0706 => some { w := true, handle := .channel 5, len := lenIs 4 }  -- STRING_FAULT_CLEAR
  | _ => none

/-- The opcodes of area 0x08 (R120 Table 8). -/
def opInfo08 (op : Nat) : Option OpInfo :=
  match op with
  | 0x0801 => some { w := true, handle := .channel 4, len := lenIs 32 }  -- CIRCUIT_CONFIG
  | 0x0802 => some { w := true, len := lenIs 16 }  -- METER_INPUT_CONFIG
  | 0x0803 => some { len := lenIs 24 }  -- CAL_START
  | 0x0804 => some { len := lenIs 0 }  -- CAL_STATUS
  | 0x0805 => some { w := true, len := lenIs 20 }  -- CAL_COMMIT
  | 0x0806 => some { handle := .channel 4, len := lenIs 0 }  -- METER_READ
  | 0x0807 => some { handle := .channel 4, len := lenIs 4 }  -- HARMONICS_READ
  | 0x0820 => some { handle := .channel 4, len := lenIs 0 }  -- ENERGY_READ
  | 0x0821 => some { w := true, handle := .channel 4, len := lenIs 12 }  -- INTERVAL_CONFIG
  | 0x0822 => some { handle := .deviceOr 4, len := lenIs 8 }  -- INTERVAL_READ
  | 0x0823 => some { w := true, len := lenIs 12 }  -- PULSE_OUT_CONFIG
  | 0x0824 => some { w := true, len := lenIs 12 }  -- PULSE_IN_CONFIG
  | 0x0825 => some { handle := .channel 4, len := lenIs 0 }  -- BALANCE_READ
  | 0x0826 => some { len := lenIs 0 }  -- HOLDUP_RESIDUE_READ
  | _ => none

/-- The opcodes of area 0x09 (R120 Table 8). -/
def opInfo09 (op : Nat) : Option OpInfo :=
  match op with
  | 0x0901 => some { w := true, len := lenIs 24 }  -- RADIO_CONFIG
  | 0x0902 => some { w := true, len := lenIs 64 }  -- SLOT_PLAN_SET
  | 0x0903 => some { w := true, masters := [0,1,2,3], len := lenItems 20 1 6 }  -- HOP_SET
  | 0x0904 => some { len := lenIs 8 }  -- RADIO_STATUS
  | 0x0905 => some { len := lenIs 0 }  -- REGULATORY_STATUS
  | 0x0906 => some { w := true, len := lenIs 8 }  -- TX_POWER_SET
  | _ => none

/-- The opcodes of area 0x0A (R120 Table 8). -/
def opInfo0A (op : Nat) : Option OpInfo :=
  match op with
  | 0x0A01 => some { len := lenIs 8 }  -- PARTNER_STATUS
  | 0x0A02 => some { w := true, len := fun b => 8 ≤ b.length && b.length == (if fld b 2 1 == 1 then 22 else 8) }  -- PARTNER_SLOT_ASSIGN
  | 0x0A03 => some { len := lenIs 8 }  -- FAULT_LIST
  | 0x0A04 => some { w := true, len := lenItems 4 4 0 }  -- FAULT_ACK
  | 0x0A10 => some { w := true, handle := .channel 7, len := lenIs 16 }  -- SESSION_CONFIG
  | 0x0A11 => some { handle := .channel 7, len := fun b => 13 ≤ b.length && b.length ≤ 4080 }  -- SESSION_IMAGE_LOAD
  | 0x0A12 => some { handle := .channel 7, len := lenIs 0 }  -- SESSION_STATUS
  | 0x0A13 => some { w := true, handle := .channel 7, len := lenIs 0 }  -- SESSION_ABORT
  | _ => none

/-- The opcodes of area 0x0B (R120 Table 8). -/
def opInfo0B (op : Nat) : Option OpInfo :=
  match op with
  | 0x0B01 => some { len := lenIs 24 }  -- TIME_CONFIG
  | 0x0B02 => some { len := lenIs 0 }  -- TIME_STATUS
  | 0x0B03 => some { len := lenIs 4 }  -- TIME_SELECT
  | 0x0B04 => some { len := lenIs 20 }  -- PTP_PORT_CONFIG
  | 0x0B05 => some { len := lenIs 24 }  -- PPS_CONFIG
  | _ => none

/-- The opcodes of area 0x0C (R120 Table 8). -/
def opInfo0C (op : Nat) : Option OpInfo :=
  match op with
  | 0x0C01 => some { len := lenIs 12 }  -- RTC_SET
  | 0x0C02 => some { len := lenIs 0 }  -- RTC_GET
  | 0x0C03 => some { len := lenIs 4 }  -- RTC_TRIM
  | 0x0C04 => some { len := lenIs 8 }  -- WAKE_SET
  | _ => none

/-- The opcodes of area 0x0D (R120 Table 8). -/
def opInfo0D (op : Nat) : Option OpInfo :=
  match op with
  | 0x0D01 => some { len := lenIs 8 }  -- STORE_STATUS
  | 0x0D02 => some { len := lenIs 8 }  -- REGION_LIST
  | 0x0D03 => some { len := lenIs 8 }  -- PRUNER_CONFIG
  | 0x0D04 => some { len := lenIs 8 }  -- REGION_RETIRE
  | _ => none

/-- The opcodes of area 0x0E (R120 Table 8). -/
def opInfo0E (op : Nat) : Option OpInfo :=
  match op with
  | 0x0E01 => some { len := lenIs 8 }  -- KEY_GENERATE
  | 0x0E02 => some { len := (fun b => [24, 40, 72, 116, 132].contains b.length) }  -- KEY_IMPORT
  | 0x0E03 => some { len := lenIs 8 }  -- KEY_INFO
  | 0x0E04 => some { len := lenIs 8 }  -- KEY_DESTROY
  | 0x0E05 => some { len := lenIs 40 }  -- ATTEST
  | 0x0E06 => some { masters := [2], len := (fun b => b.length == if fld b 0 1 == 3 then 104 else 8) }  -- LIFECYCLE_SET
  | 0x0E07 => some { masters := [2], len := lenIs 96 }  -- DEBUG_UNLOCK
  | _ => none

/-- The opcodes of area 0x0F (R120 Table 8). -/
def opInfo0F (op : Nat) : Option OpInfo :=
  match op with
  | 0x0F01 => some { len := lenIs 8 }  -- GBK_READ
  | 0x0F02 => some { len := lenIs 96 }  -- GBK_CLEAR
  | 0x0F03 => some { len := lenIs 0 }  -- GBK_STATUS
  | _ => none

/-- The opcodes of area 0x10 (R120 Table 8). -/
def opInfo10 (op : Nat) : Option OpInfo :=
  match op with
  | 0x1001 => some { len := lenIs 64 }  -- TWIN_CONFIG
  | 0x1002 => some { len := lenIs 0 }  -- TWIN_STATUS
  | 0x1003 => some { len := lenIs 8 }  -- TWIN_SWITCH
  | 0x1004 => some { len := lenIs 0 }  -- PATH_STATUS
  | _ => none

/-- The opcodes of area 0x11 (R120 Table 8). -/
def opInfo11 (op : Nat) : Option OpInfo :=
  match op with
  | 0x1101 => some { masters := [2,8], len := lenIs 16 }  -- IMAGE_BEGIN
  | 0x1102 => some { masters := [2,8], len := (fun b => 9 ≤ b.length && b.length ≤ 4080) }  -- IMAGE_DATA
  | 0x1103 => some { masters := [2,8], len := lenIs 0 }  -- IMAGE_END
  | 0x1104 => some { len := lenIs 0 }  -- IMAGE_STATUS
  | 0x1105 => some { masters := [2,8], len := lenIs 0 }  -- IMAGE_ABORT
  | 0x1106 => some { len := lenIs 0 }  -- FWSET_INFO
  | _ => none

/-- The opcodes of area 0x12 (R120 Table 8). -/
def opInfo12 (op : Nat) : Option OpInfo :=
  match op with
  | 0x1201 => some { len := lenIs 8 }  -- COUNTER_CONFIG
  | 0x1202 => some { len := lenIs 8 }  -- COUNTER_SNAPSHOT
  | 0x1203 => some { masters := [2], len := lenIs 8 }  -- TMUX_UNLOCK
  | _ => none

/-- The opcodes of area 0x13 (R120 Table 8). -/
def opInfo13 (op : Nat) : Option OpInfo :=
  match op with
  | 0x1301 => some { len := lenIs 8 }  -- SUPPLY_STATUS
  | 0x1302 => some { len := lenIs 8 }  -- THERMAL_CONFIG
  | 0x1303 => some { len := lenIs 0 }  -- POWER_REPORT
  | _ => none

/-- The opcode index (R120 Table 8); none: not an opcode of the module. -/
def opInfo (op : Nat) : Option OpInfo :=
  match op / 256 with
  | 0x00 => opInfo00 op
  | 0x01 => opInfo01 op
  | 0x02 => opInfo02 op
  | 0x03 => opInfo03 op
  | 0x04 => opInfo04 op
  | 0x05 => opInfo05 op
  | 0x06 => opInfo06 op
  | 0x07 => opInfo07 op
  | 0x08 => opInfo08 op
  | 0x09 => opInfo09 op
  | 0x0A => opInfo0A op
  | 0x0B => opInfo0B op
  | 0x0C => opInfo0C op
  | 0x0D => opInfo0D op
  | 0x0E => opInfo0E op
  | 0x0F => opInfo0F op
  | 0x10 => opInfo10 op
  | 0x11 => opInfo11 op
  | 0x12 => opInfo12 op
  | 0x13 => opInfo13 op
  | _ => none

end Sys2Proof.Machine
end

