-- ==== Sys2Proof/Config.lean ====
section
/-!
DEFINITION. Config.lean: what one part or one unit fixes, the standard functions the spec names without spelling
them out, and the free values. None of these constants has a body that Lean can see into: a statement about the
model holds whatever they are.
-/
namespace Sys2Proof.Config

/-- Free values: what the spec leaves open is this function applied to the state's own counter of values drawn so
far (DESIGN CHOICE, log entry 1; safe). -/
opaque freeValue : Nat → Nat

/-- The ordering code of the part: true for SPT-9640-N1 (902 to 928 MHz), false for SPT-9640-E1 (R1). -/
opaque isN1 : Bool

/-- The 64-bit unit serial (DEV_SERIAL). -/
opaque unitSerial : BitVec 64

/-- SHA-256 of a byte string (R30 to R33 name the function and not its definition; log entry 2, safe). -/
opaque sha256 : List Byte → Digest

/-- AES-CMAC-128 of a message under a key, first 8 bytes as a number (R108). -/
opaque cmac : List Byte → List Byte → BitVec 64

/-- The SHA-256-based key derivation and AES-CCM* sealing of air frames: the MIC of a frame under a key (ch. 14, 18). -/
opaque ccmMic : List Byte → List Byte → Nat

/-- AES-CCM* encryption and decryption of a payload under a key and a nonce. -/
opaque ccmCrypt : List Byte → List Byte → List Byte → List Byte

/-- ECDSA P-256 verification: public key, message, signature (ch. 18, 22). -/
opaque ecdsaVerify : List Byte → List Byte → List Byte → Bool

/-- ECDSA P-256 signature of a message under a private key. -/
opaque ecdsaSign : List Byte → List Byte → List Byte

/-- The public key of a private key. -/
opaque ecdsaPublic : List Byte → List Byte

/-- The vault's derivation of a key from a master key and an input (ch. 18). -/
opaque deriveKey : List Byte → List Byte → List Byte

/-- The vault's random generator: the draw with that number (ch. 18; free value). -/
opaque vaultRandom : Nat → List Byte

/-- Key wrapping: the payload a wrapped key yields under a transport key, or none when it does not verify (ch. 18). -/
opaque unwrapKey : List Byte → List Byte → Option (List Byte)

/-- What a division by 0 answers where the spec gives a quotient no meaning there (free value, log entry 17). -/
opaque divZero : Nat → Nat

/-- The NTC temperature of R217 in Q16.16 °C, from R25 in Ω, β in K and the resistance in Ω (the formula has a
logarithm; log entry 2). -/
opaque ntcTemp : Nat → Nat → Nat → Int

/-- The DFT of a harmonics window (R233; the resampling is not spelled out, log entry 2): of its samples, the magnitude in
0.01 % and the phase in 0.01° of an order, and the RMS of the fundamental. -/
opaque dftMagnitude : List Int → Nat → Nat
@[inherit_doc dftMagnitude] opaque dftPhase : List Int → Nat → Int
@[inherit_doc dftMagnitude] opaque dftFundamental : List Int → Nat

/-- The factory calibration constants (R240): kind, input, path; offset, gain, phase. -/
opaque factoryCal : Nat → Nat → Nat → Int × Nat × Int

/-- CRC-32C over a byte string. -/
opaque crc32c : List Byte → BitVec 32

/-- Factory contents of unit-specific constants: the calendar trim, calibration constants and keys, by name code. -/
opaque factoryTrim : BitVec 16

/-- Factory key material of a key slot (slots 0 and 1). -/
opaque factoryKey : Nat → List Byte

/-- The sun's event of a local date (R141; the arithmetic of the almanac is outside the spec, log entry 2): dawn or dusk,
the UTC seconds since 2000 of the date's start and end, latitude, longitude, angle; none when the sun does not cross. -/
opaque solarEvent : Bool → Int → Int → Int → Int → Nat → Option Int

/-- Whether the sun stays above the angle all that day, when it does not cross it (R141). -/
opaque solarAbove : Int → Int → Int → Int → Nat → Bool

/-- The air time, in thirds of a µs, of a PSDU of that many octets where IEEE 802.15.4g gives it and the spec does not
spell it: family, rate, option, FSK flags, preamble, octets (R268; log entry 2). -/
opaque airTime : Nat → Nat → Nat → Nat → Nat → Nat → Nat

/-- The module's own segment EUI-64, most significant byte first as a number (R288: the spec gives no value). -/
opaque segmentEui : Nat

/-- The symbol of an image under RaptorQ (RFC 6330): symbol size and ESI (R312; log entry 2). -/
opaque raptorq : List Byte → Nat → Nat → List Byte

/-- The version of the firmware set the module was delivered with (ch. 22; log entry 24). -/
opaque factorySet : Nat
/-- The checkpoint format that the factory set writes (R421 Table 2), and how many formats before it it reads. -/
opaque factoryFormat : Nat
@[inherit_doc factoryFormat] opaque factoryFormatSpan : Nat


/-- A P-256 public key is a point on the curve (R372; log entry 2). -/
opaque onCurve : List Byte → Bool

/-- The DER chain that certifies the attestation key (R380). -/
opaque certChain : List Byte

end Sys2Proof.Config
end

