-- ==== Sys2Proof/Machine/Data/Clock.lean ====
section
/-!
DEFINITION. Machine/Data/Clock.lean: the calendar clock of D0 (ch. 16).
-/
namespace Sys2Proof.Machine

/-- A complete date and time of a commit (R340). -/
structure DateTime where
  year : Nat := 2000
  month : Nat := 1
  day : Nat := 1
  hour : Nat := 0
  min : Nat := 0
  sec : Nat := 0
  sub : Nat := 0
  deriving DecidableEq, Repr

/-- Who sent a commit (R340): the staging registers, RTC_SET with its packet, or the module under R332. -/
inductive CommitSource where
  | staging
  | command (p : Packet)
  | module
  deriving DecidableEq, Repr

/-- The calendar clock (R336 to R346). -/
structure Rtc where
  now : DateTime := {}
  weekday : Nat := 6
  /-- Fraction of a count the trim has gathered, in 1/16 ppm of a count (R338). -/
  trimAcc : Int := 0
  oscStop : Bool := true
  cause : Nat := 0
  dateErr : Bool := false
  setDenied : Bool := false
  /-- A record of kind 0x1001 due at the next boot, with its cause (Table 1). -/
  untrustedDue : Option Nat := none
  wake : Bool := false
  vbatLow : Bool := false
  battUsed : Bool := false
  disciplined : Bool := false
  /-- The host's shadow with the weekday of its instant (R339). -/
  shadow : Option (DateTime × Nat) := none
  stgTime : Nat := 0
  stgDate : Nat := 0x07D00101
  trim : Nat := Config.factoryTrim.toNat
  wakePeriod : Nat := 0
  wakenEn : Bool := false
  wakeN : Bool := false
  vbatMv : Nat := 0
  /-- Commits on their way to D0 through stile 44, in arrival order (R340). -/
  commits : List (CommitSource × DateTime) := []
  /-- D0 runs from VBAT (R345). -/
  onVbat : Bool := false
  deriving DecidableEq, Repr

/-- A PTP instance: its configuration (PTP_PORT_CONFIG) and its running state: 0 DISABLED, 1 LISTENING, 2 SLAVE. -/
structure PtpInst where
  enable : Bool := true
  mech : Nat := 1
  transport : Nat := 1
  respMode : Nat := 1
  logAnnounce : Int := 1
  logSync : Int := 0
  logDelay : Int := 0
  timeout : Nat := 3
  asym : Int := 0
  state : Nat := 0
  parent : Option Announce := none
  /-- Last Sync difference t2 − t1 and the mean path delay, ns. -/
  sync : Int := 0
  delay : Int := 0
  /-- Egress stamp of the last Delay_Req or Pdelay_Req (R330), local counter. -/
  egress : Nat := 0
  deriving DecidableEq, Repr

/-- TB_A or TB_B (R320 Table 3). States: 0 DISABLED, 1 LISTENING, 2 ACQUIRING, 3 LOCKED, 4 HOLDOVER. Offsets are in
2^−16 ns, rates in 0.001 ppb. -/
structure Base where
  state : Nat := 0
  domain : Nat
  preferred : Nat
  port : Option Nat := none
  gm : Nat := 0
  clockClass : Nat := 0
  steps : Nat := 0
  lastOffset : Int := 0
  delay : Int := 0
  stepCount : Nat := 0
  rate : Int := 0
  integ : Int := 0
  good : Nat := 0
  bad : Nat := 0
  /-- The rate corrections of the samples of the last 64 s, newest first (R320). -/
  rates : List Int := []
  /-- TB_M less this base. -/
  o : Int := 0
  deriving DecidableEq, Repr

/-- PPS_CONFIG. -/
structure PpsCfg where
  inMode : Nat := 0
  inEdge : Nat := 0
  cable : Nat := 0
  threshold : Nat := 1000
  outEnable : Bool := false
  outBase : Nat := 0
  polarity : Nat := 0
  width : Nat := 100
  offset : Int := 0
  deriving DecidableEq, Repr

/-- The time bases (ch. 15). -/
structure TimeBases where
  /-- TB_M: 0 NONE, 1 FREE, 2 ABSORBING, 3 LOCKED, 4 HOLDOVER (R321 Table 4). -/
  state : Nat := 0
  /-- The selected source: 0 none, 1 TB_A, 2 TB_B. -/
  source : Nat := 1
  rate : Int := 0
  good : Nat := 0
  bad : Nat := 0
  /-- Evaluations of 62.5 ms spent in HOLDOVER. -/
  holdEvals : Nat := 0
  /-- The sub-µs part of TB_M below the tick offset is not kept: the tick and its offset are the clerk's. -/
  bases : List Base := [{ domain := 0, preferred := 0 }, { domain := 1, preferred := 1 }]
  auto : Bool := true
  bandwidth : Nat := 50
  absorb : Nat := 100
  utcConfig : Int := 37
  mismatchNs : Nat := 10000
  /-- Instances: BH0 and BH1 of TB_A's domain, then of TB_B's. -/
  insts : List PtpInst := List.replicate 4 {}
  pps : PpsCfg := {}
  /-- A step waiting for slot 19: size in ns and cause (R322). -/
  pendingStep : Option (Int × Nat) := none
  /-- A switch waiting for its boundary: new source and cause (R328). -/
  pendingSwitch : Option (Nat × Nat) := none
  mismatch : Bool := false
  mismatchRun : Nat := 0
  /-- The last valid UTC offset saved in the persistent store (R326). -/
  utcSaved : Option Int := none
  utcValid : Bool := false
  leap61 : Bool := false
  leap59 : Bool := false
  /-- The midnight, UTC seconds since 1970 with the offset before it, at which the pending leap second falls (R326). -/
  leapEnd : Option Int := none
  traceable : Bool := false
  /-- PPS_IN: offset of the last edge, and its alert (R333). -/
  ppsOffset : Option Int := none
  ppsAlert : Bool := false
  /-- PPS_OUT: the last second label given an edge (R334). -/
  ppsLabel : Nat := 0
  /-- TB_L − UTC(TB_M) at the last comparison, µs (R332). -/
  tblError : Int := 0
  deriving DecidableEq, Repr

end Sys2Proof.Machine
end

