-- ==== Sys2Proof/Machine/Data/Vault.lean ====
section
/-!
DEFINITION. Machine/Data/Vault.lean: the key slots and tokens of D11 (ch. 18).
-/
namespace Sys2Proof.Machine

/-- A key slot (R367, R368, R370): attribute word (0: empty), key material, fill count, uses since reset, and whether it is
BAD_SLOT. A P-256 private key is kept as its 32-byte scalar. -/
structure KeySlot where
  attr : Nat := 0
  key : List Byte := []
  fills : Nat := 0
  uses : Nat := 0
  bad : Bool := false
  deriving DecidableEq, Repr

/-- A request that waits in stile 40 (R371): partner keys for a plan generation, or for an air slot (R375), or a use of a
slot. -/
inductive VaultReq where
  | deriveForPlan (gen : Nat)
  | deriveForSlot (slot : Nat)
  | use (slot : Nat)
  deriving DecidableEq, Repr

/-- Slots 0 and 1 as the factory fills them (R367): attestation, and image verification, both locked. -/
def factorySlots : List KeySlot :=
  [{ attr := 0x8000 + 3 * 0x1000 + 3 * 0x100 + 8, key := Config.factoryKey 0, fills := 1 },
   { attr := 0x8000 + 3 * 0x1000 + 4 * 0x100 + 4, key := Config.factoryKey 1, fills := 1 }] ++ List.replicate 62 ({} : KeySlot)

/-- The vault (ch. 18). -/
structure Vault where
  slots : List KeySlot := factorySlots
  requests : List VaultReq := []
  /-- D11 is gated (R371). -/
  gated : Bool := true
  /-- The highest counters accepted for purposes 1 to 3 (R377). -/
  tokens : List Nat := [0, 0, 0]
  /-- DEBUG_UNLOCK has opened the lock since the last device reset (R379). -/
  unlocked : Bool := false
  /-- Draws of the random generator so far. -/
  draws : Nat := 0
  deriving DecidableEq, Repr

end Sys2Proof.Machine
end

