-- ==== Sys2Proof/Machine/Data/Result.lean ====
section
/-!
DEFINITION. Machine/Data/Result.lean: what the computation of one tick answers beside the ordered state (R22).
-/
namespace Sys2Proof.Machine

/-- The results of the computation of tick `tick`, not yet released (R22): final replies, items of the output record,
Guestbook records derived from inputs, counted events, and the channels whose results these are. -/
structure TickResult where
  tick : Nat
  d : Digest := 0
  replies : List CmdResult := []
  items : List Item := []
  derived : List Derived := []
  /-- Guestbook records of the computation that are not derived from inputs (R242). -/
  noted : List Derived := []
  counts : List (Nat × Nat) := []
  channels : List Handle := []
  /-- The issue step of the tick has run (R153). -/
  issued : Bool := false
  /-- Field-frame entries of leg `tick + 2`: radio, partner, target, code (R14, R153). -/
  field : List (Nat × Nat × Nat × Nat) := []
  /-- Items for streams: selector, filter key, data. -/
  streamItems : List (Nat × Nat × List Byte) := []
  /-- What the computation sends to D10 and D9 (stiles 38 and 37). -/
  drive : List DriveMsg := []
  metro : List MetroMsg := []
  /-- Downlink frames for the radios (stiles 33, 34), and powers of TX_POWER_SET: radio, broadcast, unicast (R285). -/
  down : List (Nat × DownFrame) := []
  powers : List (Nat × Int × Int) := []
  /-- Clerk entries the computation places: kind and payload (R302). -/
  clerk : List (Nat × List Byte) := []
  /-- Requests to the vault (R375). -/
  vault : List VaultReq := []
  /-- The owners whose computations derived Guestbook records of the tick, and whether one of them was tainted (R36). -/
  recordOwners : List Handle := []
  recordsTainted : Bool := false
  /-- The device computations that were tainted: 0 the issue step, 1 the partner step, 2 metering (R361). -/
  devTaint : List Nat := []
  /-- The membership of the tick, which its issue step reads (R153, R158). -/
  members : List (Nat × Handle) := []
  /-- The channels whose outputs are those of the tick before (R49). -/
  failed : List Handle := []
  deriving DecidableEq, Repr

/-- What the computation of a tick reads beside the waybill and the ordered state: the plan slots and the session, D10's and D9's
reports, and the vault's keys, as they stood at its boundary (log entry 42). -/
structure Context where
  plan : PlanStore := {}
  fast : List LoopSlot := []
  armed : List Handle := []
  job : CalJob := {}
  keys : List KeySlot := []
  segment : Nat := 0
  storeFull : Bool := false
  deriving DecidableEq, Repr

end Sys2Proof.Machine
end

