-- ==== Sys2Proof/Machine/Data/Site.lean ====
section
/-!
DEFINITION. Machine/Data/Site.lean: twin operation (ch. 20), start-up and recovery (ch. 21), firmware sets (ch. 22), supplies
and temperatures (ch. 24).
-/
namespace Sys2Proof.Machine

/-- TWIN_CONFIG (64 bytes). -/
structure TwinCfg where
  enable : Bool := false
  secondary : Bool := false
  key : Nat := 0
  udp : Nat := 41641
  eui : Nat := Config.segmentEui
  peer : Nat := 0
  shared0 : Nat := 0
  shared1 : Nat := 0
  deriving DecidableEq, Repr

/-- What the last heartbeat of the peer said (Table 3 of ch. 20). -/
structure PeerInfo where
  role : Nat
  linkUp : Bool := false
  onAir : Bool := false
  epoch : Nat := 0
  serial : Nat := 0
  eui : Nat := 0
  sealed : Nat := 0
  counters : List Nat := []
  firmware : Nat := 0
  secondary : Bool := false
  deriving DecidableEq, Repr

/-- The digest record that the active sends after a waybill (R397, R398). -/
abbrev PeerDigest := DigestRec

/-- Twin operation (ch. 20). Roles as in Table 3: 0 ALONE, 1 ACTIVE, 2 JOINING, 3 SYNCING, 4 READY. -/
structure Twin where
  cfg : TwinCfg := {}
  /-- Key slot and segment EUI-64 in force since the last device reset. -/
  key : Nat := 0
  eui : Nat := Config.segmentEui
  role : Nat := 0
  epoch : Nat := 0
  peer : Option PeerInfo := none
  linkUp : Bool := false
  /-- Heard at the last deadline on the twin link and over UDP; missed in a row on both paths; missed since reset. -/
  heardTw : Bool := false
  heardUdp : Bool := false
  /-- Heartbeats arrived since the last deadline, by path. -/
  gotTw : Bool := false
  gotUdp : Bool := false
  missed : Nat := 0
  missedTw : Nat := 0
  missedUdp : Nat := 0
  /-- Legs in a row without the active's beacon, whether the present leg's has been heard, and the last leg judged. -/
  silent : Nat := 0
  beacon : Bool := false
  leg : Option Nat := none
  /-- A segment beacon heard while JOINING. -/
  foreign : Bool := false
  mismatch : Bool := false
  mismatches : Nat := 0
  syncCause : Nat := 0
  /-- A sync has been requested and waits for its outcome. -/
  requested : Bool := false
  lastRx : Nat := 0
  lastCompared : Nat := 0
  takeoverTick : Nat := 0
  takeoverP : Nat := 0
  offset : Int := 0
  /-- Sealed waybills not yet exported (R397). -/
  unsent : List Nat := []
  /-- The switch tick of a pending handover (R402). -/
  handover : Option Nat := none
  /-- A takeover decided: its cause, and the tick that B opens at the earliest (R400). -/
  takeover : Option (Nat × Nat) := none
  /-- Uptime, ms, at the entry into JOINING. -/
  since : Nat := 0
  /-- METRO and DRIVE entries that the own D9 and D10 formed in the last 32 ticks (R397). -/
  kept : List (Nat × List Entry) := []
  /-- The module enters ACTIVE, or leaves it under R393, at the next boundary. -/
  entering : Bool := false
  losing : Bool := false
  /-- Digest records of the active not yet compared (R398). -/
  records : List PeerDigest := []
  deriving DecidableEq, Repr

/-- The stages of a boot: 0 held in reset, 1 released, 2 READY with the restore not complete, 3 restored or coppice mode, 4
ticks have run. -/
structure Boot where
  stage : Nat := 1
  /-- Reset code of Table 1 of ch. 21, and whether the last reset was a power-on reset. -/
  code : Nat := 1
  powerOn : Bool := true
  /-- PORST_N and RST_N held low; PWRCYC_N asserted. -/
  porst : Bool := false
  rst : Bool := false
  pwrcyc : Bool := false
  /-- The lifecycle read at the last boot (R439). -/
  life : Nat := 1
  /-- RESET_DEVICE pending: its kind. -/
  pending : Option Nat := none
  /-- The next boot enters coppice mode for RESET_DEVICE kind 1. -/
  coppice : Bool := false
  /-- The module was in coppice mode before the reset (kind 0x0208). -/
  wasCoppice : Bool := false
  boots : Nat := 0
  deviceResets : Nat := 0
  powerOns : Nat := 0
  watchdogs : Nat := 0
  cycles : Nat := 0
  restarts : Nat := 0
  rebuilds : Nat := 0
  /-- Uptime, ms, at the watchdog expiries of the last 600 s. -/
  expiries : List Nat := []
  /-- Records due at the next boot: kinds 0x0205, 0x0206, 0x0303 and 0x0702 with their numbers. -/
  due : List (Nat × Nat) := []
  /-- Uptime, ms, at the release. -/
  released : Nat := 0
  restore : Nat := 0
  flags : Nat := 0
  installed : Nat := 0
  rerun : Nat := 0
  sealed : Nat := 0
  resumeTick : Nat := 0
  readyMs : Nat := 0
  restoreMs : Nat := 0
  beaconMs : Nat := 0
  /-- Domains restarting: domain, uptime at the order, and the command that waits. -/
  domains : List (Nat × Nat × Option Packet) := []
  deriving DecidableEq, Repr

/-- A firmware set slot (R423). States: 0 EMPTY, 1 STAGING, 2 STAGED, 3 TRIAL, 4 ACTIVE, 5 PREVIOUS, 6 FAILED. `factory`: the
content is the set the module was delivered with, which the model does not spell out. -/
structure FwSlot where
  state : Nat := 0
  cause : Nat := 0
  trials : Nat := 0
  /-- A device reset of code 5 or 6 has occurred in TRIAL (R428). -/
  failed : Bool := false
  revert : Bool := false
  version : Nat := 0
  epoch : Nat := 0
  length : Nat := 0
  sections : List Nat := [0, 0, 0, 0, 0, 0]
  boot : Nat := 0
  /-- The checkpoint format that the core section writes, and the oldest that it reads (R421 Table 2). -/
  format : Nat := 0
  oldest : Nat := 0
  factory : Bool := false
  bytes : List Byte := []
  deriving DecidableEq, Repr

/-- The set in slot 0 that the module was delivered with (log entry 24). -/
def factorySet : FwSlot := { state := 4, version := Config.factorySet, sections := List.replicate 6 Config.factorySet, format := Config.factoryFormat, oldest := Config.factoryFormat - Config.factoryFormatSpan, factory := true }

/-- The image store and the staging session (ch. 22). Session: 0 none, 1 erasing, 2 receiving, 3 checking. -/
structure Firmware where
  slots : List FwSlot := [factorySet, {}]
  epoch : Nat := 0
  running : Option Nat := none
  session : Nat := 0
  slot : Nat := 0
  total : Nat := 0
  crc : Nat := 0
  /-- Uptime, ms, of the last IMAGE_DATA, or of the end of the erase. -/
  last : Nat := 0
  /-- The IMAGE_BEGIN or IMAGE_END that waits for its reply, and an IMAGE_ABORT that waits behind it. -/
  packet : Option Packet := none
  abort : Option Packet := none
  /-- The service address as stored and in force: address, prefix, gateway (R420). -/
  stored : Option (Nat × Nat × Nat) := none
  address : Option (Nat × Nat × Nat) := none
  deriving DecidableEq, Repr

/-- A last save (R447): its parts, each absent unless its valid mark is written. -/
structure LastSave where
  /-- Last sealed tick, its digest, the tick in progress, the newest checkpoint's tick, TB_M's offset in the tick. -/
  tick : Option (Nat × Digest × Nat × Nat × Nat) := none
  front : Option (List GbkPlace) := none
  deriving DecidableEq, Repr

/-- Supplies and temperatures (ch. 24). The supplies stand in the order VCORE, VIO, VANA, VRF. -/
structure Supplies where
  /-- Under and over a threshold of Table 2, one bit each. -/
  under : Nat := 0
  above : Nat := 0
  mv : List Nat := [0, 0, 0, 0]
  lowest : List Nat := [0, 0, 0, 0]
  highest : List Nat := [0, 0, 0, 0]
  ma : List Nat := [0, 0, 0, 0]
  flags : Nat := 0
  seqFault : Bool := false
  /-- The sequence fault latch, with VCORE and VIO at the latch in mV (R443). -/
  latch : Option (Nat × Nat) := none
  /-- Records due at the next boot: 0x0103 with VCORE and VIO, 0x0104 and 0x0105. -/
  seqRecord : Option (Nat × Nat) := none
  unwarned : Bool := false
  late : Option Nat := none
  accepts : Nat := 0
  /-- PFW_N is accepted low, and its pin level. -/
  pfw : Bool := false
  level : Bool := true
  saveDone : Bool := false
  cancelled : Bool := false
  partial_ : Bool := false
  saveUs : Nat := 0
  /-- Uptime, ms, of the last acceptance. -/
  accepted : Option Nat := none
  save : LastSave := {}
  /-- Energy since reset, in units of 1 mW × 10 ms. -/
  energy : Nat := 0
  /-- mW of the supplies in the readings of the last 10 s, newest first. -/
  power : List (List Nat) := []
  /-- Readings of the last second, newest first: reference point, WING_A to C, radio groups A and B (R451). -/
  readings : List (List Int) := []
  stage : Nat := 0
  hot : Nat := 0
  derate : Bool := false
  alert : Bool := false
  seen : Nat := 0
  overMax : Bool := false
  threshold : Nat := 1000
  hysteresis : Nat := 5
  deriving DecidableEq, Repr

end Sys2Proof.Machine
end

