-- ==== Sys2Proof/Machine/State.lean ====
section
/-!
DEFINITION. Machine/State.lean: the state of the block, as plain data, and the state right after reset.
-/
namespace Sys2Proof.Machine

/-- Why the block stops with a fault. -/
inductive Fault where
  /-- Raised by SUPPLY_MONITOR_CROSSING when a supply exceeds its absolute maximum rating (R468): the module may be damaged,
  and the spec gives no effect from there on. Safe. -/
  | ratingsExceeded
  deriving DecidableEq, Repr

/-- Why the block refuses a command. -/
inductive Refusal where
  /-- No meaning has been written for the row (Dispatch.lean only). Safe. -/
  | notModelled (mnemonic : String)
  deriving DecidableEq, Repr

structure State where
  /-- The commands waiting, first in, first out: the model's own field. -/
  pending : List Instr := []
  /-- How many free values have been drawn: the model's own field (log entry 1). -/
  free : Nat := 0
  /-- Milliseconds of running, advanced by INK_BEAT and never set back by a reset: the model's own field. -/
  uptime : Nat := 0
  mode : Mode := {}
  clerk : Clerk := {}
  ord : Ordered := {}
  /-- The ordered state after the latest tick whose results have been released, with that tick: the as-of tick of
  queries (R132). -/
  rel : Ordered := {}
  relTick : Nat := 0
  /-- Results computed and not yet released, oldest first, with the ordered state after their tick (R22). -/
  computed : List (TickResult × Ordered) := []
  /-- What steps of the open tick's computation have produced ahead of its boundary. -/
  early : TickResult := { tick := 0 }
  /-- What the computations of the ticks in the ring read beside their waybills, and the replay's ordered state (R37). -/
  contexts : List (Nat × Context) := []
  replayOrd : Ordered := {}
  plan : PlanStore := {}
  host : HostLink := {}
  paths : Paths := {}
  streams : List StreamRun := []
  gbk : Guestbook := {}
  cnt : CountersTest := {}
  rtc : Rtc := {}
  time : TimeBases := {}
  drive : Drive := {}
  metro : Metro := {}
  air : Air := {}
  store : Store := {}
  inn : Inn := {}
  /-- Usable checkpoints, oldest first: in the working store (R33: eleven) and in the persistent store (two). -/
  ckpts : List Checkpoint := []
  saved : List Checkpoint := []
  vault : Vault := {}
  /-- Links of BH0 and BH1: 0 down, 1 100 Mbit/s, 2 1000 Mbit/s (R391). -/
  bhLink : List Nat := [0, 0]
  twin : Twin := {}
  boot : Boot := {}
  firmware : Firmware := {}
  supply : Supplies := {}
  deriving DecidableEq, Repr

/-- The machine right after reset. -/
def State.reset : State := {}

end Sys2Proof.Machine
end

