-- ==== Sys2Proof/Machine/Ops.lean ====
section
/-!
DEFINITION. Machine/Ops.lean: the shared operations: stamping and recording events, counting, the intake checks, taking
a command, ordering it into the open waybill, and forming and sending replies.
-/
namespace Sys2Proof.Machine

/-! ### The calendar (R336, R337) -/

/-- Leap years in the range of the calendar (R337). -/
def isLeap (y : Nat) : Bool := y % 4 == 0 && (y % 100 != 0 || y % 400 == 0)

/-- Days of a month (R340). -/
def monthDays (y m : Nat) : Nat :=
  if m == 2 then (if isLeap y then 29 else 28) else if m == 4 || m == 6 || m == 9 || m == 11 then 30 else 31

/-- Days from 2000-01-01 to the first of January of a year. -/
def daysToYear (y : Nat) : Nat := 365 * (y - 2000) + (y - 2000 + 3) / 4 - (if y > 2100 then 1 else 0)

/-- Days from the first of January to the first of a month. -/
def daysToMonth (y m : Nat) : Nat := sumBy (fun k => monthDays y (k + 1)) (List.range (m - 1))

/-- Days from 2000-01-01 to a date. -/
def daysOf (y m d : Nat) : Nat := daysToYear y + daysToMonth y m + (d - 1)

/-- Seconds from 2000-01-01T00:00:00 to a date and time. -/
def DateTime.secs (t : DateTime) : Nat := daysOf t.year t.month t.day * 86400 + t.hour * 3600 + t.min * 60 + t.sec

/-- UTC seconds since 1970-01-01T00:00:00 (R381 Table 1). -/
def DateTime.unix (t : DateTime) : Nat := t.secs + 946684800

/-- The current tick as registers, replies and records show it: 0 until ticks run (R39, R381). -/
def tickNow (s : State) : Nat := if s.clerk.running then s.clerk.tick else 0

/-! ### Free values -/

/-- The next free value, and the state that has drawn it (log entry 1). -/
def drawFree (s : State) : Nat × State := (Config.freeValue s.free, { s with free := s.free + 1 })

/-! ### Event counters (R431, R432) -/

/-- One counter takes an event of a source. -/
def Counter.take (src n : Nat) (c : Counter) : Counter :=
  if c.en && c.source == src then { c with count := (c.count + n) % 2 ^ 48 } else c

/-- The CNT_OVF bits that an event sets (R432). -/
def wrapMask (src n : Nat) : List Counter → Nat → Nat
  | [], _ => 0
  | c :: r, k => (if c.en && c.source == src && 2 ^ 48 ≤ c.count + n then 2 ^ k else 0) ||| wrapMask src n r (k + 1)

/-- Count `n` of an event source (R431). -/
def countN (src n : Nat) (s : State) : State :=
  { s with cnt := { s.cnt with counters := s.cnt.counters.map (Counter.take src n)
                               ovf := s.cnt.ovf ||| wrapMask src n s.cnt.counters 0 } }

/-- Count one event of a source (R431). -/
def count (src : Nat) (s : State) : State := countN src 1 s

/-! ### Guestbook records (R381 to R388) -/

/-- Two records are repeats of one event (R385). -/
def GbkRec.same (a b : GbkRec) : Bool :=
  a.kind == b.kind && a.derived == b.derived && a.untrusted == b.untrusted && a.noTick == b.noTick &&
    a.master == b.master && a.detail == b.detail && a.kind != 0x1301 && a.kind != 0x1302

/-- The last record in the front buffer. -/
def lastRecord (ps : List GbkPlace) : Option GbkRec :=
  ps.foldl (fun acc p => match p with | .record r => some r | .repeats .. => acc) none

/-- The newest record (R385): the last of the front buffer, else the stored record of highest sequence. -/
def Guestbook.newest (g : Guestbook) : Option GbkRec :=
  match lastRecord g.front with
  | some r => some r
  | none => g.stored.getLast?

/-- No record leaves the front buffer (R389, R390, R446). -/
def Guestbook.held (g : Guestbook) : Bool := g.freeze || g.saving || g.erasing.isSome

/-- One more repeat of the newest stored record (R385). -/
def repeatStored (n last : Nat) (rs : List GbkRec) : List GbkRec :=
  modAt rs (rs.length - 1) (fun r => { r with repeats := min (r.repeats + n) 0xFFFFFFFF, last := last % 2 ^ 32 })

/-- A record or repeat that finds the front buffer full (R388). -/
def Guestbook.lose (kind tick : Nat) (g : Guestbook) : Guestbook :=
  { g with
    lost := min (g.lost + 1) 0xFFFFFFFF
    overflow := true
    beforeLoss := if g.loss.isSome then g.beforeLoss else g.front.length
    loss := some (match g.loss with
      | some l => { l with count := l.count + 1, last := tick }
      | none => { count := 1, first := tick, last := tick, kind := kind }) }

/-- A record enters the front buffer, or counts as a repeat (R382, R385, R388). -/
def Guestbook.enter (r : GbkRec) (g : Guestbook) : Guestbook :=
  match g.newest with
  | some o =>
    if GbkRec.same o r then
      if g.front.isEmpty && !g.held then { g with stored := repeatStored 1 r.secs g.stored }
      else match g.front.getLast? with
        | some (.repeats n _) => { g with front := g.front.dropLast ++ [.repeats (n + 1) r.secs] }
        | _ => if g.front.length < 256 then { g with front := g.front ++ [.repeats 1 r.secs] } else g.lose r.kind r.tick
    else if g.front.length < 256 then { g with front := g.front ++ [.record r] } else g.lose r.kind r.tick
  | none => if g.front.length < 256 then { g with front := g.front ++ [.record r] } else g.lose r.kind r.tick

/-- A record stamped by D0 (R382). -/
def stampRec (kind : Nat) (derived : Bool) (master : Nat) (detail : List Byte) (tick : Option Nat) (s : State) : GbkRec :=
  { kind, derived, untrusted := s.rtc.oscStop, noTick := !s.clerk.running, master
    secs := s.rtc.now.unix, sub := s.rtc.now.sub
    tick := if s.clerk.running then tick.getD s.clerk.tick else 0
    detail := fit 28 detail }

/-- Record an event that is not derived from inputs (R382). -/
def gbk (kind master : Nat) (detail : List Byte) (s : State) : State :=
  { s with gbk := s.gbk.enter (stampRec kind false master detail none s) }

/-- Record an event that a computation derived from inputs (R381, R386). -/
def gbkDerived (tick : Nat) (d : Derived) (s : State) : State :=
  { s with gbk := s.gbk.enter (stampRec d.kind true d.master d.detail (some tick) s) }

/-! ### Masters and paths (R74, R78, R101) -/

/-- The master ID of a path (R74). -/
def masterOf (s : State) : Path → Nat
  | .ring .. => 0
  | .mailbox m => ((s.host.mailboxes)[m]?.map (·.masterA)).getD 0
  | .service _ => 2
  | .remote .. => 3
  | .twin _ => 4
  | .internal m => m

/-- Two packets travel on the same ring, mailbox, remote path, service connection or twin link (R101 check 8). -/
def sameLane : Path → Path → Bool
  | .ring r .., .ring r' .. => r == r'
  | .mailbox m, .mailbox m' => m == m'
  | .service a, .service b => a == b
  | .remote .., .remote .. => true
  | .twin _, .twin _ => true
  | .internal m, .internal m' => m == m'
  | _, _ => false

/-- The tag is in flight on the lane (R78, R101 check 8). -/
def tagInFlight (s : State) (path : Path) (tag : Nat) : Bool :=
  s.paths.flights.any (fun f => sameLane f.path path && f.tag == tag)

/-- Take a tag into flight. -/
def takeTag (p : Packet) (s : State) : State :=
  { s with paths := { s.paths with flights := s.paths.flights ++
      [{ path := p.path, tag := p.tag, opcode := p.opcode, flags := p.flags, handle := p.handle }] } }

/-- Free a tag. -/
def freeTag (path : Path) (tag : Nat) (s : State) : State :=
  { s with paths := { s.paths with flights := s.paths.flights.filter (fun f => !(sameLane f.path path && f.tag == tag)) } }

/-- ACCEPTED or a final status has been formed for the tag (R83, R114). -/
def markAnswered (path : Path) (tag : Nat) (s : State) : State :=
  let mark := fun f : Flight => if sameLane f.path path && f.tag == tag then { f with answered := true } else f
  { s with paths := { s.paths with flights := s.paths.flights.map mark } }

/-- A mailbox bound to metrology or air firmware accepts only its own areas (R85). -/
def mailboxRefuses (s : State) (p : Packet) : Bool :=
  match p.path with
  | .mailbox m =>
    match (s.host.mailboxes)[m]? with
    | some b => if b.masterB == 6 then p.opcode / 256 != 8 else if b.masterB == 7 then p.opcode / 256 != 9 && p.opcode / 256 != 10 else false
    | none => false
  | _ => false

/-- The opcodes accepted in coppice mode (R420, R421): DEVICE_INFO, ECHO, RESET_DEVICE, BOOT_REPORT, RECOVERY_STATUS,
and the image commands. -/
def coppiceAllows (op : Nat) : Bool :=
  op == 0x0001 || op == 0x0002 || op == 0x0008 || op == 0x000A || op == 0x000B || (0x1101 ≤ op && op ≤ 0x1106)

/-- The intake checks in their order (R101 Table 3); none: the command passes. -/
def intakeCheck (s : State) (p : Packet) : Option Status :=
  if p.version ≠ 3 then some .incompatible
  else if p.received < 16 || p.length > 4080 || p.length + 16 ≠ p.received then some .badLength
  else if p.flags ≥ 8 || p.tag > 63 then some .badParam
  else match opInfo p.opcode with
    | none => some .badOpcode
    | some i =>
      if mailboxRefuses s p || (s.mode.coppice && !coppiceAllows p.opcode) then some .badOpcode
      else if !i.masters.contains (masterOf s p.path) then some .notPermitted
      else if p.emergency && !i.e then some .badParam
      else if !i.len p.payload then some .badLength
      else if tagInFlight s p.path p.tag then some .busy
      else none

/-! ### Handles (R45) -/

/-- The live channel in a slot. -/
def chanAt (o : Ordered) (slot : Nat) : Option Channel := o.channels.find? (fun c => hSlot c.handle == slot)

/-- The live channel of a handle. -/
def chanOf (o : Ordered) (h : Handle) : Option Channel := o.channels.find? (fun c => c.handle == h)

/-- Checks 3 and 4 of R45 on a channel handle; `ty` 0: any type. -/
def channelCheck (o : Ordered) (ty : Nat) (h : Handle) : Option Status :=
  match chanAt o (hSlot h) with
  | none => some .staleHandle
  | some c =>
    if hGen c.handle != hGen h then some .staleHandle
    else if hType c.handle != hType h || (ty != 0 && ty != hType h) then some .badHandle
    else none

/-- The handle checks (R45 Table 3); none: the handle passes. -/
def handleCheck (o : Ordered) (k : HandleKind) (h : Handle) : Option Status :=
  let t := hType h
  if t == 0 || (10 ≤ t && t ≤ 14) || (t == 15 && h != deviceHandle) || (hGen h == 0 && t != 15) then some .badHandle
  else match k with
    | .device => if h == deviceHandle then none else some .badHandle
    | .channel ty => if h == deviceHandle then some .badHandle else channelCheck o ty h
    | .deviceOr ty => if h == deviceHandle then none else channelCheck o ty h

/-! ### Replies (R98 to R100) -/

/-- A reply as bytes (R98 Table 2). -/
def Reply.bytes (r : Reply) : List Byte :=
  le 1 3 ++ le 1 (r.flags % 4 + 4 * b2n r.echo + 8 * b2n r.final + 16 * b2n r.wasDeferred) ++ le 2 r.opcode ++ le 1 r.tag ++
    le 1 r.status ++ le 2 r.payload.length ++ le 4 r.handle.toNat ++ le 4 r.tick ++ r.payload

/-- The reply a command gets from an answer formed in tick `tick` (R98). -/
def mkReply (p : Packet) (a : Ans) (tick : Nat) : Reply :=
  { path := p.path, flags := p.flags % 4, opcode := p.opcode, tag := p.tag, status := a.status.code
    handle := a.handle.getD p.handle, tick := tick % 2 ^ 32, payload := a.payload }

/-- The link of BH0 or BH1 is up (R391). -/
def linkUp (s : State) (port : Nat) : Bool := s.bhLink.getD port 0 != 0

/-- A datagram of the remote path (R108 Table 5, R111): the key slot's own counter advances, and its key makes the CMAC, which is one
use of the slot; a port without a link drops it and counts event source 0x1EE (R391). -/
def sendRemote (port slot addr udp : Nat) (body : List Byte) (s : State) : State :=
  let c := lookD slot 0 s.paths.ownCounters + 1
  let b := le 1 0x47 ++ le 1 0x43 ++ le 1 slot ++ zeros 5 ++ le 8 c ++ body
  let s := { s with paths := { s.paths with ownCounters := put slot c s.paths.ownCounters } }
  if linkUp s port then
    let key := ((s.vault.slots[slot]?).map (·.key)).getD []
    { s with paths := { s.paths with sent := s.paths.sent ++ [⟨port, addr, udp, b ++ le 8 (Config.cmac key b).toNat⟩] }
             vault := { s.vault with slots := modAt s.vault.slots slot (fun k => { k with uses := k.uses + 1 }) } }
  else count 0x1EE { s with paths := { s.paths with dropped := modAt s.paths.dropped port (satAdd 32 · 1) } }

/-- A reply leaves on its path: ring and mailbox replies wait for the host; the others go at once. A reply under
NO_REPLY frees its tag and is not written (R96, R79). -/
def sendReply (r : Reply) (s : State) : State :=
  let done := fun s => if r.final then freeTag r.path r.tag s else s
  match r.path with
  | .ring .. => { s with paths := { s.paths with outgoing := s.paths.outgoing ++ [r] } }
  | .mailbox _ => if r.silent then done s else { s with paths := { s.paths with outgoing := s.paths.outgoing ++ [r] } }
  | .remote port slot addr udp => if r.silent then done s else done (sendRemote port slot addr udp r.bytes s)
  | .service n => if r.silent || !s.paths.serviceOpen || n != s.paths.serviceConn then done s else
      done { s with paths := { s.paths with sent := s.paths.sent ++ [⟨2, 0, 0, r.bytes⟩] } }
  | .twin path => if r.silent then done s else
      done { s with paths := { s.paths with sent := s.paths.sent ++ [⟨3 + path, 0, 0, r.bytes⟩] } }
  | .internal _ => done s

/-- The final reply of a command refused at intake (R101): it is sent whatever NO_REPLY says, with no payload. -/
def refuse (p : Packet) (st : Status) (s : State) : State :=
  let s := count 0x071 s
  let s := if st = .busy then count 0x07C s else if st = .deferred then count 0x073 s else s
  let r := { mkReply p { status := st } (tickNow s) with collision := st = .busy, refused := true }
  match p.path with
  | .ring .. | .mailbox _ => { s with paths := { s.paths with outgoing := s.paths.outgoing ++ [r] } }
  | .remote port slot addr udp => sendRemote port slot addr udp r.bytes s
  | .service n => if s.paths.serviceOpen && n == s.paths.serviceConn then { s with paths := { s.paths with sent := s.paths.sent ++ [⟨2, 0, 0, r.bytes⟩] } } else s
  | .twin path => { s with paths := { s.paths with sent := s.paths.sent ++ [⟨3 + path, 0, 0, r.bytes⟩] } }
  | .internal _ => s

/-- The final reply of a command executed at once (R40, R99). A command that has had its one final reply (R83, R114) gets no
second. -/
def answer (p : Packet) (a : Ans) (s : State) : State :=
  if a.later || !s.paths.flights.any (fun f => sameLane f.path p.path && f.tag == p.tag && f.opcode == p.opcode) then s else
  let s := if a.status = .busy then count 0x07C s else s
  sendReply { mkReply p a (tickNow s) with silent := p.noReply } (markAnswered p.path p.tag s)

/-- The opcodes that read channel, registry or metering state (R409; log entry 25). -/
def readsState (op : Nat) : Bool :=
  [0x0043, 0x0107, 0x0108, 0x0110, 0x0310, 0x0311, 0x0312, 0x0403, 0x0404, 0x0412, 0x0505, 0x0506, 0x0606, 0x0612, 0x0705, 0x0806,
    0x0807, 0x0820, 0x0822, 0x0825, 0x0A01, 0x0A03, 0x0A12].contains op

/-- The opcodes that do more than read (R378 Table 4): in RETIRED they are answered NOT_PERMITTED (log entry 29). ATTEST
reads, of slot 0 only. -/
def changes (p : Packet) : Bool :=
  [0x0008, 0x0009, 0x0019, 0x0021, 0x0041, 0x0106, 0x0111, 0x0112, 0x0220, 0x0222, 0x0301, 0x0302, 0x0304, 0x0311, 0x0611, 0x0803, 0x0A11,
    0x0B01, 0x0B03, 0x0B04, 0x0B05, 0x0C01, 0x0C03, 0x0C04, 0x0D03, 0x0D04, 0x0E01, 0x0E02, 0x0E04, 0x0E06, 0x0E07, 0x0F02, 0x1001, 0x1003,
    0x1101, 0x1102, 0x1103, 0x1105, 0x1201, 0x1203, 0x1302].contains p.opcode || (p.opcode == 0x0E05 && fld p.payload 0 1 != 0)

/-- What a command that does not enter the waybill does when its turn comes: the handle checks, then its own checks
and effect, then its final reply (R40, R45). -/
def runNow (f : Packet → State → State × Ans) (p : Packet) (s : State) : State :=
  match opInfo p.opcode with
  | none => answer p { status := .badOpcode } s
  | some i =>
    if s.boot.stage == 2 && readsState p.opcode then answer p { status := .busy } s
    else if s.mode.lifecycle == 4 && changes p then answer p { status := .notPermitted } s
    else match handleCheck s.ord i.handle p.handle with
    | some st => answer p { status := st } s
    | none => answer p (f p s).2 (f p s).1

/-! ### The clerk's acceptance (R20, R23, R25, R28) -/

/-- The payload bytes of an entry (Table 5). -/
def Entry.payload (e : Entry) : List Byte :=
  match e.body with
  | .command p => packetBytes e.index p
  | .raw b => b

/-- The bytes an entry takes of its quota (R23): 16 of header and the padded payload. -/
def Entry.size (e : Entry) : Nat := 16 + (pad8 e.payload).length

/-- The entries of one source in a waybill. -/
def ofSource (cls index : Nat) (es : List Entry) : List Entry := es.filter (fun e => e.cls == cls && e.index == index)

/-- The quota of a source in force. -/
def quotaOf (o : Ordered) (cls index : Nat) : Quota :=
  (o.quotas.find? (fun q => q.cls == cls && q.index == index)).getD ⟨cls, index, 0, 0⟩

/-- The quota of a source leaves no room for one more entry (R25). -/
def quotaSpent (s : State) (e : Entry) : Bool :=
  let mine := ofSource e.cls e.index s.clerk.open_
  let q := quotaOf s.ord e.cls e.index
  q.entries < mine.length + 1 || q.kib * 1024 < sumBy Entry.size mine + e.size

/-- The entry of an input at the offset now (Table 4). -/
def entryOf (s : State) (w : Waiting) : Entry :=
  { kind := w.kind, cls := w.cls, index := w.index, deferred := 0 < w.held, held := min w.held 255
    offset := s.clerk.offset, body := w.body }

/-- Place an entry in the open waybill (R20). -/
def placeEntry (e : Entry) (s : State) : State :=
  count 0x001 { s with clerk := { s.clerk with open_ := s.clerk.open_ ++ [e] } }

/-- The per-kind limits of clerk entries (R27 Table 2a); CHANNEL_FAULT and CHANNEL_RESTORED share one. -/
def clerkLimit (kind : Nat) : Nat :=
  match kind with
  | 0x0A01 => 2048 | 0x0101 => 1024 | 0x0102 => 1024 | 0x0202 => 14 | _ => 1

/-- The kinds that share a limit of R27. -/
def clerkGroup (kind : Nat) : Nat := if kind == 0x0102 then 0x0101 else kind

/-- A clerk entry joins the open waybill, or is held to a later one behind older entries of its kind (R27); a standby orders none
(R394). -/
def placeClerk (kind : Nat) (b : List Byte) (s : State) : State :=
  let e : Entry := { kind := kind, cls := 7, index := 0, offset := s.clerk.offset, body := .raw b }
  let mine := fun x : Entry => clerkGroup x.kind == clerkGroup kind && x.cls == 7
  if s.mode.role == 2 then s
  else if (s.clerk.heldEntries.any mine) || clerkLimit kind ≤ (s.clerk.open_.filter mine).length then
    count 0x00A { s with clerk := { s.clerk with heldEntries := s.clerk.heldEntries ++ [e] } }
  else placeEntry e s

/-- The line of R28's table that a command meets. -/
def dupOf (s : State) (master seq : Nat) : Option Dup :=
  s.clerk.dups.find? (fun d => d.master == master && d.seq == seq && s.clerk.tick < d.tick + 2400)

/-- ACCEPTED is sent (R99): not on mailboxes, and elsewhere than on rings not under NO_REPLY. -/
def sendAccepted (p : Packet) (wasHeld : Bool) (s : State) : State :=
  let r := { mkReply p { status := .accepted } (tickNow s) with final := false, wasDeferred := wasHeld }
  let s := markAnswered p.path p.tag s
  match p.path with
  | .ring .. => sendReply r s
  | .mailbox _ | .internal _ => s
  | .remote .. | .service _ | .twin _ => if p.noReply then s else sendReply r s

/-- A retry of a command already ordered gets the replies of the first ordering (R28, R97). -/
def repeatReply (p : Packet) (d : Dup) (s : State) : State :=
  let s := count 0x004 s
  match d.released, d.reply with
  | true, some r => sendReply { r with path := p.path, flags := p.flags % 4, tag := p.tag, silent := p.noReply } (markAnswered p.path p.tag s)
  | _, _ =>
    let wait := fun (x : Dup) => if x.master == d.master && x.seq == d.seq then { x with waiters := x.waiters ++ [p] } else x
    sendAccepted p false { s with clerk := { s.clerk with dups := s.clerk.dups.map wait } }

/-- The tick has no waybill: it lies between a reset and the restore that followed it (R32). -/
def inGap (c : Clerk) (t : Nat) : Bool := c.gaps.any (fun g => g.1 ≤ t && t ≤ g.2)

/-- D(n) of a sealed waybill: of a result not yet released, else of its digest record. -/
def digestOf (s : State) (t : Nat) : Digest :=
  match s.computed.find? (fun c => c.1.tick == t) with
  | some c => c.1.d
  | none => ((s.clerk.records.find? (fun r => r.tick == t)).map (·.d)).getD 0

/-- A final reply reaches a path on which its command is still in flight (R78, R99). -/
def replyTo (p : Packet) (r : Reply) (s : State) : State :=
  if s.paths.flights.any (fun f => sameLane f.path p.path && f.tag == p.tag && f.opcode == p.opcode) then
    sendReply { r with path := p.path, flags := p.flags % 4, tag := p.tag, silent := p.noReply } (markAnswered p.path p.tag s)
  else s

/-- The final reply of an ordered command is released (R98, R100, R103), with copies for its retries (R28). -/
def releaseReply (a : CmdResult) (s : State) : State :=
  let p := a.packet
  let echo := p.wantsEcho && a.payload.length + 48 ≤ 4080
  let trailer := le 8 a.tick ++ le 2 a.entry ++ le 1 (min a.held 255) ++ zeros 5 ++ digestBytes (digestOf s a.tick)
  let r : Reply := { path := p.path, echo, wasDeferred := 0 < a.held, opcode := p.opcode, status := a.status, handle := a.handle.getD p.handle, tick := a.tick % 2 ^ 32, payload := a.payload ++ (if echo then trailer else []) }
  let mine := fun (d : Dup) => d.master == a.master && d.seq == p.seq && d.tick == a.tick
  let waiters := ((s.clerk.dups.filter mine).map (·.waiters)).flatten
  let mark := fun (d : Dup) => if mine d then { d with released := true, reply := some { r with flags := p.flags % 4, tag := p.tag }, waiters := [] } else d
  let s := if a.status == 2 then count 0x072 s else s
  waiters.foldl (fun s w => replyTo w r s) (replyTo p r { s with clerk := { s.clerk with dups := s.clerk.dups.map mark } })

/-- A command that enters the waybill is refused while the module takes no ordered commands: as standby (R394), or
before the RESUME tick (R409). -/
def orderingClosed (s : State) : Bool := s.mode.role == 2 || !s.clerk.running

/-- Order a command into the open waybill (R20, R28, R101). -/
def orderCommand (w : Waiting) (p : Packet) (s : State) : State :=
  let m := masterOf s p.path
  match dupOf s m p.seq with
  | some d => repeatReply p d s
  | none =>
    let s := if 0 < w.held then { count 0x002 s with clerk := { s.clerk with deferCnt := satAdd 32 s.clerk.deferCnt 1 } } else s
    let s := count 0x070 (placeEntry (entryOf s w) s)
    let d : Dup := { master := m, seq := p.seq, tick := s.clerk.tick, entry := s.clerk.open_.length - 1 }
    sendAccepted p (0 < w.held) { s with clerk := { s.clerk with dups := s.clerk.dups ++ [d] } }

/-- Take the first waiting input of a source off its queue. -/
def popWaiting (cls index : Nat) : List Waiting → Option (Waiting × List Waiting)
  | [] => none
  | w :: r =>
    if w.cls == cls && w.index == index then some (w, r)
    else (popWaiting cls index r).map (fun q => (q.1, w :: q.2))

/-- The clerk takes the input at the head of a source (R20, R25): an input whose quota is spent stays; a command that
does not enter the waybill is executed by `now`. -/
def acceptHead (now : Packet → State → State) (cls index : Nat) (s : State) : State :=
  match popWaiting cls index s.clerk.intake with
  | none => s
  | some (w, rest) =>
    let s' := { s with clerk := { s.clerk with intake := rest } }
    match w.body with
    | .raw _ => if quotaSpent s (entryOf s w) then s else
        placeEntry (entryOf s w) (if 0 < w.held then count 0x002 { s' with clerk := { s'.clerk with deferCnt := satAdd 32 s'.clerk.deferCnt 1 } } else s')
    | .command p =>
      match opInfo p.opcode with
      | none => answer p { status := .badOpcode } s'
      | some i =>
        if i.w then
          if s.mode.lifecycle == 4 then answer p { status := .notPermitted } s'
          else if orderingClosed s then answer p { status := .wrongState } s'
          else if (dupOf s (masterOf s p.path) p.seq).isNone && quotaSpent s (entryOf s w) then s
          else orderCommand w p s'
        else now p s'

/-- The input of a command at its path (Table 5). -/
def waitingOf (s : State) (p : Packet) : Waiting := { cls := 1, index := masterOf s p.path, kind := 0x0201, body := .command p }

/-- A path hands a command that has passed the intake checks to its master's intake stile (R83, R480). -/
def enqueue (p : Packet) (s : State) : State :=
  takeTag p { s with clerk := { s.clerk with intake := s.clerk.intake ++ [waitingOf s p] } }

/-- The module takes commands: READY, or coppice mode (R94, R420). -/
def taking (s : State) : Bool := s.mode.ready || s.mode.coppice

/-- The path of a command is served: in coppice mode the service port alone (R420). -/
def served (s : State) (p : Packet) : Bool := s.mode.ready || (s.mode.coppice && masterOf s p.path == 2)

/-- A command row: the packet passes its path's intake checks, and, when nothing of its master waits ahead of it, is
taken at once: executed by `f`, or ordered into the open waybill. While the module takes no commands, nothing happens
(R94). -/
def submit (op : Nat) (f : Packet → State → State × Ans) (p : Packet) (s : State) : State :=
  let p := { p with opcode := op }
  if served s p then
    match intakeCheck s p with
    | some st => refuse p st s
    | none =>
      if s.clerk.intake.any (fun w => w.cls == 1 && w.index == masterOf s p.path) then enqueue p s
      else acceptHead (runNow f) 1 (masterOf s p.path) (enqueue p s)
  else s

/-- A command row whose command enters the waybill (R103): its effect comes with the computation of its tick. -/
def submitW (op : Nat) (p : Packet) (s : State) : State := submit op (fun _ s => (s, { status := .internal })) p s

/-- The device computation that carries out an ordered command on the device: light's fallback, radios and partners, or metering. -/
def compOf (p : Packet) : Option Nat :=
  if p.handle != deviceHandle then none
  else match p.opcode / 256 with
    | 0x04 => some 0
    | 0x08 => some 2
    | 0x09 | 0x0A => some 1
    | _ => none

/-- The area byte of kind 0x1108, in the order of Table 4 of ch. 17. -/
def logArea : LogPart → Nat
  | .digest _ => 0 | .spill .. => 1 | .image _ => 2 | .interval .. => 3 | .balance .. => 4

/-- A read of a log-store block fails (R365): kind 0x1108, flag LOG_CRC. Which block it is lies with the controller: a free value. -/
def logReadFails (x : LogPart) (s : State) : State :=
  let y := drawFree s
  let s := { y.2 with store := { y.2.store with latched := y.2.store.latched ||| 32, logFailed := satAdd 32 y.2.store.logFailed 1 } }
  gbk 0x1108 0xFF (le 4 y.1 ++ le 1 (logArea x)) (count 0x1AE s)

end Sys2Proof.Machine
end

