-- ==== Sys2Proof/Machine/Calc.lean ====
section
/-!
DEFINITION. Machine/Calc.lean: the computation of one tick. It reads the ordered state after the tick before, the sealed
waybill and the posts delivered at the boundary, and makes the ordered state after the tick together with its results
(R54, R103).
-/
namespace Sys2Proof.Machine

/-- The running computation of tick `tick`. -/
structure Calc where
  tick : Nat
  ord : Ordered
  plan : PlanStore
  entries : List Entry := []
  /-- Posts delivered at the boundary, in the order of R53. -/
  inbox : List Post := []
  res : TickResult
  /-- The membership as the GROUP_MEMBERS commands of the waybill have left it, in force from the next tick (R158). -/
  nextMembers : Option (List (Nat × Handle)) := none
  /-- Whether the tick's waybill carries PLAN_CHANGED. -/
  planChanged : Bool := false
  /-- The presence events of the waybill (R164): place in the waybill, partner, event. -/
  presence : List (Nat × Nat × Presence) := []
  /-- The fast slots as D10 shows them (log entry 19). -/
  fast : List LoopSlot := []
  /-- The traces that are armed or triggered (R202). -/
  armed : List Handle := []
  /-- The calibration job and the constants in force, as D9 and the persistent store hold them (R242). -/
  job : CalJob := {}
  /-- The key slots as the vault holds them (R367), and the segment EUI-64 (R288). -/
  keys : List KeySlot := []
  segment : Nat := 0
  /-- No spare region and no free pool region is left (R358). -/
  storeFull : Bool := false
  deriving DecidableEq, Repr

/-- A Guestbook record derived from inputs (R386). -/
def Calc.derive (kind master : Nat) (detail : List Byte) (c : Calc) : Calc :=
  { c with res := { c.res with derived := c.res.derived ++ [{ kind, master, detail }] } }

/-- A Guestbook record that an ordered command gives rise to and that is not derived from inputs; it is written with the release. -/
def Calc.note (kind master : Nat) (detail : List Byte) (c : Calc) : Calc :=
  { c with res := { c.res with noted := c.res.noted ++ [{ kind, master, detail }] } }

/-- An event that the computation counts; it is counted when the results are released (R431). -/
def Calc.count (src : Nat) (n : Nat) (c : Calc) : Calc :=
  { c with res := { c.res with counts := c.res.counts ++ [(src, n)] } }

/-- An item of a section of the output record (R31). -/
def Calc.item (i : Item) (c : Calc) : Calc := { c with res := { c.res with items := c.res.items ++ [i] } }

/-- An item for the streams of a selector (R115). -/
def Calc.stream (sel key : Nat) (b : List Byte) (c : Calc) : Calc :=
  { c with res := { c.res with streamItems := c.res.streamItems ++ [(sel, key, b)] } }

/-- A post to another channel, numbered within its source's computation (R52). -/
def Calc.post (src dst : Handle) (kind : Nat) (tainted : Bool) (b : List Byte) (c : Calc) : Calc :=
  let n := (c.ord.posts.filter (fun p => p.src == src)).length
  { c with ord := { c.ord with posts := c.ord.posts ++ [{ src, dst, kind, seq := n, tainted, payload := b }] } }

/-- A message to D10 (stile 38) or D9 (stile 37). -/
def Calc.toDrive (m : DriveMsg) (c : Calc) : Calc := { c with res := { c.res with drive := c.res.drive ++ [m] } }
@[inherit_doc Calc.toDrive] def Calc.toMetro (m : MetroMsg) (c : Calc) : Calc := { c with res := { c.res with metro := c.res.metro ++ [m] } }

/-- The final reply of an ordered command that waited for its effect is among this tick's (R197). -/
def Calc.answerLater (p : Packet) (status : Nat) (payload : List Byte) (c : Calc) : Calc :=
  match c.ord.awaited.find? (fun a => a.packet == p) with
  | none => c
  | some a =>
    { c with ord := { c.ord with awaited := c.ord.awaited.filter (fun x => x.packet != p) }
             res := { c.res with replies := c.res.replies ++ [{ a with status, payload }] } }

/-- Change the channel of a handle. -/
def Ordered.modChan (h : Handle) (f : Channel → Channel) (o : Ordered) : Ordered :=
  { o with channels := o.channels.map (fun c => if c.handle == h then f c else c) }

@[inherit_doc Ordered.modChan] def Calc.modChan (h : Handle) (f : Channel → Channel) (c : Calc) : Calc :=
  { c with ord := c.ord.modChan h f }

/-- Insert a channel in slot order. -/
def insertChan (c : Channel) (l : List Channel) : List Channel := insertBy (fun x => hSlot x.handle) c l

/-- What a command that enters the waybill does in the computation of its tick (R103): its issuing master, its packet. -/
abbrev Handler := Nat → Packet → Calc → Calc × Ans

/-- The state by which a configuration command's state conditions are judged (R47). -/
def Channel.judged (c : Channel) : ChanState := if c.state = .faulted then c.before else c.state

/-- A channel's mandatory set is complete: CREATED becomes CONFIGURED; a channel that faulted while CREATED returns to
CONFIGURED when it is restored (R46, R47). -/
def Channel.complete (tick : Nat) (c : Channel) : Channel :=
  match c.state with
  | .created => { c with state := .configured, since := tick }
  | .faulted => if c.before = .created then { c with before := .configured } else c
  | _ => c

end Sys2Proof.Machine
end

