-- ==== Sys2Proof/Machine/Plan.lean ====
section
/-!
DEFINITION. Machine/Plan.lean: the street plan, its staging and its switch (ch. 6).
-/
namespace Sys2Proof.Machine

/-! ### Fields of plan items (Table 7) -/

/-- A node's easting and northing, cm. -/
def nodeX (b : List Byte) : Int := fldS b 4 4
@[inherit_doc nodeX] def nodeY (b : List Byte) : Int := fldS b 8 4
/-- A link's from-node, to-node, class, directions and length. -/
def linkFrom (b : List Byte) : Nat := fld b 2 2
@[inherit_doc linkFrom] def linkTo (b : List Byte) : Nat := fld b 4 2
@[inherit_doc linkFrom] def linkClass (b : List Byte) : Nat := fld b 6 1
@[inherit_doc linkFrom] def linkDirs (b : List Byte) : Nat := fld b 7 1
@[inherit_doc linkFrom] def linkLen (b : List Byte) : Nat := fld b 8 4
/-- A link's speed limit and flags. -/
def linkSpeed (b : List Byte) : Nat := fld b 12 1
@[inherit_doc linkSpeed] def linkFlags (b : List Byte) : Nat := fld b 14 2
/-- A placement's fields. -/
def plKind (b : List Byte) : Nat := fld b 2 1
@[inherit_doc plKind] def plFlags (b : List Byte) : Nat := fld b 3 1
@[inherit_doc plKind] def plEui (b : List Byte) : Nat := fld b 4 8
@[inherit_doc plKind] def plHw (b : List Byte) : Nat := fld b 12 2
@[inherit_doc plKind] def plLink (b : List Byte) : Nat := fld b 14 2
@[inherit_doc plKind] def plChainage (b : List Byte) : Nat := fld b 16 4
@[inherit_doc plKind] def plPrimary (b : List Byte) : Nat := fld b 23 1
@[inherit_doc plKind] def plAlternate (b : List Byte) : Nat := fld b 24 1
@[inherit_doc plKind] def plCircuit (b : List Byte) : Nat := fld b 25 1
@[inherit_doc plKind] def plPhase (b : List Byte) : Nat := fld b 26 1
@[inherit_doc plKind] def plRated (b : List Byte) : Nat := fld b 27 2
/-- A membership item's lantern count and handle. -/
def memCount (b : List Byte) : Nat := fld b 2 2
@[inherit_doc memCount] def memHandle (b : List Byte) : Handle := BitVec.ofNat 32 (fld b 4 4)

/-- The placement of a partner in the plan in force. -/
def placementOf (o : Ordered) (partner : Nat) : Option (List Byte) := look partner o.plan.plan.placements

/-- The items of a section. -/
def Plan.section_ (sec : Nat) (pl : Plan) : List (Nat × List Byte) :=
  match sec with
  | 1 => match pl.info with | some b => [(0, b)] | none => []
  | 2 => pl.nodes | 3 => pl.links | 4 => pl.placements | 5 => pl.members | _ => []

/-- The plan digest (R127). -/
def Plan.digest (pl : Plan) : Digest :=
  Config.sha256 (pl.info.getD [] ++ (pl.nodes.map (·.2)).flatten ++ (pl.links.map (·.2)).flatten ++
    (pl.placements.map (·.2)).flatten ++ (pl.members.map (·.2)).flatten)

/-- An item's fields are in range (Table 7, R121 to R123). -/
def planItemOk (sec : Nat) (b : List Byte) : Bool :=
  let n := fld b 0 2
  match sec with
  | 1 => true
  | 2 => n ≤ 4095 && (fld b 2 1 ≤ 3 || fld b 2 1 == 0xFF)
  | 3 => n ≤ 4095 && (linkClass b == 0xFF || (linkClass b ≤ 3 && linkFrom b ≤ 4095 && linkTo b ≤ 4095 && linkDirs b ≤ 2 &&
      100 ≤ linkLen b && linkLen b ≤ 1000000 && (linkSpeed b == 0 || (5 ≤ linkSpeed b && linkSpeed b ≤ 130)) && 1 ≤ fld b 13 1 && fld b 13 1 ≤ 8))
  | 4 => n ≤ 10239 && (plKind b == 0 || (plKind b == (if n ≤ 8191 then 1 else 2) && plLink b ≤ 4095 && plPrimary b ≤ 3 && plAlternate b ≤ 3 &&
      (plCircuit b ≤ 7 || plCircuit b == 0xFF) && plPhase b ≤ 3))
  | 5 => n ≤ 8191 && 1 ≤ memCount b && memCount b ≤ 8192
  | _ => false

/-- An item is written into the staged plan: a later item with the same number replaces an earlier one, a removing item
removes it (R126 Table 2). -/
def Plan.write (sec : Nat) (pl : Plan) (b : List Byte) : Plan :=
  let n := fld b 0 2
  match sec with
  | 1 => { pl with info := some b }
  | 2 => if fld b 2 1 == 0xFF then { pl with nodes := del n pl.nodes } else { pl with nodes := put n b pl.nodes }
  | 3 => if linkClass b == 0xFF then { pl with links := del n pl.links } else { pl with links := put n b pl.links }
  | 4 => if plKind b == 0 then { pl with placements := del n pl.placements } else { pl with placements := put n b pl.placements }
  | 5 => { pl with members := put n b pl.members }
  | _ => pl

/-- The first `n` pieces of `size` bytes. -/
def chunks (size : Nat) : Nat → List Byte → List (List Byte)
  | 0, _ => []
  | n + 1, b => b.take size :: chunks size n (b.drop size)

/-- The membership section as lantern and handle, in order (R124). -/
def Plan.membership (pl : Plan) : List (Nat × Handle) :=
  (pl.members.map (fun m => (List.range (memCount m.2)).map (fun i => (m.1 + i, memHandle m.2)))).flatten

/-- The first item that fails a check, as its error code, section and number. -/
def firstBad (code sec : Nat) (bad : Nat → List Byte → Bool) (l : List (Nat × List Byte)) : Option (Nat × Nat × Nat) :=
  (l.find? (fun x => bad x.1 x.2)).map (fun x => (code, sec, x.1))

/-- Some lantern is placed by no membership item or by two, or the section places a partner it may not (R124). -/
def coverageBad (pl : Plan) : Bool :=
  let ms := pl.membership
  let lanterns := pl.placements.filter (fun x => x.1 ≤ 8191)
  !pl.members.isEmpty && (lanterns.any (fun x => (ms.filter (fun m => m.1 == x.1)).length != 1) ||
    ms.any (fun m => (look m.1 pl.placements).isNone || 8191 < m.1))

/-- The checks of PLAN_COMMIT (R127 Table 3) in their order: error code, section and number of the first failure. -/
def checkPlan (o : Ordered) (pl : Plan) : Option (Nat × Nat × Nat) :=
  let hasNode := fun n => (look n pl.nodes).isSome
  let pos := fun n => (look n pl.nodes).getD []
  (if pl.info.isNone then some (1, 1, 0) else none)
  |>.or (firstBad 2 3 (fun _ b => !(hasNode (linkFrom b) && hasNode (linkTo b))) pl.links)
  |>.or (firstBad 3 3 (fun _ b => linkFrom b == linkTo b) pl.links)
  |>.or (firstBad 4 3 (fun _ b =>
      let dx := (nodeX (pos (linkFrom b)) - nodeX (pos (linkTo b))).natAbs
      let dy := (nodeY (pos (linkFrom b)) - nodeY (pos (linkTo b))).natAbs
      linkLen b < isqrt (dx * dx + dy * dy)) pl.links)
  |>.or (firstBad 5 4 (fun _ b => (look (plLink b) pl.links).isNone) pl.placements)
  |>.or (firstBad 6 4 (fun _ b => linkLen ((look (plLink b) pl.links).getD []) < plChainage b) pl.placements)
  |>.or (firstBad 7 4 (fun n b => pl.placements.any (fun x => x.1 != n && plEui x.2 == plEui b)) pl.placements)
  |>.or (firstBad 8 4 (fun _ b => plPrimary b / 2 == plAlternate b / 2) pl.placements)
  |>.or (if coverageBad pl then some (9, 5, 0) else none)
  |>.or (firstBad 10 5 (fun _ b => !(hType (memHandle b) == 1 && (chanOf o (memHandle b)).isSome)) pl.members)

/-! ### The staging session (R126) -/

/-- The slot and the commit record that the plan in force does not use. -/
def freeSlot (s : State) : Nat := 1 - s.ord.plan.slot

/-- PLAN_BEGIN. -/
def cmdPlanBegin (p : Packet) (s : State) : State × Ans :=
  if s.plan.state != 0 then (s, { status := .busy })
  else
    let k := if s.ord.plan.gen == 0 then 0 else freeSlot s
    let copy := bit (fld p.payload 0 1) 0
    let g := s.ord.plan.gen + 1
    let m := masterOf s p.path
    let s := { s with plan := { s.plan with state := 1, step := 0, owner := m, gen := g, slot := k, switched := false, slots := setAt s.plan.slots k (if copy then s.ord.plan.plan else {}), records := modAt s.plan.records k (fun r => { r with valid := false }) } }
    (gbk 0x0701 m (le 4 g ++ le 1 m ++ le 1 (b2n copy)) s, { payload := le 4 g ++ le 1 k ++ zeros 3 })

/-- The staged plan. -/
def staged (st : PlanStore) : Plan := (st.slots[st.slot]?).getD {}

/-- PLAN_LOAD. -/
def cmdPlanLoad (p : Packet) (s : State) : State × Ans :=
  let b := p.payload
  let sec := fld b 0 1
  let n := fld b 2 2
  let items := chunks (planItemSize sec) n (b.drop 8)
  if planItemSize sec == 0 || n == 0 || (sec == 1 && n != 1) || !items.all (planItemOk sec) then (s, { status := .badParam })
  else if s.plan.state != 0 && s.plan.owner != masterOf s p.path then (s, { status := .notPermitted })
  else if s.plan.state != 1 then (s, { status := .wrongState })
  else
    let pl := items.foldl (Plan.write sec) (staged s.plan)
    ({ s with plan := { s.plan with slots := setAt s.plan.slots s.plan.slot pl } },
      { payload := le 2 (pl.section_ sec).length ++ zeros 6 })

/-- A session ends without a switch (R126): its slot's content is discarded; kind 0x0702. -/
def abandonPlan (cause outcome master : Nat) (s : State) : State :=
  let g := s.plan.gen
  gbk 0x0702 master (le 4 g ++ le 1 cause)
    { s with plan := { s.plan with state := 0, step := 0, owner := 0xFF, outcome := outcome, slots := setAt s.plan.slots s.plan.slot {} } }

/-- PLAN_ABORT: from the owner and from master 2; refused once the commit record write has begun. -/
def cmdPlanAbort (p : Packet) (s : State) : State × Ans :=
  let m := masterOf s p.path
  if s.plan.state == 0 then (s, { status := .wrongState })
  else if m != s.plan.owner && m != 2 then (s, { status := .notPermitted })
  else if s.plan.state == 2 && s.plan.switched then (s, { status := .wrongState })
  else (abandonPlan 0 2 m s, {})

/-- Milliseconds since the final reply of PLAN_COMMIT. -/
def sinceCommit (s : State) : Nat := if s.plan.replied == 0 then 0 else s.uptime - s.plan.replied

/-- PLAN_STATUS. -/
def cmdPlanStatus (_ : Packet) (s : State) : State × Ans :=
  let st := s.plan
  let pl := staged st
  let cnt := fun (l : List (Nat × List Byte)) => le 2 (if st.state == 0 then 0 else l.length)
  (s, { payload := le 1 st.state ++ le 1 st.step ++ le 1 st.owner ++ le 1 st.outcome ++ le 4 (if st.state == 0 then 0 else st.gen) ++ le 4 s.ord.plan.gen ++
          cnt pl.nodes ++ cnt pl.links ++ cnt pl.placements ++ cnt pl.members ++
          le 4 (if st.state == 2 then sinceCommit s else 0) ++ le 8 s.ord.plan.fromTick ++ digestBytes s.ord.plan.digest })

/-- PLAN_COMMIT in the computation of its tick (R127): the checks, and the session's step to PREPARING. -/
def ordPlanCommit : Handler := fun m p c =>
  let g := fld p.payload 0 4
  if c.plan.state != 0 && c.plan.owner != m then (c, { status := .notPermitted })
  else if c.plan.state != 1 then (c, { status := .wrongState })
  else if g != c.plan.gen then (c, { status := .incompatible })
  else
    let pl := staged c.plan
    match checkPlan c.ord pl with
    | some (code, sec, item) =>
      ({ c with plan := { c.plan with outcome := 5 } }.derive 0x0706 m (le 4 g ++ le 1 code ++ le 1 sec ++ le 2 item),
        { status := .badParam, payload := le 4 g ++ le 1 code ++ le 1 sec ++ le 2 item ++ zeros 40 })
    | none =>
      let d := digestBytes pl.digest
      ({ c with plan := { c.plan with state := 2, step := 1, commitTick := c.tick, replied := 0 }, res := { c.res with vault := c.res.vault ++ [VaultReq.deriveForPlan g] } }.derive 0x0703 m (le 4 g ++ d.take 8),
        { payload := le 4 g ++ zeros 4 ++ d ++ zeros 8 })

/-- The group of each lantern after a switch (R124): the new membership section, or the carry-over by EUI-64. -/
def carriedMembers (o : Ordered) (pl : Plan) : List (Nat × Handle) :=
  if !pl.members.isEmpty then sortBy (·.1) pl.membership
  else (pl.placements.filter (fun x => x.1 ≤ 8191)).filterMap (fun x =>
    match o.plan.plan.placements.find? (fun y => plEui y.2 == plEui x.2) with
    | some old => (look old.1 o.members).map (fun h => (x.1, h))
    | none => none)

/-- The registry after a switch (R132): a placement whose EUI-64 was placed keeps every dynamic field. -/
def carriedRegistry (o : Ordered) (gen : Nat) (pl : Plan) : List (Nat × RegDyn) :=
  pl.placements.map (fun x =>
    match o.plan.plan.placements.find? (fun y => plEui y.2 == plEui x.2) with
    | some old =>
      let d := lookD old.1 {} o.registry
      (x.1, if old.2 == x.2 then d else { d with gen })
    | none => (x.1, { gen := gen }))

/-- The new generation takes effect (R129): the plan, the registry and the memberships, kind 0x0705, and the end of the
session that prepared it. What the partner step and the channels do with it stands with them. -/
def switchPlan (payload : List Byte) (c : Calc) : Calc :=
  let old := fld payload 0 4
  let new := fld payload 4 4
  let reason := fld payload 8 1
  match (if new == 0 then some {} else c.plan.records.find? (fun (r : CommitRec) => r.gen == new && r.valid)) with
  | none => c
  | some r =>
    let pl := if new == 0 then {} else (c.plan.slots[r.slot]?).getD {}
    let o := c.ord
    let c := { c with
      planChanged := true
      ord := { o with registry := carriedRegistry o new pl, members := carriedMembers o pl, plan := { gen := new, slot := r.slot, digest := r.digest, fromTick := c.tick, plan := pl } }
      plan := if reason == 0 && c.plan.state == 2 then { c.plan with state := 0, step := 0, owner := 0xFF, outcome := 1 } else c.plan }
    c.derive 0x0705 0xFF (le 4 old ++ le 4 new ++ le 1 reason)

/-- The PLAN_SWITCH entry's payload (Table 7). -/
def planSwitchBytes (old new reason : Nat) (d : Digest) : List Byte :=
  le 4 old ++ le 4 new ++ le 1 reason ++ zeros 7 ++ digestBytes d

/-- PLAN_COMMIT_RECORD_VALID (R128, R129): preparation is complete; the commit record is valid and PLAN_SWITCH stands in
the open waybill. -/
def execPlanCommitRecordValid (s : State) : Host.Outcome State Fault Refusal :=
  if s.plan.state == 2 && !s.plan.switched then
    let d := (staged s.plan).digest
    let r : CommitRec := { gen := s.plan.gen, slot := s.plan.slot, digest := d, tick := s.plan.commitTick, valid := true }
    let old := s.ord.plan.gen
    let ms := sinceCommit s
    let s := { s with plan := { s.plan with switched := true, step := 4, records := setAt s.plan.records s.plan.slot r } }
    .next (gbk 0x0704 0xFF (le 4 r.gen ++ le 4 ms) (placeClerk 0x0301 (planSwitchBytes old r.gen 0 d) s))
  else .next s

/-- PLAN_SESSION_IDLE (R126): 600 s without PLAN_LOAD or PLAN_COMMIT. -/
def execPlanSessionIdle (s : State) : Host.Outcome State Fault Refusal :=
  if s.plan.state == 1 then .next (abandonPlan 1 3 0xFF s) else .next s

/-- PLAN_BEGIN (R126). -/
def execPlanBegin (p : Packet) (s : State) : Host.Outcome State Fault Refusal := .next (submit 0x0301 cmdPlanBegin p s)
/-- PLAN_LOAD (R126). -/
def execPlanLoad (p : Packet) (s : State) : Host.Outcome State Fault Refusal := .next (submit 0x0302 cmdPlanLoad p s)
/-- PLAN_COMMIT (R127): it enters the waybill; `ordPlanCommit` is its effect in the computation of its tick. -/
def execPlanCommit (p : Packet) (s : State) : Host.Outcome State Fault Refusal := .next (submitW 0x0303 p s)
/-- PLAN_ABORT (R126). -/
def execPlanAbort (p : Packet) (s : State) : Host.Outcome State Fault Refusal := .next (submit 0x0304 cmdPlanAbort p s)
/-- PLAN_STATUS. -/
def execPlanStatus (p : Packet) (s : State) : Host.Outcome State Fault Refusal := .next (submit 0x0305 cmdPlanStatus p s)

end Sys2Proof.Machine
end

