-- ==== Sys2Proof/Machine/Calendar.lean ====
section
/-!
DEFINITION. Machine/Calendar.lean: the calendar clock (ch. 16).
-/
namespace Sys2Proof.Machine

/-- The weekday of a date, 0 Sunday to 6 Saturday (R336); 2000-01-01 is a Saturday. -/
def weekdayOf (t : DateTime) : Nat := (6 + daysOf t.year t.month t.day) % 7

/-- A commit passes D0's validation (R340). -/
def DateTime.valid (t : DateTime) : Bool :=
  2000 ≤ t.year && t.year ≤ 2199 && 1 ≤ t.month && t.month ≤ 12 && 1 ≤ t.day && t.day ≤ monthDays t.year t.month &&
    t.hour ≤ 23 && t.min ≤ 59 && t.sec ≤ 59 && t.sub ≤ 32767

/-- A date and time in the order of RTC_SET's payload. -/
def DateTime.bytes (t : DateTime) : List Byte :=
  le 2 t.year ++ le 1 t.month ++ le 1 t.day ++ le 1 t.hour ++ le 1 t.min ++ le 1 t.sec ++ zeros 1 ++ le 2 t.sub ++ zeros 2

/-- TB_L as the guestbook writes it: UTC seconds and sub-second (R381 Table 1). -/
def DateTime.stampBytes (t : DateTime) : List Byte := le 6 t.unix ++ le 2 t.sub

/-- TB_L as a time value (R316): seconds, nanoseconds, fraction. -/
def DateTime.timeValue (t : DateTime) : List Byte :=
  let frac := t.sub * 2000000000
  le 6 t.unix ++ le 4 (frac / 65536) ++ le 2 (frac % 65536)

/-- The next day's date (R337). -/
def DateTime.nextDay (t : DateTime) : DateTime :=
  if t.day < monthDays t.year t.month then { t with day := t.day + 1 }
  else if t.month < 12 then { t with day := 1, month := t.month + 1 }
  else { t with day := 1, month := 1, year := t.year + 1 }

/-- One count of the sub-second counter with its carries (R336). -/
def DateTime.tick (t : DateTime) : DateTime :=
  if t.sub < 32767 then { t with sub := t.sub + 1 }
  else if t.sec < 59 then { t with sub := 0, sec := t.sec + 1 }
  else if t.min < 59 then { t with sub := 0, sec := 0, min := t.min + 1 }
  else if t.hour < 23 then { t with sub := 0, sec := 0, min := 0, hour := t.hour + 1 }
  else DateTime.nextDay { t with sub := 0, sec := 0, min := 0, hour := 0 }

/-- The last count of the range (R337). -/
def DateTime.atEnd (t : DateTime) : Bool :=
  t.year == 2199 && t.month == 12 && t.day == 31 && t.hour == 23 && t.min == 59 && t.sec == 59 && t.sub == 32767

/-- OSC_STOP is set with its cause (R343); a TRUSTED clock's record is made at once while the module runs, or at the
next boot (Table 1). -/
def setOscStop (cause : Nat) (s : State) : State :=
  let was := s.rtc.oscStop
  let before := s.rtc.now
  let s := { s with rtc := { s.rtc with oscStop := true, cause := cause } }
  if was then s
  else if s.mode.ready then gbk 0x1001 0xFF (le 1 cause ++ before.stampBytes) s
  else { s with rtc := { s.rtc with untrustedDue := some cause } }

/-- The rollover past 2199 (R337). -/
def rangeEnd (s : State) : State :=
  setOscStop 3 { s with rtc := { s.rtc with now := {}, weekday := 6 } }

/-- One count forward of the running time. -/
def rtcCount (s : State) : State :=
  if s.rtc.now.atEnd then rangeEnd s
  else
    let n := s.rtc.now.tick
    { s with rtc := { s.rtc with now := n, weekday := if n.day == s.rtc.now.day then s.rtc.weekday else (s.rtc.weekday + 1) % 7 } }

/-- One crystal cycle (R336, R338): the trim gathers in 1/16 ppm of a count and inserts or deletes one count when it
has gathered a whole one, which the trim's range keeps rarer than once in 1/256 s. -/
def crystalCycle (s : State) : State :=
  let acc := s.rtc.trimAcc + toSigned 16 s.rtc.trim
  if 16000000 ≤ acc then rtcCount (rtcCount { s with rtc := { s.rtc with trimAcc := acc - 16000000 } })
  else if acc ≤ -16000000 then { s with rtc := { s.rtc with trimAcc := acc + 16000000 } }
  else rtcCount { s with rtc := { s.rtc with trimAcc := acc } }

/-- The value of RTC_SUBSEC to RTC_YEAR, register 0 to 6, of an instant. -/
def rtcReg (t : DateTime) (wd reg : Nat) : Nat :=
  match reg with
  | 0 => t.sub | 1 => t.sec | 2 => t.min | 3 => t.hour | 4 => t.day + wd * 256 | 5 => t.month | 6 => t.year | _ => 0

/-- A commit of the host's staging registers waits or is being taken (RTC_STATUS.BUSY, R342). -/
def rtcBusy (r : Rtc) : Bool := r.commits.any (fun c => c.1 == .staging)

/-- RTC_STATUS. -/
def rtcStatus (r : Rtc) : Nat :=
  b2n r.oscStop + 2 * r.cause + 16 * b2n r.dateErr + 32 * b2n r.setDenied + 64 * b2n (rtcBusy r) + 128 * b2n r.shadow.isSome +
    256 * b2n r.wake + 512 * b2n r.vbatLow + 1024 * b2n r.battUsed + 2048 * b2n r.disciplined

/-- The date and time in the staging registers. -/
def stagedTime (r : Rtc) : DateTime :=
  { sub := bits r.stgTime 0 15, sec := bits r.stgTime 15 6, min := bits r.stgTime 21 6, hour := bits r.stgTime 27 5
    day := bits r.stgDate 0 5, month := bits r.stgDate 8 4, year := bits r.stgDate 16 12 }

/-- The host's master ID (R69). -/
def hostMaster (s : State) : Nat := b2n s.host.hostsel

/-- RTC_CTL.COMMIT (R340): the staging registers leave as one commit; ignored while BUSY (R342). -/
def effRtcCommitWrite (s : State) : State :=
  if rtcBusy s.rtc then s
  else { s with rtc := { s.rtc with commits := s.rtc.commits ++ [(.staging, stagedTime s.rtc)] } }

/-- RTC_CTL_COMMIT (R340). -/
def execRtcCtlCommit (s : State) : Host.Outcome State Fault Refusal := .next (effRtcCommitWrite s)

/-- RTC_CTL_SHADOW_REL (R339). -/
def execRtcCtlShadowRel (s : State) : Host.Outcome State Fault Refusal :=
  .next { s with rtc := { s.rtc with shadow := none } }

/-- A host read of one of the seven time registers (R339). -/
def rtcRead (reg : Nat) (s : State) : Nat × State :=
  let sh := s.rtc.shadow.getD (s.rtc.now, s.rtc.weekday)
  (rtcReg sh.1 sh.2 reg, { s with rtc := { s.rtc with shadow := if reg == 6 then none else some sh } })

/-- RTC_SHADOW_READ (R339): the value read stands in `host.readValue`. -/
def execRtcShadowRead (reg : Nat) (s : State) : Host.Outcome State Fault Refusal :=
  if reg ≤ 6 then
    let r := rtcRead reg s
    .next { r.2 with host := { r.2.host with readValue := r.1 } }
  else .next { s with host := { s.host with readValue := 0 } }

/-- RTC_SHADOW_TIMEOUT (R339). -/
def execRtcShadowTimeout (s : State) : Host.Outcome State Fault Refusal :=
  .next { s with rtc := { s.rtc with shadow := none } }

/-- The master a commit's records name. -/
def commitMaster (s : State) : CommitSource → Nat
  | .staging => hostMaster s
  | .command p => masterOf s p.path
  | .module => 0xFF

/-- The reply of RTC_SET once D0 has dealt with its commit. -/
def commitReply (src : CommitSource) (st : Status) (s : State) : State :=
  match src with
  | .command p => answer p { status := st } s
  | _ => s

/-- D0 takes one commit (R340, R341): refused while DISCIPLINED unless it is the module's own, rejected whole when
invalid, else loaded. -/
def takeCommit (src : CommitSource) (t : DateTime) (s : State) : State :=
  if s.rtc.disciplined && src != .module then
    commitReply src .wrongState { s with rtc := { s.rtc with setDenied := true } }
  else if !t.valid then
    commitReply src .badParam (gbk 0x1003 (commitMaster s src) (le 1 (commitMaster s src) ++ t.bytes)
      { s with rtc := { s.rtc with dateErr := true } })
  else
    let old := s.rtc.now
    let m := commitMaster s src
    let s := { s with rtc := { s.rtc with now := t, weekday := weekdayOf t, trimAcc := 0, dateErr := false, oscStop := false } }
    let s := if src == .module then gbk 0x0F08 0xFF (leS 8 s.time.tblError) s
      else gbk 0x1002 m (le 1 m ++ old.stampBytes ++ t.stampBytes) s
    commitReply src .ok s

/-- RTC_COMMIT (R340): D0 takes the next commit in arrival order. -/
def execRtcCommit (s : State) : Host.Outcome State Fault Refusal :=
  match s.rtc.commits with
  | [] => .next s
  | (src, t) :: rest => .next (takeCommit src t { s with rtc := { s.rtc with commits := rest } })

/-- A trim takes effect (R338). -/
def setTrim (v master : Nat) (s : State) : State :=
  gbk 0x1004 master (le 2 s.rtc.trim ++ le 2 v ++ le 1 master) { s with rtc := { s.rtc with trim := v % 65536 } }

/-- A host write of RTC_TRIM (R341). -/
def trimWrite (v : Nat) (s : State) : State :=
  if s.rtc.disciplined then { s with rtc := { s.rtc with setDenied := true } } else setTrim (v % 65536) (hostMaster s) s

/-- RTC_TRIM_REGISTER_WRITE (R341). -/
def execRtcTrimRegisterWrite (value : Nat) (s : State) : Host.Outcome State Fault Refusal := .next (trimWrite value s)

/-- A wake configuration takes effect at once (R346). -/
def setWake (period : Nat) (en : Bool) (master : Nat) (s : State) : State :=
  gbk 0x1006 master (le 4 period ++ le 1 (b2n en)) { s with rtc := { s.rtc with wakePeriod := period, wakenEn := en } }

/-- RTC_WAKE_WRITE (R346): a period above 22,118,400 is outside the field's values and is ignored (log entry 3). -/
def execRtcWakeWrite (value : Nat) (s : State) : Host.Outcome State Fault Refusal :=
  if bits value 0 25 ≤ 22118400 then .next (setWake (bits value 0 25) (bit value 25) (hostMaster s) s) else .next s

/-- RTC_RANGE_END (R337). -/
def execRtcRangeEnd (s : State) : Host.Outcome State Fault Refusal := .next (rangeEnd s)

/-- OSC_STOP_DETECT (R343): the crystal's stop is cause 1, a dip of the D0 rail cause 2; the counters keep their value. -/
def execOscStopDetect (dip : Bool) (s : State) : Host.Outcome State Fault Refusal :=
  .next (setOscStop (if dip then 2 else 1) s)

/-- D0_SUPPLY_SWITCH (R345): the supply derived from VIO falls below 2.7 V or is at or above 2.9 V. -/
def execD0SupplySwitch (millivolts : Nat) (s : State) : Host.Outcome State Fault Refusal :=
  if millivolts < 2700 && !s.rtc.onVbat then .next { s with rtc := { s.rtc with onVbat := true, battUsed := true } }
  else if 2900 ≤ millivolts && s.rtc.onVbat then .next { s with rtc := { s.rtc with onVbat := false } }
  else .next s

/-- VBAT_MEASURE (R345). -/
def vbatMeasure (mv : Nat) (s : State) : State :=
  let s := { s with rtc := { s.rtc with vbatMv := mv % 4096 } }
  if mv < 2200 then gbk 0x1005 0xFF (le 2 mv) { s with rtc := { s.rtc with vbatLow := true } }
  else if 2300 ≤ mv then { s with rtc := { s.rtc with vbatLow := false } }
  else s

@[inherit_doc vbatMeasure] def execVbatMeasure (millivolts : Nat) (s : State) : Host.Outcome State Fault Refusal :=
  .next (vbatMeasure millivolts s)

/-- WAKE_FIRE (R346). -/
def execWakeFire (s : State) : Host.Outcome State Fault Refusal :=
  if s.rtc.wakePeriod == 0 then .next s
  else .next { s with rtc := { s.rtc with wake := true, wakeN := s.rtc.wakeN || s.rtc.wakenEn } }

/-- WAKE_N_RELEASE (R346). -/
def execWakeNRelease (s : State) : Host.Outcome State Fault Refusal :=
  .next { s with rtc := { s.rtc with wakeN := false } }

/-- RTC_SET (R340): the commit leaves for D0, and the reply follows when D0 has dealt with it. -/
def cmdRtcSet (p : Packet) (s : State) : State × Ans :=
  let b := p.payload
  let t : DateTime := { year := fld b 0 2, month := fld b 2 1, day := fld b 3 1, hour := fld b 4 1, min := fld b 5 1, sec := fld b 6 1, sub := fld b 8 2 }
  ({ s with rtc := { s.rtc with commits := s.rtc.commits ++ [(.command p, t)] } }, { later := true })

/-- RTC_GET. -/
def cmdRtcGet (_ : Packet) (s : State) : State × Ans :=
  let t := s.rtc.now
  (s, { payload := le 2 t.year ++ le 1 t.month ++ le 1 t.day ++ le 1 t.hour ++ le 1 t.min ++ le 1 t.sec ++ le 1 s.rtc.weekday ++
          le 2 t.sub ++ le 2 (rtcStatus s.rtc) ++ le 2 s.rtc.trim ++ zeros 2 ++ t.timeValue })

/-- RTC_TRIM (R338, R341). -/
def cmdRtcTrim (p : Packet) (s : State) : State × Ans :=
  if s.rtc.disciplined then ({ s with rtc := { s.rtc with setDenied := true } }, { status := .wrongState })
  else
    let v := fld p.payload 0 2
    (setTrim v (masterOf s p.path) s, { payload := le 2 v ++ zeros 2 })

/-- WAKE_SET (R346): the reply gives the ms until the first firing. -/
def cmdWakeSet (p : Packet) (s : State) : State × Ans :=
  let per := fld p.payload 0 4
  if 22118400 < per then (s, { status := .badParam })
  else (setWake per (bit (fld p.payload 4 1) 0) (masterOf s p.path) s, { payload := le 4 (per * 1000 / 256) ++ zeros 4 })

@[inherit_doc cmdRtcSet] def execRtcSet (p : Packet) (s : State) : Host.Outcome State Fault Refusal := .next (submit 0x0C01 cmdRtcSet p s)
@[inherit_doc cmdRtcGet] def execRtcGet (p : Packet) (s : State) : Host.Outcome State Fault Refusal := .next (submit 0x0C02 cmdRtcGet p s)
@[inherit_doc cmdRtcTrim] def execRtcTrim (p : Packet) (s : State) : Host.Outcome State Fault Refusal := .next (submit 0x0C03 cmdRtcTrim p s)
@[inherit_doc cmdWakeSet] def execWakeSet (p : Packet) (s : State) : Host.Outcome State Fault Refusal := .next (submit 0x0C04 cmdWakeSet p s)

end Sys2Proof.Machine
end

