-- ==== Sys2Proof/Machine/Time.lean ====
section
/-!
DEFINITION. Machine/Time.lean: the time bases, PTP and PPS (ch. 15). Offsets of the bases are in 2^−16 ns and rates in
0.001 ppb (R316, R320).
-/
namespace Sys2Proof.Machine

/-! ### Time values -/

/-- TAI seconds since the PTP epoch of the start of a tick (R19). -/
def taiOfTick (n : Nat) : Nat := 946684832 + n / 4

/-- The tick of a TAI instant in ns since the PTP epoch (R19). -/
def tickOfTai (ns : Nat) : Nat := (ns - 946684832 * 1000000000) / 250000000

/-- UTC seconds since 1970 of the start of a tick with a UTC offset (R326). -/
def unixOfTick (n : Nat) (utc : Int) : Int := (taiOfTick n : Int) - utc

/-- A time value's 12 bytes (R316). -/
def timeValueBytes (secs ns frac : Nat) : List Byte := le 6 secs ++ le 4 ns ++ le 2 frac

/-- TB_M as a time value; zero while TB_M is NONE. -/
def tbmValue (s : State) : List Byte :=
  if s.time.state == 0 then zeros 12
  else
    let ns := s.clerk.tick % 4 * 250000000 + s.clerk.offset * 1000
    timeValueBytes (taiOfTick s.clerk.tick + ns / 1000000000) (ns % 1000000000) 0

/-- The date of a day number counted from 2000-01-01, over at most `fuel` years. -/
def yearOfDays : Nat → Nat → Nat → Nat × Nat
  | 0, y, d => (y, d)
  | fuel + 1, y, d => let n := if isLeap y then 366 else 365; if d < n then (y, d) else yearOfDays fuel (y + 1) (d - n)

/-- The month and day of a day of the year, over at most `fuel` months. -/
def monthOfDays (y : Nat) : Nat → Nat → Nat → Nat × Nat
  | 0, m, d => (m, d + 1)
  | fuel + 1, m, d => if d < monthDays y m then (m, d + 1) else monthOfDays y fuel (m + 1) (d - monthDays y m)

/-- Year, month and day of a day number counted from 2000-01-01. -/
def dateOfDays (d : Nat) : Nat × Nat × Nat :=
  let y := yearOfDays 300 2000 d
  let m := monthOfDays y.1 11 1 y.2
  (y.1, m.1, m.2)

/-- The date and time of UTC seconds since 1970 (R316). -/
def dateOfUnix (u : Nat) : DateTime :=
  let s := u - 946684800
  let d := dateOfDays (s / 86400)
  { year := d.1, month := d.2.1, day := d.2.2, hour := s / 3600 % 24, min := s / 60 % 60, sec := s % 60 }

/-- The UTC offset in force (R326): the last valid value saved, or the configured one. -/
def utcOffset (t : TimeBases) : Int := t.utcSaved.getD t.utcConfig

/-! ### State changes -/

/-- Base 0 TB_A or 1 TB_B. -/
def baseAt (t : TimeBases) (b : Nat) : Base := (t.bases[b]?).getD { domain := 0, preferred := 0 }

/-- Change one base. -/
def modBase (b : Nat) (f : Base → Base) (s : State) : State := { s with time := { s.time with bases := modAt s.time.bases b f } }

/-- The instance of a base's domain on a port. -/
def instAt (t : TimeBases) (port b : Nat) : PtpInst := (t.insts[port + 2 * b]?).getD {}

/-- Change one instance. -/
def modInst (port b : Nat) (f : PtpInst → PtpInst) (s : State) : State :=
  { s with time := { s.time with insts := modAt s.time.insts (port + 2 * b) f } }

/-- A base changes state (R320 Table 3): kind 0x0F01, and event source 0x18C on entering HOLDOVER. -/
def setBaseState (b new : Nat) (s : State) : State :=
  let old := baseAt s.time b
  if old.state == new then s
  else
    let s := modBase b (fun x => { x with state := new, good := 0, bad := 0 }) s
    let s := if new == 4 then count 0x18C s else s
    gbk 0x0F01 0xFF (le 1 (b + 1) ++ le 1 old.state ++ le 1 new ++ le 1 (old.port.getD 0xFF)) s

/-- TB_M changes state (R321 Table 4): kind 0x0F02; TB_L is disciplined only in ABSORBING and LOCKED (R332). -/
def setTbmState (new : Nat) (s : State) : State :=
  if s.time.state == new then s
  else
    let old := s.time.state
    let s := { s with time := { s.time with state := new, good := 0, bad := 0, holdEvals := 0 } }
    let s := if new == 2 || new == 3 then s else { s with rtc := { s.rtc with disciplined := false } }
    let s := if new == 4 then count 0x18B s else s
    gbk 0x0F02 0xFF (le 1 old ++ le 1 new ++ le 1 s.time.source) s

/-! ### PTP (R318 to R320) -/

/-- The data-set comparison of the default BMCA: the announced clock is better. -/
def betterClock (a b : Announce) : Bool :=
  let k := fun x : Announce => [x.prio1, x.clockClass, x.accuracy, x.variance, x.prio2, x.gm, x.steps]
  k a < k b

/-- π in 10^−9. -/
def twoPiNano : Nat := 6283185307

/-- The proportional gain of the servo, per second, in 10^−12 (R320): 1.414 ωn. -/
def servoKp (bw : Nat) : Nat := 1414 * twoPiNano * bw / 1000

/-- The integral gain of the servo, per second squared, in 10^−12 (R320): ωn². -/
def servoKi (bw : Nat) : Nat := twoPiNano * bw / 1000 * (twoPiNano * bw / 1000) / 1000000

/-- One offset sample of a base, in ns (R320): a step beyond 1 ms, else the PI correction within ±200 ppm, and the
state table's counts of 16 samples. `logSync` gives the sample interval. -/
def baseSample (b : Nat) (off : Int) (logSync : Int) (s : State) : State :=
  let bs := baseAt s.time b
  let s := modBase b (fun x => { x with lastOffset := off }) s
  let s := if bs.state == 0 || bs.state == 1 || bs.state == 4 then setBaseState b 2 s else s
  if 1000000 < off.natAbs then
    let s := count 0x188 (modBase b (fun x => { x with integ := 0, stepCount := x.stepCount + 1, o := x.o + off * 65536, good := 0, bad := 0 }) s)
    if (baseAt s.time b).state == 3 then setBaseState b 2 s else s
  else
    let ms : Int := if 0 ≤ logSync then 1000 * 2 ^ logSync.toNat else 1000 / 2 ^ (-logSync).toNat
    let i := bs.integ - off * 1000 * (servoKi s.time.bandwidth : Int) * ms / 1000000000000000
    let r := clampI (-200000000) 200000000 (i - off * 1000 * (servoKp s.time.bandwidth : Int) / 1000000000000)
    let ok := off.natAbs ≤ 1000
    let s := modBase b (fun x => { x with integ := clampI (-200000000) 200000000 i, rate := r, rates := (r :: x.rates).take (if 0 ≤ logSync then 64 / 2 ^ logSync.toNat else 64 * 2 ^ (-logSync).toNat), good := if ok then x.good + 1 else 0, bad := if ok then 0 else x.bad + 1 }) s
    let bs := baseAt s.time b
    if bs.state == 2 && 16 ≤ bs.good then setBaseState b 3 s
    else if bs.state == 3 && 16 ≤ bs.bad then setBaseState b 2 s
    else s

/-- The base takes its samples from a port (R319): a change of port counts event source 0x18D. -/
def usePort (b port : Nat) (s : State) : State :=
  let old := (baseAt s.time b).port
  let s := modBase b (fun x => { x with port := some port }) s
  match old with
  | some q => if q == port then s else count 0x18D s
  | none => s

/-- The UTC offset the source's grandmaster announces (R326): saved on each change. -/
def takeUtc (a : Announce) (s : State) : State :=
  let s := { s with time := { s.time with utcValid := a.utcValid, traceable := a.traceable, leap61 := a.leap61, leap59 := a.leap59, utcSaved := if a.utcValid then some a.utc else s.time.utcSaved } }
  s

/-- An Announce message at an instance (R318): the BMCA's choice; the instance enters SLAVE; a new grandmaster in the
sample stream returns the base to ACQUIRING with kind 0x0F05. -/
def announceIn (port b : Nat) (a : Announce) (s : State) : State :=
  let s := count 0x184 s
  let i := instAt s.time port b
  let take := match i.parent with
    | none => true
    | some q => q.gm == a.gm || betterClock a q
  if !take then s
  else
    let s := modInst port b (fun x => { x with parent := some a, state := 2 }) s
    let bs := baseAt s.time b
    let s := if bs.port.isNone && 2 ≤ bs.state then modBase b (fun x => { x with preferred := port }) s else s
    let s := if bs.port.isNone || (bs.preferred == port && bs.port != some port) then usePort b port s else s
    let bs := baseAt s.time b
    if bs.port != some port then s
    else
      let old := bs.gm
      let s := modBase b (fun x => { x with gm := a.gm, clockClass := a.clockClass, steps := a.steps }) s
      let s := if bs.state == 0 || bs.state == 1 then setBaseState b 2 s else s
      let s := if old != a.gm && old != 0 then
          gbk 0x0F05 0xFF (le 1 (b + 1) ++ le 8 old ++ le 8 a.gm) (setBaseState b 2 s) else s
      if s.time.source == b + 1 then takeUtc a s else s

/-- A PTP message at a port (R318, R329): of the domain of an enabled instance, or ignored and counted. -/
def ptpIn (port domain : Nat) (m : PtpKind) (s : State) : State :=
  let b := if (baseAt s.time 0).domain == domain then some 0 else if (baseAt s.time 1).domain == domain then some 1 else none
  match b with
  | none => count 0x185 s
  | some b =>
    let i := instAt s.time port b
    if !i.enable || 1 < port then count 0x185 s
    else match m with
      | .other => count 0x185 s
      | .announce a => announceIn port b a s
      | .sync v =>
        let s := count (0x180 + b) (modInst port b (fun x => { x with sync := v }) s)
        if i.state == 2 && (baseAt s.time b).port == some port then
          let s := modBase b (fun x => { x with delay := i.delay }) s
          baseSample b (v - i.delay - i.asym) i.logSync s
        else s
      | .delayResp v =>
        if i.mech == 1 then count 0x182 (modInst port b (fun x => { x with delay := (i.sync + v) / 2 }) s) else count 0x185 s
      | .pdelayResp d => if i.mech == 2 then modInst port b (fun x => { x with delay := d }) s else count 0x185 s
      | .pdelayReq =>
        let s := { s with paths := { s.paths with sent := s.paths.sent ++ [⟨port, 0, 319 + i.respMode, le 1 3⟩] } }
        count 0x183 (if i.respMode == 1 then count 0x186 s else s)

/-- PTP_MESSAGE_RECEIVE (R318 to R320). -/
def execPtpMessageReceive (port domain : Nat) (m : PtpKind) (s : State) : Host.Outcome State Fault Refusal :=
  .next (ptpIn port domain m s)

/-- A base enters HOLDOVER with its rate frozen at its mean over the last 64 s (R320 Table 3). -/
def baseHoldover (b : Nat) (s : State) : State :=
  let x := baseAt s.time b
  if x.state == 2 || x.state == 3 then
    let n := x.rates.length
    let mean := if n == 0 then x.rate else (x.rates.foldl (· + ·) 0) / (n : Int)
    setBaseState b 4 (modBase b (fun x => { x with rate := mean }) s)
  else s

/-- BASE_HOLDOVER (R320): no sample for 2 s. -/
def execBaseHoldover (base : Nat) (s : State) : Host.Outcome State Fault Refusal :=
  if base < 2 then .next (baseHoldover base s) else .next s

/-- An instance leaves SLAVE (R319): the base goes to the other port when its instance is in SLAVE, and that port stays
preferred; when no enabled instance of the domain is in SLAVE the base enters HOLDOVER (R320). -/
def dropInst (port b : Nat) (s : State) : State :=
  let s := modInst port b (fun x => { x with state := 1, parent := none }) s
  let bs := baseAt s.time b
  let other := 1 - port
  let s := if bs.port == some port && (instAt s.time other b).state == 2 then
      modBase b (fun x => { x with preferred := other }) (usePort b other s)
    else if bs.port == some port then modBase b (fun x => { x with port := none }) s
    else s
  if (instAt s.time other b).state == 2 then s else baseHoldover b s

/-- ANNOUNCE_RECEIPT_TIMEOUT (R319). -/
def execAnnounceReceiptTimeout (port inst : Nat) (s : State) : Host.Outcome State Fault Refusal :=
  if port < 2 && inst < 2 && (instAt s.time port inst).state == 2 then .next (dropInst port inst s) else .next s

/-- PTP_DELAY_REQ_SEND (R318, R330): the egress stamp is kept. The wire frame is named by its message type, 1 Delay_Req
or 2 Pdelay_Req. -/
def execPtpDelayReqSend (port inst : Nat) (stamp : Nat) (s : State) : Host.Outcome State Fault Refusal :=
  let i := instAt s.time port inst
  if port < 2 && inst < 2 && i.enable && i.state == 2 then
    .next (modInst port inst (fun x => { x with egress := stamp })
      { s with paths := { s.paths with sent := s.paths.sent ++ [⟨port, 0, 319, le 1 i.mech⟩] } })
  else .next s

/-! ### TB_M (R321 to R328) -/

/-- |o| in 2^−16 ns is at most `ns` nanoseconds. -/
def within (o : Int) (ns : Nat) : Bool := o.natAbs ≤ ns * 65536

/-- The correction ρ = −o ÷ 16 s within the absorb limit, in 0.001 ppb (R321). -/
def tbmRho (o : Int) (absorb : Nat) : Int := clampI (-(absorb * 10000 : Nat)) (absorb * 10000 : Nat) (-o * 125 / 131072)

/-- The rates carry the offsets of both bases over 62.5 ms. -/
def advanceOffsets (rateM : Int) (bs : List Base) : List Base :=
  bs.map (fun b => { b with o := b.o + (rateM - b.rate) * 4096 / 1000 })

/-- Mismatch of the two bases (R327): over the threshold for 16 consecutive evaluations while both are LOCKED. -/
def mismatchStep (s : State) : State :=
  let a := baseAt s.time 0
  let b := baseAt s.time 1
  let diff := a.o - b.o
  if a.state == 3 && b.state == 3 && !within diff s.time.mismatchNs then
    let s := count 0x192 s
    let n := s.time.mismatchRun + 1
    let s := { s with time := { s.time with mismatchRun := n } }
    if 16 ≤ n && !s.time.mismatch then gbk 0x0F06 0xFF (leS 8 (diff / 65536) ++ le 1 1) { s with time := { s.time with mismatch := true } } else s
  else
    let s := { s with time := { s.time with mismatchRun := 0 } }
    if s.time.mismatch then gbk 0x0F06 0xFF (leS 8 (diff / 65536) ++ le 1 0) { s with time := { s.time with mismatch := false } } else s

/-- TB_M's state table at an evaluation (R321 Table 4, R328), with S LOCKED or not. -/
def tbmTable (taiNs : Nat) (s : State) : State :=
  let t := s.time
  let k := t.source - 1
  let src := baseAt t k
  let other := baseAt t (1 - k)
  if src.state == 3 then
    if t.state == 0 then
      setTbmState 3 { s with clerk := { s.clerk with tick := tickOfTai taiNs, offset := taiNs % 250000000 / 1000 }, time := { s.time with bases := s.time.bases.map (fun b => { b with o := b.o - src.o }) } }
    else if !within src.o 1000000 then
      if t.pendingStep.isSome then s
      else { s with time := { t with pendingStep := some (-src.o / 65536, if t.state == 1 then 0 else if t.state == 4 then 1 else 2) } }
    else if t.state == 1 || t.state == 4 then setTbmState 2 s
    else
      let ok := within src.o 1000
      let s := { s with time := { t with good := if ok then t.good + 1 else 0, bad := if ok then 0 else t.bad + 1 } }
      if t.state == 2 && 16 ≤ s.time.good then setTbmState 3 s
      else if t.state == 3 && 16 ≤ s.time.bad then setTbmState 2 s
      else s
  else if (t.state == 2 || t.state == 3 || t.state == 4) && t.auto && other.state == 3 then
    if t.pendingSwitch.isSome then s else { s with time := { t with pendingSwitch := some (2 - k, 0) } }
  else if t.state == 2 || t.state == 3 then setTbmState 4 { s with time := { t with rate := src.rate } }
  else if t.state == 4 then { s with time := { t with holdEvals := t.holdEvals + 1 } }
  else s

/-- TBM_EVALUATION (R321, R327): the offsets move on by 62.5 ms, ρ is recomputed, and the state table is applied.
`taiNs` is the selected source's TAI time in ns, which ticks start from when TB_M leaves NONE. -/
def execTbmEvaluation (taiNs : Nat) (s : State) : Host.Outcome State Fault Refusal :=
  let s := if s.time.state == 0 then s else { s with time := { s.time with bases := advanceOffsets s.time.rate s.time.bases } }
  let s := tbmTable taiNs (mismatchStep s)
  let src := baseAt s.time (s.time.source - 1)
  let locked := s.time.state == 2 || s.time.state == 3
  .next (if locked then { s with time := { s.time with rate := src.rate + tbmRho src.o s.time.absorb } } else s)

/-- Place an entry of source class TIME through stile 10 (R325). -/
def placeTime (kind : Nat) (b : List Byte) (s : State) : State :=
  if s.clerk.running && s.mode.role != 2 then placeEntry { kind := kind, cls := 4, index := 0, offset := s.clerk.offset, body := .raw b } s else s

/-- TBM_SWITCH (R328): the pending switch takes effect at the boundary; TB_M keeps its phase and rate, and the offset to
the new source is absorbed; in FREE, Table 4 meets it at the next evaluation, and in NONE there is no boundary. -/
def tbmSwitch (s : State) : State :=
  match s.time.pendingSwitch with
  | none => s
  | some (dest, cause) =>
    if s.time.state == 0 then s
    else
    let from_ := s.time.source
    let o := (baseAt s.time (dest - 1)).o / 65536
    let s := { s with time := { s.time with source := dest, pendingSwitch := none } }
    let s := match (instAt s.time ((baseAt s.time (dest - 1)).port.getD 0) (dest - 1)).parent with
      | some a => takeUtc a s
      | none => s
    let s := if s.time.state ≤ 2 then s else setTbmState 2 s
    count 0x18A (placeTime 0x0B02 (le 1 from_ ++ le 1 dest ++ le 1 cause ++ zeros 5 ++ leS 8 o) s)

@[inherit_doc tbmSwitch] def execTbmSwitch (s : State) : Host.Outcome State Fault Refusal := .next (tbmSwitch s)

/-- The TIME_TICK entry of the tick that a boundary opens, with the leap-second handling of R326 (R325). -/
def placeTimeTick (s : State) : State :=
  let n := s.clerk.tick
  let off := utcOffset s.time
  let u := unixOfTick n off
  let stop := s.time.leapEnd.getD ((u / 86400 + 1) * 86400)
  let inLeap := s.time.leap61 && u == stop
  let s := if s.time.leap61 && stop < u then
      { s with time := { s.time with utcSaved := some (off + 1), leap61 := false, leapEnd := none } }
    else if s.time.leap59 && stop - 1 ≤ u then { s with time := { s.time with utcSaved := some (off - 1), leap59 := false, leapEnd := none } }
    else { s with time := { s.time with leapEnd := if s.time.leap61 || s.time.leap59 then some stop else none } }
  let src := if s.time.state == 0 then 0 else s.time.source
  let bs := baseAt s.time (s.time.source - 1)
  placeTime 0x0B01 (leS 2 (utcOffset s.time) ++
    le 1 (b2n (s.time.utcValid || s.time.utcSaved.isSome) + 2 * b2n s.time.leap61 + 4 * b2n s.time.leap59 + 8 * b2n inLeap + 16 * b2n s.time.traceable) ++
    le 1 src ++ le 1 s.time.state ++ zeros 3 ++ leS 8 (bs.o / 65536) ++ le 8 bs.gm) s

/-! ### TB_L (R332) and PPS (R333, R334) -/

/-- TB_L − UTC(TB_M) in µs. -/
def tblErrorUs (s : State) : Int :=
  let l := (s.rtc.now.unix : Int) * 1000000 + (s.rtc.now.sub * 1000000 / 32768 : Nat)
  let m := unixOfTick s.clerk.tick (utcOffset s.time) * 1000000 + (s.clerk.tick % 4 * 250000 + s.clerk.offset : Nat)
  l - m

/-- TBL_COMPARISON (R332, R341): beyond 100 ms, or untrusted, TB_L is set at the next whole second; otherwise the trim is
adjusted so that the error falls to 0 within 64 s. -/
def execTblComparison (s : State) : Host.Outcome State Fault Refusal :=
  if (s.time.state == 2 || s.time.state == 3) && (s.time.utcValid || s.time.utcSaved.isSome) then
    let e := tblErrorUs s
    let s := { s with rtc := { s.rtc with disciplined := true }, time := { s.time with tblError := e } }
    if 100000 < e.natAbs || s.rtc.oscStop then
      let u := unixOfTick s.clerk.tick (utcOffset s.time) + 1
      .next (count 0x191 { s with rtc := { s.rtc with commits := s.rtc.commits ++ [(.module, dateOfUnix u.toNat)] } })
    else
      let v := clampI (-32768) 32767 (toSigned 16 s.rtc.trim - e / 4)
      .next (count 0x191 { s with rtc := { s.rtc with trim := ofSigned 16 v } })
  else .next { s with rtc := { s.rtc with disciplined := false } }

/-- PPS_IN_EDGE (R333): the offset of a configured edge to the nearest whole second of TB_M, less the cable delay;
the onset of a run of edges beyond the threshold writes kind 0x0F09. -/
def execPpsInEdge (falling : Bool) (offset : Int) (s : State) : Host.Outcome State Fault Refusal :=
  let c := s.time.pps
  if c.inMode == 1 && falling == (c.inEdge == 1) then
    let o := offset - (c.cable : Int)
    let bad := c.threshold < o.natAbs
    let onset := bad && !(s.time.ppsAlert && s.time.ppsOffset.isSome)
    let s := count 0x18E { s with time := { s.time with ppsOffset := some o, ppsAlert := bad } }
    let s := if bad then count 0x18F s else s
    .next (if onset then gbk 0x0F09 0xFF (leS 4 o) s else s)
  else .next s

/-- PPS_IN_LOSS (R333): no edge for 2 s. -/
def execPpsInLoss (s : State) : Host.Outcome State Fault Refusal :=
  if s.time.pps.inMode == 1 then
    if s.time.ppsAlert && s.time.ppsOffset.isNone then .next s
    else .next (gbk 0x0F09 0xFF (le 4 0x80000000) { s with time := { s.time with ppsOffset := none, ppsAlert := true } })
  else .next s

/-- The state of the base that PPS_OUT follows lets it give edges (R334). -/
def ppsBaseRuns (t : TimeBases) : Bool :=
  if t.pps.outBase == 0 then t.state != 0 else (baseAt t (t.pps.outBase - 1)).state != 0

/-- PPS_OUT_PULSE (R334): at most one edge for a second's label, none while the base is NONE or DISABLED. -/
def execPpsOutPulse (second : Nat) (s : State) : Host.Outcome State Fault Refusal :=
  if s.time.pps.outEnable && ppsBaseRuns s.time && s.time.ppsLabel != second then
    .next (count 0x190 { s with time := { s.time with ppsLabel := second } })
  else .next s

/-! ### Commands -/

/-- A bandwidth above one eighth of an instance's sync rate (TIME_CONFIG, RANGE). -/
def bandwidthConflict (bw : Nat) (i : PtpInst) : Bool :=
  i.enable && (if 0 ≤ i.logSync then 1000 < bw * 8 * 2 ^ i.logSync.toNat else 1000 * 2 ^ (-i.logSync).toNat < bw * 8)

/-- A base's instances restart (TIME_CONFIG): the base returns to DISABLED or LISTENING with kind 0x0F01. -/
def restartBase (b : Nat) (s : State) : State :=
  let on := (instAt s.time 0 b).enable || (instAt s.time 1 b).enable
  let go := fun i : PtpInst => { i with state := if i.enable then 1 else 0, parent := none, sync := 0, delay := 0 }
  let s := modInst 0 b go (modInst 1 b go s)
  let old := baseAt s.time b
  let new := if on then 1 else 0
  let s := modBase b (fun x => { x with state := new, port := none, gm := 0, good := 0, bad := 0, integ := 0, rate := 0, rates := [] }) s
  gbk 0x0F01 0xFF (le 1 (b + 1) ++ le 1 old.state ++ le 1 new ++ le 1 (old.port.getD 0xFF)) s

/-- TIME_CONFIG. -/
def cmdTimeConfig (p : Packet) (s : State) : State × Ans :=
  let b := p.payload
  let dA := fld b 0 1
  let dB := fld b 1 1
  let pA := fld b 2 1
  let pB := fld b 3 1
  let mode := fld b 4 1
  let src := fld b 5 1
  let bw := fld b 6 2
  let ab := fld b 8 2
  let mm := fld b 12 4
  if dA == dB || 127 < dA || 127 < dB || 1 < pA || 1 < pB || 1 < mode || src == 0 || 2 < src || bw < 5 || 1000 < bw ||
      ab == 0 || 1000 < ab || mm < 100 || 1000000 < mm then (s, { status := .badParam })
  else if s.time.insts.any (bandwidthConflict bw) then (s, { status := .range })
  else
    let chA := (baseAt s.time 0).domain != dA
    let chB := (baseAt s.time 1).domain != dB
    let s := modBase 0 (fun x => { x with domain := dA, preferred := pA }) (modBase 1 (fun x => { x with domain := dB, preferred := pB }) s)
    let t := s.time
    let s := { s with time := { t with auto := mode == 1, bandwidth := bw, absorb := ab, utcConfig := fldS b 10 2, mismatchNs := mm, source := if t.state == 0 || t.state == 1 then src else t.source } }
    let s := if chA then restartBase 0 s else s
    (if chB then restartBase 1 s else s, {})

/-- One base's part of the TIME_STATUS reply (Table 7). -/
def baseBytes (b : Base) : List Byte :=
  le 1 b.state ++ le 1 (b.port.getD 0xFF) ++ le 1 b.clockClass ++ zeros 1 ++ le 2 b.steps ++ zeros 2 ++ le 8 b.gm ++
    leS 8 b.lastOffset ++ leS 4 b.delay ++ le 4 b.stepCount ++ leS 8 b.rate

/-- TIME_STATUS (Table 7). -/
def cmdTimeStatus (_ : Packet) (s : State) : State × Ans :=
  let t := s.time
  let src := baseAt t (t.source - 1)
  let a := baseAt t 0
  let b := baseAt t 1
  let diff := if a.state == 3 && b.state == 3 then (a.o - b.o) / 65536 else 0
  (s, { payload := le 8 (tickNow s) ++ tbmValue s ++ le 1 t.state ++ le 1 (if t.state == 0 then 0 else t.source) ++ leS 2 (utcOffset t) ++
          le 1 (b2n (t.utcValid || t.utcSaved.isSome) + 2 * b2n t.leap61 + 4 * b2n t.leap59 + 8 * b2n t.mismatch + 16 * b2n t.ppsAlert) ++ zeros 3 ++
          le 4 (if t.state == 4 then t.holdEvals / 16 else 0) ++ leS 8 (src.o / 65536) ++ leS 8 t.rate ++ leS 8 diff ++
          leS 4 (if t.state == 0 then 0 else tblErrorUs s) ++
          (match t.ppsOffset with | some o => leS 4 o | none => le 4 0x80000000) ++ baseBytes a ++ baseBytes b })

/-- TIME_SELECT (R328). -/
def cmdTimeSelect (p : Packet) (s : State) : State × Ans :=
  let dest := fld p.payload 0 1
  if dest == 0 || 2 < dest then (s, { status := .badParam })
  else if (baseAt s.time (dest - 1)).state != 3 then (s, { status := .wrongState })
  else if s.time.pendingSwitch.isSome then (s, { status := .busy })
  else if s.time.source == dest then (s, { payload := le 8 (tickNow s) })
  else ({ s with time := { s.time with pendingSwitch := some (dest, 1) } }, { payload := le 8 (tickNow s + 1) })

/-- A base's state after a change of its instances' enables (R320 Table 3). -/
def baseEnables (b : Nat) (s : State) : State :=
  let on := (instAt s.time 0 b).enable || (instAt s.time 1 b).enable
  let st := (baseAt s.time b).state
  if !on then setBaseState b 0 (modBase b (fun x => { x with port := none }) s)
  else if st == 0 then setBaseState b 1 s
  else s

/-- PTP_PORT_CONFIG (R318). -/
def cmdPtpPortConfig (p : Packet) (s : State) : State × Ans :=
  let b := p.payload
  let port := fld b 0 1
  let k := fld b 1 1
  let i : PtpInst := { enable := fld b 2 1 == 1, mech := fld b 3 1, transport := fld b 4 1, respMode := fld b 5 1, logAnnounce := fldS b 6 1, logSync := fldS b 7 1, logDelay := fldS b 8 1, timeout := fld b 9 1, asym := fldS b 12 4, state := 0 }
  if 1 < port || 1 < k || 1 < fld b 2 1 || i.mech == 0 || 2 < i.mech || i.transport == 0 || 3 < i.transport || i.respMode == 0 ||
      2 < i.respMode || i.timeout < 2 || 10 < i.timeout || 1000000 < i.asym.natAbs then (s, { status := .badParam })
  else if i.logAnnounce < 0 || 4 < i.logAnnounce || i.logSync < -4 || 1 < i.logSync || i.logDelay < -4 || 5 < i.logDelay ||
      bandwidthConflict s.time.bandwidth i then (s, { status := .range })
  else
    let s := if (instAt s.time port k).state == 2 then dropInst port k s else s
    (baseEnables k (modInst port k (fun _ => { i with state := if i.enable then 1 else 0 }) s), {})

/-- PPS_CONFIG. -/
def cmdPpsConfig (p : Packet) (s : State) : State × Ans :=
  let b := p.payload
  let c : PpsCfg := { inMode := fld b 0 1, inEdge := fld b 1 1, cable := fld b 4 4, threshold := fld b 8 4, outEnable := fld b 12 1 == 1, outBase := fld b 13 1, polarity := fld b 14 1, width := fld b 16 2, offset := fldS b 20 4 }
  if 1 < c.inMode || 1 < c.inEdge || 1000000 < c.cable || c.threshold < 50 || 1000000 < c.threshold || 1 < fld b 12 1 || 2 < c.outBase ||
      1 < c.polarity || c.width == 0 || 900 < c.width || c.offset < -500000000 || 499999999 < c.offset then (s, { status := .badParam })
  else ({ s with time := { s.time with pps := c, ppsOffset := if c.inMode == 0 then none else s.time.ppsOffset, ppsAlert := c.inMode == 1 && s.time.ppsAlert } }, {})

@[inherit_doc cmdTimeConfig] def execTimeConfig (p : Packet) (s : State) : Host.Outcome State Fault Refusal := .next (submit 0x0B01 cmdTimeConfig p s)
@[inherit_doc cmdTimeStatus] def execTimeStatus (p : Packet) (s : State) : Host.Outcome State Fault Refusal := .next (submit 0x0B02 cmdTimeStatus p s)
@[inherit_doc cmdTimeSelect] def execTimeSelect (p : Packet) (s : State) : Host.Outcome State Fault Refusal := .next (submit 0x0B03 cmdTimeSelect p s)
@[inherit_doc cmdPtpPortConfig] def execPtpPortConfig (p : Packet) (s : State) : Host.Outcome State Fault Refusal := .next (submit 0x0B04 cmdPtpPortConfig p s)
@[inherit_doc cmdPpsConfig] def execPpsConfig (p : Packet) (s : State) : Host.Outcome State Fault Refusal := .next (submit 0x0B05 cmdPpsConfig p s)

end Sys2Proof.Machine
end

