-- ==== Sys2Proof/Machine/Light.lean ====
section
/-!
DEFINITION. Machine/Light.lean: group light control (ch. 7): schedules, contenders and arbitration, overrides, ramps and
records, membership and fallback.
-/
namespace Sys2Proof.Machine

/-! ### Local time and schedules (R138 to R141) -/

/-- The UTC label of a tick in whole seconds since 2000 (R326): the ticks of an inserted second lie in second 86,399 of
their date. -/
def utcLabel (o : Ordered) (n : Nat) : Int :=
  let u := unixOfTick n o.utc - 946684800
  if o.leap61 && o.leapEnd ≤ u then u - 1
  else if o.leap59 && o.leapEnd - 1 ≤ u then u + 1
  else u

/-- The day number, from 2000-01-01, of the day a rule names in a year (R138). -/
def ruleDay (y : Nat) (r : DstRule) : Nat :=
  let first := daysOf y r.month 1
  let wd := (6 + first) % 7
  let d := first + (r.weekday + 7 - wd) % 7
  if r.week ≤ 4 then d + 7 * (r.week - 1)
  else
    let n := monthDays y r.month
    d + 7 * ((n - 1 - (d - first)) / 7)

/-- The schedule has daylight saving (R138). -/
def Schedule.hasDst (c : Schedule) : Bool := c.startRule.month != 0

/-- The UTC seconds since 2000 at which daylight saving begins and ends in a year (R138). -/
def Schedule.dstStart (c : Schedule) (y : Nat) : Int := (ruleDay y c.startRule * 86400 + c.startRule.minute * 60 : Nat) - c.std * 60
@[inherit_doc Schedule.dstStart] def Schedule.dstEnd (c : Schedule) (y : Nat) : Int :=
  (ruleDay y c.endRule * 86400 + c.endRule.minute * 60 : Nat) - c.std * 60 - (c.dst * 60 : Nat)

/-- Daylight saving is in force at a UTC instant (R138). -/
def Schedule.inDst (c : Schedule) (u : Int) : Bool :=
  if !c.hasDst then false
  else
    let y := (dateOfDays ((u + c.std * 60) / 86400).toNat).1
    let a := c.dstStart y
    let b := c.dstEnd y
    if a < b then a ≤ u && u < b else (a ≤ u && u < c.dstEnd (y + 1)) || u < b

/-- Local time of a UTC instant, in seconds since 2000-01-01 local (R138). -/
def Schedule.local_ (c : Schedule) (u : Int) : Int := u + c.std * 60 + (if c.inDst u then (c.dst * 60 : Nat) else 0)

/-- The UTC instant of a local time (R139): skipped times fall at the transition, repeated ones at their first
occurrence. -/
def Schedule.utcOf (c : Schedule) (l : Int) : Int :=
  let u2 := l - c.std * 60
  if !c.hasDst then u2
  else
    let u1 := u2 - (c.dst * 60 : Nat)
    if c.inDst u1 then u1
    else if !c.inDst u2 then u2
    else
      let y := (dateOfDays (l / 86400).toNat).1
      if c.dstStart y ≤ u2 then c.dstStart y else c.dstStart (y - 1)

/-- The place of a schedule (R141). -/
def Schedule.place (c : Schedule) (o : Ordered) : Int × Int :=
  match c.planPlace, o.plan.plan.info with
  | true, some i => (fldS i 0 4, fldS i 4 4)
  | _, _ => (c.lat, c.lon)

/-- The solar events of a local date (R141). -/
def Schedule.solarOf (c : Schedule) (o : Ordered) (day : Int) : Solar :=
  let a := c.utcOf (day * 86400)
  let b := c.utcOf ((day + 1) * 86400)
  let pl := c.place o
  let aboveDusk := Config.solarAbove a b pl.1 pl.2 c.duskAngle
  let aboveDawn := Config.solarAbove a b pl.1 pl.2 c.dawnAngle
  let keep := fun x : Int => clampI a (b - 1) x
  let dusk := Config.solarEvent false a b pl.1 pl.2 c.duskAngle
  let dawn := Config.solarEvent true a b pl.1 pl.2 c.dawnAngle
  { day
    dusk := match dusk with | some x => keep x | none => if aboveDusk then b else a
    dawn := match dawn with | some x => keep x | none => if aboveDawn then a else b
    flags := b2n ((dusk.isNone && !aboveDusk) || (dawn.isNone && !aboveDawn)) + 2 * b2n ((dusk.isNone && aboveDusk) || (dawn.isNone && aboveDawn))
    noDusk := dusk.isNone, noDawn := dawn.isNone }

/-- The programme of a local date (R139): the holiday list's, unless it names one not configured, else the week map's. -/
def Schedule.programmeOf (c : Schedule) (day : Int) : Nat :=
  let d := dateOfDays day.toNat
  let hol := c.holidays.find? (fun h => h.year == d.1 && h.month == d.2.1 && h.day == d.2.2)
  match hol with
  | some h => if h.programme < c.programmes.length then h.programme else (c.week[(6 + day.toNat) % 7]?).getD 0
  | none => (c.week[(6 + day.toNat) % 7]?).getD 0

/-- The cached solar events of a day, or those of its present place. -/
def Schedule.solarCached (c : Schedule) (o : Ordered) (day : Int) : Solar :=
  (c.solar.find? (fun s => s.day == day)).getD (c.solarOf o day)

/-- The steps of a date with their instants, in programme order: instant, level, programme, index, day (R139). -/
def Schedule.resolve (c : Schedule) (o : Ordered) (day : Int) : List (Int × Nat × Nat × Nat × Int) :=
  let g := c.programmeOf day
  let sol := c.solarCached o day
  let steps := (c.programmes[g]?).getD []
  steps.zipIdx.map (fun (st, i) =>
    let at_ := match st.anchor with
      | 0 => c.utcOf (day * 86400 + st.time)
      | 1 => sol.dusk + st.time
      | _ => sol.dawn + st.time
    (at_, st.level, g, i, day))

/-- The level in force at an instant: the latest resolved step at or before it among its local date and the date
before; on equal instants the later date and then the later step wins (R139). -/
def Schedule.inForce (c : Schedule) (o : Ordered) (u : Int) : Option (Int × Nat × Nat × Nat × Int) :=
  let day := c.local_ u / 86400
  let steps := c.resolve o (day - 1) ++ c.resolve o day
  steps.foldl (fun best s => if s.1 ≤ u then (match best with | some b => if b.1 ≤ s.1 then some s else best | none => some s) else best) none

/-- Read a daylight-saving rule. -/
def readRule (b : List Byte) (off : Nat) : DstRule := { month := fld b off 1, week := fld b (off + 1) 1, weekday := fld b (off + 2) 1, minute := fld b (off + 4) 2 }

/-- A rule is complete and in range (R138). -/
def DstRule.ok (r : DstRule) : Bool := 1 ≤ r.month && r.month ≤ 12 && 1 ≤ r.week && r.week ≤ 5 && r.weekday ≤ 6 && r.minute ≤ 1439

/-- Both rules are all 0, or both complete (R138). -/
def rulesOk (a b : DstRule) : Bool := (a == {} && b == {}) || (a.ok && b.ok)

/-- Read the programmes of SCHEDULE_CONFIG (Table 11). -/
def readProgrammes (b : List Byte) (p : Nat) : List (List Step) :=
  (List.range p).map (fun i =>
    let n := fld b (48 + 132 * i) 1
    (List.range n).map (fun j =>
      let off := 52 + 132 * i + 8 * j
      let anchor := fld b off 1
      { anchor := anchor, level := fld b (off + 2) 2, time := if anchor == 0 then (fld b (off + 4) 4 : Int) else fldS b (off + 4) 4 }))

/-- A step's fields are in range. -/
def Step.ok (s : Step) : Bool :=
  s.anchor ≤ 2 && s.level ≤ 1000 && (if s.anchor == 0 then s.time ≤ 86399 else -14400 ≤ s.time && s.time ≤ 14400)

/-- Change the schedule of a channel. -/
def Calc.modSchedule (h : Handle) (f : Schedule → Schedule) (c : Calc) : Calc :=
  c.modChan h (fun ch => match ch.body with | .schedule x => { ch with body := .schedule (f x) } | _ => ch)

/-- Change the group of a channel. -/
def Calc.modGroup (h : Handle) (f : Group → Group) (c : Calc) : Calc :=
  c.modChan h (fun ch => match ch.body with | .group x => { ch with body := .group (f x) } | _ => ch)

/-- The group of a handle. -/
def groupOf (o : Ordered) (h : Handle) : Option Group :=
  match chanOf o h with | some { body := .group g, .. } => some g | _ => none

/-- The schedule of a handle. -/
def scheduleOf (o : Ordered) (h : Handle) : Option Schedule :=
  match chanOf o h with | some { body := .schedule g, .. } => some g | _ => none

/-- A channel's mandatory set is completed by the first OK of its configuration command (R46). -/
def Calc.complete (h : Handle) (c : Calc) : Calc := c.modChan h (Channel.complete c.tick)

/-- The record of a configuration change (kind 0x0805). -/
def Calc.configured (m : Nat) (p : Packet) (c : Calc) : Calc := c.derive 0x0805 m (le 4 p.handle.toNat ++ le 2 p.opcode)

/-- SCHEDULE_CONFIG. -/
def ordScheduleConfig : Handler := fun m p c =>
  let b := p.payload
  let n := fld b 40 1
  let progs := readProgrammes b n
  let week := (List.range 7).map (fun d => fld b (32 + d) 1)
  let x : Schedule := { lat := fldS b 0 4, lon := fldS b 4 4, duskAngle := fld b 8 2, dawnAngle := fld b 10 2, std := fldS b 12 2, dst := fld b 14 1, planPlace := bit (fld b 15 1) 0, startRule := readRule b 16, endRule := readRule b 24, week := week, programmes := progs }
  if n == 0 || 8 < n || 900000000 < x.lat.natAbs || 1800000000 < x.lon.natAbs || 180 < x.duskAngle || 180 < x.dawnAngle ||
      x.std < -720 || 840 < x.std || 120 < x.dst || 1 < fld b 15 1 || !rulesOk x.startRule x.endRule || week.any (fun w => n ≤ w) ||
      progs.any (fun g => g.isEmpty || 16 < g.length || g.any (fun s => !s.ok)) then (c, { status := .badParam })
  else (((c.modSchedule p.handle (fun old => { x with holidays := old.holidays, posted := old.posted })).complete p.handle).configured m p, {})

/-- HOLIDAY_SET. -/
def ordHolidaySet : Handler := fun m p c =>
  let b := p.payload
  let n := fld b 0 1
  let hs := (List.range n).map (fun i => ({ year := fld b (8 + 8 * i) 2, month := fld b (10 + 8 * i) 1, day := fld b (11 + 8 * i) 1, programme := fld b (12 + 8 * i) 1 } : Holiday))
  let okDate := fun h : Holiday => 2000 ≤ h.year && h.year ≤ 2199 && 1 ≤ h.month && h.month ≤ 12 && 1 ≤ h.day && h.day ≤ monthDays h.year h.month
  match chanOf c.ord p.handle, scheduleOf c.ord p.handle with
  | some ch, some x =>
    if 64 < n || !hs.all okDate then (c, { status := .badParam })
    else if ch.judged = .created then (c, { status := .wrongState })
    else if hs.any (fun h => x.programmes.length ≤ h.programme) then (c, { status := .range })
    else ((c.modSchedule p.handle (fun x => { x with holidays := hs })).configured m p, {})
  | _, _ => (c, { status := .staleHandle })

/-- SOLAR_GET (R141). -/
def cmdSolarGet (p : Packet) (s : State) : State × Ans :=
  let b := p.payload
  let y := fld b 0 2
  let m := fld b 2 1
  let d := fld b 3 1
  match chanOf s.ord p.handle, scheduleOf s.ord p.handle with
  | some ch, some x =>
    if y < 2000 || 2199 < y || m == 0 || 12 < m || d == 0 || monthDays y m < d then (s, { status := .badParam })
    else if ch.judged = .created then (s, { status := .wrongState })
    else
      let sol := x.solarCached s.ord (daysOf y m d)
      let tick := fun u : Int => ((u + s.ord.utc - 32) * 4).toNat
      (s, { payload := le 8 (tick sol.dusk) ++ le 8 (tick sol.dawn) ++ le 1 sol.flags ++ zeros 7 })
  | _, _ => (s, { status := .staleHandle })

/-- The date as the schedule post carries it. -/
def dayBytes (day : Int) : List Byte := let d := dateOfDays day.toNat; le 2 d.1 ++ le 1 d.2.1 ++ le 1 d.2.2

/-- The solar events in use are computed in the tick that holds local midnight, and when a date is first met (R141). -/
def Calc.refreshSolar (h : Handle) (c : Calc) : Calc :=
  match scheduleOf c.ord h with
  | none => c
  | some x =>
    let day := x.local_ (utcLabel c.ord (c.tick + 1)) / 86400
    let need := [day - 1, day].filter (fun d => !(x.solar.any (fun s => s.day == d)))
    let new := need.map (x.solarOf c.ord)
    let c := c.modSchedule h (fun x => { x with solar := lastN 2 (x.solar.filter (fun s => s.day == day - 1 || s.day == day) ++ new) })
    let missed := fun (e : Nat) (no : Bool) (s : Solar) (c : Calc) => if no && s.day == day then c.derive 0x0807 0xFF (le 4 h.toNat ++ dayBytes s.day ++ le 1 e) else c
    new.foldl (fun c s => missed 1 s.noDawn s (missed 0 s.noDusk s c)) c

/-- The RUNNING groups that name a schedule. -/
def groupsNaming (o : Ordered) (h : Handle) : List Handle :=
  o.channels.filterMap (fun ch => match ch.body with
    | .group g => if g.schedule == h && ch.state = .running then some ch.handle else none
    | _ => none)

/-- The computation of a SCHEDULE channel (R140): the level in force at the start of the next tick goes to every RUNNING
group that names it; HELD or FAULTED, the last posted level is posted again (Table 5 of ch. 3). -/
def Calc.schedule (ch : Channel) (x : Schedule) (c : Calc) : Calc :=
  let send := fun (v : Nat × Nat × Nat × Int) (c : Calc) =>
    (groupsNaming c.ord ch.handle).foldl (fun c g => c.post ch.handle g 0x0410 ch.tainted (le 2 v.1 ++ le 1 v.2.1 ++ le 1 v.2.2.1 ++ dayBytes v.2.2.2)) c
  match ch.state with
  | .running =>
    let c := c.refreshSolar ch.handle
    let x := (scheduleOf c.ord ch.handle).getD x
    let u := utcLabel c.ord (c.tick + 1)
    let v := match x.inForce c.ord u with
      | some (_, level, g, i, day) => (level, g, i, day)
      | none => (0, 0, 0, x.local_ u / 86400)
    let c := if x.posted != some v && x.posted.isSome then c.count 0x08B 1 else c
    send v (c.modSchedule ch.handle (fun x => { x with posted := some v }))
  | .held | .faulted => match x.posted with | some v => send v c | none => c
  | _ => c

/-! ### Overrides (R147, R148) -/

/-- The overrides of a group that have expired end (R147): kind 0x0802 with cause 0, event source 0x085. -/
def Calc.expireOverrides (h : Handle) (c : Calc) : Calc :=
  match groupOf c.ord h with
  | none => c
  | some g =>
    let gone := g.overrides.filter (fun o => o.2.expiry ≤ c.tick)
    let c := c.modGroup h (fun g => { g with overrides := g.overrides.filter (fun o => c.tick < o.2.expiry) })
    gone.foldl (fun c o => (c.derive 0x0802 0xFF (le 4 h.toNat ++ le 1 o.1 ++ le 1 0)).count 0x085 1) c

/-- OVERRIDE in the computation of its tick; `entry` is its place in the waybill. What has expired by this tick is inactive (R147). -/
def ordOverride (entry : Nat) : Handler := fun m p c =>
  let b := p.payload
  let slot := fld b 0 1
  let code := fld b 1 1
  let level := fld b 2 2
  let dur := fld b 4 4
  let first := fld b 8 2
  let last := fld b 10 2
  match chanOf c.ord p.handle, groupOf c.ord p.handle with
  | some ch, some g =>
    let g := { g with overrides := g.overrides.filter (fun o => c.tick < o.2.expiry) }
    let c := c.expireOverrides p.handle
    let old := look slot g.overrides
    if 7 < slot || (47 < code && code != 0xFF) || 1000 < level || dur == 0 || 604800 < dur then (c, { status := .badParam })
    else if !(first == 0xFFFF && last == 0xFFFF) && (last < first || 8191 < last) then (c, { status := .range })
    else if ch.state = .held || ch.state = .faulted then (c, { status := .wrongState })
    else if (old.map (·.emergency)).getD false && !p.emergency then (c, { status := .notPermitted })
    else
      let exp := c.tick + 4 * dur
      let o : Override := { emergency := p.emergency, master := m, code, level, first, last, expiry := exp, tick := c.tick, entry }
      let c := if old.isSome then c.derive 0x0802 m (le 4 p.handle.toNat ++ le 1 slot ++ le 1 2) else c
      let c := c.modGroup p.handle (fun g => { g with overrides := put slot o g.overrides })
      let c := c.derive 0x0801 m (le 4 p.handle.toNat ++ le 1 slot ++ le 2 level ++ le 1 (b2n p.emergency) ++ le 1 m)
      (c.count 0x084 1, { payload := le 8 exp })
  | _, _ => (c, { status := .staleHandle })

/-- OVERRIDE_CANCEL in the computation of its tick. -/
def ordOverrideCancel : Handler := fun m p c =>
  let slot := fld p.payload 0 1
  match chanOf c.ord p.handle, groupOf c.ord p.handle with
  | some ch, some g =>
    let g := { g with overrides := g.overrides.filter (fun o => c.tick < o.2.expiry) }
    let c := c.expireOverrides p.handle
    let single := look slot g.overrides
    if 7 < slot && slot != 0xFF then (c, { status := .badParam })
    else if ch.state = .held || ch.state = .faulted then (c, { status := .wrongState })
    else if slot != 0xFF && single.isNone then (c, { status := .wrongState })
    else if slot != 0xFF && (single.map (·.emergency)).getD false && !p.emergency then (c, { status := .notPermitted })
    else
      let hit := fun x : Nat × Override => (slot == 0xFF || x.1 == slot) && (p.emergency || !x.2.emergency)
      let gone := g.overrides.filter hit
      let c := c.modGroup p.handle (fun g => { g with overrides := g.overrides.filter (fun x => !hit x) })
      let c := gone.foldl (fun c x => (c.derive 0x0802 m (le 4 p.handle.toNat ++ le 1 x.1 ++ le 1 1)).count 0x086 1) c
      (c, { payload := le 1 (sumBy (fun x => 2 ^ x.1) gone) ++ zeros 3 })
  | _, _ => (c, { status := .staleHandle })

/-! ### Group configuration -/

/-- GROUP_CONFIG. -/
def ordGroupConfig : Handler := fun m p c =>
  let b := p.payload
  let sch : Handle := BitVec.ofNat 32 (fld b 0 4)
  let up := fld b 4 1
  let down := fld b 5 1
  let fl := fld b 6 1
  let nb := fld b 7 1
  let rf := fld b 10 2
  if 47 < up || 47 < down || 7 < fl || nb == 0 || 3 < nb || 1000 < fld b 8 2 || (rf != 0 && (rf < 10 || 3600 < rf)) then (c, { status := .badParam })
  else if sch != 0 && hType sch != 2 then (c, { status := .badHandle })
  else if sch != 0 && (chanOf c.ord sch).isNone then (c, { status := .staleHandle })
  else (((c.modGroup p.handle (fun g => { g with schedule := sch, up := up, down := down, flags := fl, neighbours := nb, raise := fld b 8 2, refresh := rf })).complete p.handle).configured m p, {})

/-- CURFEW_SET (R145). -/
def ordCurfewSet : Handler := fun m p c =>
  let b := p.payload
  let n := fld b 0 1
  let ws := (List.range n).map (fun i => ({ days := fld b (8 + 8 * i) 1, start := fld b (10 + 8 * i) 2, stop := fld b (12 + 8 * i) 2, level := fld b (14 + 8 * i) 2 } : Curfew))
  if 8 < n || ws.any (fun w => 127 < w.days || 1439 < w.start || 1439 < w.stop || w.start == w.stop || 1000 < w.level) then (c, { status := .badParam })
  else ((c.modGroup p.handle (fun g => { g with curfews := ws })).configured m p, {})

/-- FALLBACK_SET (R156), on a group or on the device defaults. -/
def ordFallbackSet : Handler := fun m p c =>
  let b := p.payload
  let clear := bit (fld b 6 1) 0
  let f : Fallback := { level := fld b 0 2, delay := fld b 2 2, code := fld b 4 1, mode := fld b 5 1 }
  if 1 < fld b 6 1 || (clear && p.handle == deviceHandle) ||
      (!clear && (1000 < f.level || f.delay < 30 || 3600 < f.delay || 47 < f.code || 1 < f.mode)) then (c, { status := .badParam })
  else if p.handle == deviceHandle then ({ c with ord := { c.ord with fallback := f } }.configured m p, {})
  else ((c.modGroup p.handle (fun g => { g with fallback := if clear then none else some f })).configured m p, {})

/-! ### Membership (R134, R158) -/

/-- The members of a group in a membership, ascending. -/
def membersOf (ms : List (Nat × Handle)) (h : Handle) : List Nat := (ms.filter (fun x => x.2 == h)).map (·.1)

/-- GROUP_MEMBERS (R158): judged against the membership as the earlier commands of the waybill have left it. -/
def ordGroupMembers : Handler := fun m p c =>
  let b := p.payload
  let op := fld b 0 1
  let n := fld b 1 1
  let ranges := (List.range n).map (fun i => (fld b (4 + 4 * i) 2, fld b (6 + 4 * i) 2))
  let ls := (ranges.map (fun r => (List.range r.2).map (· + r.1))).flatten
  if 1 < op || n == 0 || ranges.any (fun r => 8192 < r.1 + r.2) then (c, { status := .badParam })
  else if ls.any (fun l => (placementOf c.ord l).isNone) then (c, { status := .range })
  else
    let ms := c.nextMembers.getD c.ord.members
    let step := fun (acc : List (Nat × Handle) × Nat) (l : Nat) =>
      if op == 0 then (if look l acc.1 == some p.handle then acc else (put l p.handle acc.1, acc.2 + 1))
      else (if look l acc.1 == some p.handle then (del l acc.1, acc.2 + 1) else acc)
    let r := ls.foldl step (ms, 0)
    let c := { c with nextMembers := some r.1 }
    let c := if r.2 == 0 then c else (c.derive 0x0806 m (le 4 p.handle.toNat ++ le 1 op ++ le 2 r.2)).count 0x08C r.2
    (c, { payload := le 2 (membersOf r.1 p.handle).length ++ le 2 r.2 ++ zeros 4 })

/-- A lantern's kept facts. -/
def lanternOf (o : Ordered) (l : Nat) : Lantern := lookD l {} o.lanterns

/-- Change what is kept of a lantern. -/
def Calc.modLantern (l : Nat) (f : Lantern → Lantern) (c : Calc) : Calc :=
  { c with ord := { c.ord with lanterns := put l (f (lanternOf c.ord l)) c.ord.lanterns } }

/-- The membership changes of the waybill come into force at the end of the tick's computations (R158); a lantern that
leaves all groups gets one last entry (R157). The issue step of the tick still reads the membership of the tick (R153). -/
def Calc.applyMembers (c : Calc) : Calc :=
  let c := { c with res := { c.res with members := c.ord.members } }
  match c.nextMembers with
  | none => c
  | some ms =>
    let left := c.ord.members.filter (fun x => (look x.1 ms).isNone)
    let c := left.foldl (fun c x => c.modLantern x.1 (fun l => { l with leaveDue := true })) c
    { c with ord := { c.ord with members := ms }, nextMembers := none }

/-! ### Contenders and arbitration (R135 to R146) -/

/-- The lantern and demand items of an escort post (Table 4 of ch. 8). -/
def escortItems (p : Post) : List (Nat × Nat) :=
  (List.range (fld p.payload 0 1)).map (fun i => (fld p.payload (2 + 4 * i) 2, fld p.payload (4 + 4 * i) 2))

/-- The curfew windows active at a local minute of a weekday (R145). -/
def Curfew.active (w : Curfew) (wd minute : Nat) : Bool :=
  if w.start < w.stop then bit w.days wd && w.start ≤ minute && minute < w.stop
  else (bit w.days wd && w.start ≤ minute) || (bit w.days ((wd + 6) % 7) && minute < w.stop)

/-- CAP_CURFEW of a group in a tick (R145). -/
def curfewCap (o : Ordered) (g : Group) (n : Nat) : Nat :=
  let u := utcLabel o n
  let l := match scheduleOf o g.schedule with | some x => x.local_ u | none => u
  let wd := ((6 + l / 86400) % 7).toNat
  let minute := (l % 86400 / 60).toNat
  (g.curfews.filter (fun w => w.active wd minute)).foldl (fun m w => min m w.level) 1000

/-- An override is active in a tick and covers a lantern (R147). -/
def Override.covers (o : Override) (tick l : Nat) : Bool :=
  tick < o.expiry && ((o.first == 0xFFFF && o.last == 0xFFFF) || (o.first ≤ l && l ≤ o.last))

/-- The override that decides for a member: among EMERGENCY ones if any cover it, the one ordered latest (R147). -/
def coveringOverride (g : Group) (tick l : Nat) : Option Override :=
  let all := (g.overrides.map (·.2)).filter (fun o => o.covers tick l)
  let em := all.filter (·.emergency)
  let pick := if em.isEmpty then all else em
  pick.foldl (fun best o => match best with
    | none => some o
    | some b => if b.tick < o.tick || (b.tick == o.tick && b.entry < o.entry) then some o else best) none

/-- A lantern is dark (R137). -/
def Lantern.dark (l : Lantern) : Bool := l.lightOut || l.absent

/-- The demand, the final level and the decider of one member (R135, R136). -/
def decide_ (v : MemberVal) : MemberVal :=
  let base := max v.schedule (max v.escort v.safety)
  let demand := v.above.getD base
  let winner := if v.above.isSome then 4 else if v.schedule == base then 1 else if v.escort == base then 2 else 3
  let circ := if v.overEmergency then 1000 else v.capCircuit
  let curf := if v.overEmergency then 1000 else v.capCurfew
  let cap := min v.health (min circ curf)
  let final := min demand cap
  let decider := if cap < demand then (if v.health == cap then 7 else if curf == cap then 6 else 5) else winner
  { v with final, decider }

/-- The members of a group on one link, in order of chainage and then number, around a dark member (R143). -/
def neighboursOf (o : Ordered) (ms : List Nat) (x n : Nat) : List Nat :=
  match placementOf o x with
  | none => []
  | some px =>
    let key := fun m => (plChainage ((placementOf o m).getD []), m)
    let same := ms.filter (fun m => m != x && plLink ((placementOf o m).getD []) == plLink px)
    let lt := fun (a b : Nat × Nat) => a.1 < b.1 || (a.1 == b.1 && a.2 < b.2)
    let below := (same.filter (fun m => lt (key m) (key x)))
    let above := (same.filter (fun m => lt (key x) (key m)))
    let order := fun m => (key m).1 * 16384 + m
    lastN n (sortBy order below) ++ (sortBy order above).take n

/-- The contender values of a group's members before safety (R135). -/
def Calc.baseVals (g : Group) (ms : List Nat) (escorts : List (Nat × Nat)) (curfew : Nat) (c : Calc) : List MemberVal :=
  ms.map (fun m =>
    let l := lanternOf c.ord m
    let esc := if bit g.flags 2 then (escorts.filter (fun e => e.1 == m)).foldl (fun a e => max a e.2) 0 else 0
    let ov := coveringOverride g c.tick m
    let circ := plCircuit ((placementOf c.ord m).getD [])
    let cap := match look circ g.caps with
      | some (v, t) => if bit g.flags 0 && circ != 0xFF && c.tick < t + 8 then v else 1000
      | none => 1000
    { partner := m, schedule := g.schedLevel, escort := esc, above := ov.map (·.level), overEmergency := (ov.map (·.emergency)).getD false, overCode := (ov.map (·.code)).getD 0xFF, capCircuit := cap, capCurfew := curfew, health := l.derate, dark := l.dark })

/-- SAFETY of each member (R143). -/
def addSafety (o : Ordered) (g : Group) (vs : List MemberVal) : List MemberVal :=
  if !bit g.flags 1 then vs
  else
    let ms := vs.map (·.partner)
    let raises := ((vs.filter (·.dark)).map (fun x =>
      let d := min 1000 (max x.schedule x.escort + g.raise)
      (neighboursOf o ms x.partner g.neighbours).map (fun m => (m, d)))).flatten
    vs.map (fun v => { v with safety := (raises.filter (fun r => r.1 == v.partner)).foldl (fun a r => max a r.2) v.safety })

/-- The head of a group in section 0x0003 (Table 7). -/
def groupHead (ch : Channel) (g : Group) (tick members : Nat) : List Byte :=
  let act := g.overrides.filter (fun o => tick < o.2.expiry)
  let stateCode := match ch.state with | .created => 0 | .configured => 1 | .running => 2 | .held => 3 | .faulted => 4
  le 4 ch.handle.toNat ++ le 1 stateCode ++ le 1 (b2n (act.any (·.2.emergency)) + 2 * b2n g.schedPost) ++ le 2 members ++
    le 2 g.schedLevel ++ le 2 g.curfewCap ++ le 1 (sumBy (fun o => 2 ^ o.1) act) ++ zeros 3 ++
    ((List.range 8).map (fun k => le 2 (match look k g.caps with | some (v, t) => if tick < t + 8 then v else 1000 | none => 1000))).flatten ++
    ((List.range 8).map (fun k => le 2 (match look k act with | some o => o.level | none => 0xFFFF))).flatten

/-- The group's item of section 0x0003: its head and one record per member (Tables 7 and 8). A member that joined while
the group was HELD or FAULTED has no values of a running computation. `withWaiting` adds bit 1 of the member flags. -/
def groupItem (o : Ordered) (ch : Channel) (g : Group) (tick : Nat) : Item :=
  let ms := membersOf o.members ch.handle
  let rec_ := fun m =>
    let l := lanternOf o m
    match g.vals.find? (fun v => v.partner == m) with
    | some v => le 2 m ++ le 2 v.escort ++ le 2 v.safety ++ le 2 (if ch.state = .running then v.health else l.derate) ++ le 2 v.final ++ le 1 v.decider ++
        le 1 (b2n (if ch.state = .running then v.dark else l.dark))
    | none => le 2 m ++ zeros 4 ++ le 2 l.derate ++ le 2 0xFFFF ++ zeros 1 ++ le 1 (b2n l.dark)
  { section_ := 3, key := hSlot ch.handle, tainted := ch.tainted, bytes := groupHead ch g tick ms.length ++ (ms.map rec_).flatten }

/-- Bit 1 of the flags of each member record of section 0x0003 (Table 8): the candidates that the issue step of the tick has not issued. -/
def withWaiting (o : Ordered) (i : Item) : Item :=
  if i.section_ != 3 then i
  else
    let one := fun k =>
      let r := (i.bytes.drop (48 + 12 * k)).take 12
      r.take 11 ++ le 1 (fld r 11 1 % 2 + 2 * b2n (lanternOf o (fld r 0 2)).waiting)
    { i with bytes := i.bytes.take 48 ++ ((List.range ((i.bytes.length - 48) / 12)).map one).flatten }

/-- The group items of a tick show what its issue step has left waiting; outputs of the tick before stay as they were (R49). -/
def Calc.showWaiting (c : Calc) : Calc :=
  let f := fun (i : Item) => if c.res.failed.any (fun h => hSlot h == i.key) then i else withWaiting c.ord i
  { c with res := { c.res with items := c.res.items.map f }
           ord := { c.ord with channels := c.ord.channels.map (fun ch => { ch with lastItems := ch.lastItems.map f }) } }

/-- The group reads its posts (R140, R142, R144). -/
def readGroupPosts (g : Group) (inbox : List Post) (tick : Nat) : Group :=
  let sch := inbox.filter (fun p => p.kind == 0x0410 && p.src == g.schedule)
  let caps := inbox.filter (fun p => p.kind == 0x0801)
  let g := { g with schedLevel := (sch.getLast?.map (fun p => fld p.payload 0 2)).getD 0, schedPost := !sch.isEmpty }

  caps.foldl (fun g p => { g with caps := put (fld p.payload 0 1) (fld p.payload 2 2, tick) g.caps }) g

/-- The computation of a GROUP channel (R134 to R148, R161). HELD or FAULTED, it reads and drops its posts, and its
overrides expire on time. -/
def Calc.group (ch : Channel) (c : Calc) : Calc :=
  let h := ch.handle
  let c := c.expireOverrides h
  match groupOf c.ord h with
  | none => c
  | some g =>
    match ch.state with
    | .running =>
      let inbox := c.inbox.filter (fun p => p.dst == h)
      let ms := membersOf c.ord.members h
      let escorts := ((inbox.filter (fun p => p.kind == 0x0501)).map escortItems).flatten
      let g := readGroupPosts g inbox c.tick
      let curfew := curfewCap c.ord g c.tick
      let vs := (addSafety c.ord g (c.baseVals g ms escorts curfew)).map decide_
      let was := fun m => (g.vals.find? (fun v => v.partner == m)).map (·.dark)
      let c := vs.foldl (fun c v =>
        if v.dark && was v.partner != some true then c.derive 0x0803 0xFF (le 2 v.partner ++ le 4 h.toNat)
        else if !v.dark && was v.partner == some true then c.derive 0x0804 0xFF (le 2 v.partner ++ le 4 h.toNat) else c) c
      let n := fun k => (vs.filter (fun v => v.decider == k)).length
      let c := (((c.count 0x087 (n 5)).count 0x088 (n 6)).count 0x089 (n 7)).count 0x08A (vs.filter (fun v => 0 < v.safety)).length
      let g := { g with curfewCap := curfew, vals := vs }
      (c.modGroup h (fun _ => g)).item (groupItem c.ord ch g c.tick)
    | .held | .faulted => if ch.state = .faulted && (ch.before = .created || ch.before = .configured) then c else c.item (groupItem c.ord ch g c.tick)
    | _ => c

/-! ### Ramps and records (R149 to R152) -/

/-- The increment Δ of a ramp code (R149 Table 3). -/
def deltaOf (code : Nat) : Nat :=
  ([0, 6, 8, 10, 13, 16, 20, 26, 32, 40, 51, 64, 80, 102, 128, 160, 202, 256, 320, 403, 512] ++
   [640, 800, 1024, 1280, 1600, 2016, 2560, 3200, 4032, 5120, 6400, 8000, 10240, 12800, 16000, 20160, 25600, 32000, 40320, 51200] ++
   [64000, 80000, 102400, 128000, 160000, 201600, 256000])[code]?.getD 0

/-- Step 1 of a boundary: advance the ramp in force (R150). -/
def LevelRec.advance (r : LevelRec) : LevelRec :=
  if r.p < 256 * r.t then { r with p := min (r.p + r.d) (256 * r.t) }
  else if 256 * r.t < r.p then { r with p := max (r.p - r.d) (256 * r.t) }
  else r

/-- Step 2 of a boundary: install an entry (R150). -/
def LevelRec.install (r : LevelRec) (target code : Nat) : LevelRec :=
  if code == 0 then { r with t := target, p := 256 * target, d := 0, code := 0 } else { r with t := target, d := deltaOf code, code := code }

/-- The record at the boundary that opens tick `n` (R150): every issued entry is applied at its start boundary. -/
def LevelRec.boundary (n : Nat) (r : LevelRec) : LevelRec :=
  let r := r.advance
  match r.queue with
  | q :: rest => if q.start ≤ n then { r.install q.target q.code with queue := rest } else r
  | [] => r

/-- The record projected from the boundary that opens tick `n + 1` to the boundary that opens tick `n + 3`, before an
entry that starts there is installed (R153, R160). -/
def LevelRec.project (n : Nat) (r : LevelRec) : LevelRec := (r.boundary (n + 2)).advance

/-- Every record stands at the boundary that ends the tick (R152). -/
def Calc.advanceRecords (c : Calc) : Calc :=
  { c with ord := { c.ord with lanterns := c.ord.lanterns.map (fun x => (x.1, { x.2 with record := x.2.record.map (LevelRec.boundary (c.tick + 1)) })) } }

/-- The fallback parameters conveyed for a lantern (R156). -/
def fallbackOf (o : Ordered) (l : Nat) : Fallback :=
  match look l o.members with
  | some h => ((groupOf o h).bind (·.fallback)).getD o.fallback
  | none => o.fallback

/-! ### Issuing entries (R153 to R157) -/

/-- The record an entry is built on: the one in being, or, for the first entry, the lantern standing at its fallback
level (R152). -/
def baseRecord (o : Ordered) (l : Nat) : LevelRec :=
  ((lanternOf o l).record).getD { p := 256 * (fallbackOf o l).level, t := (fallbackOf o l).level, code := 0 }

/-- A candidate for an entry: partner, target, ramp code, class, decider, radio, ticks waited, group slot, P at start. -/
structure Cand where
  partner : Nat
  target : Nat
  code : Nat
  cls : Nat
  decider : Nat
  radio : Nat
  waited : Nat
  slot : Nat
  p : Nat
  deriving DecidableEq, Repr

/-- The radio a lantern's entries travel on: in use, or primary if it has never been heard (R154). -/
def entryRadio (o : Ordered) (l : Nat) : Nat :=
  let d := lookD l {} o.registry
  if d.radio ≤ 3 then d.radio else plPrimary ((placementOf o l).getD [])

/-- The candidates of one RUNNING group (R153, R155). -/
def groupCands (o : Ordered) (tick : Nat) (ch : Channel) (g : Group) : List Cand :=
  (g.vals.filter (fun v => look v.partner o.members == some ch.handle && (placementOf o v.partner).isSome)).filterMap (fun v =>
    let l := lanternOf o v.partner
    let r := (baseRecord o v.partner).project tick
    let mk := fun target code cls => some ({ partner := v.partner, target, code, cls, decider := v.decider, radio := entryRadio o v.partner, waited := l.age, slot := hSlot ch.handle, p := r.p } : Cand)
    if v.final != l.lastTarget || l.record.isNone then
      let up := r.p < 256 * v.final
      let code := if v.decider == 4 && v.overCode != 0xFF then v.overCode else if up then g.up else g.down
      mk v.final code (if v.decider == 4 && v.overEmergency then 1 else if up then 2 else 3)
    else if g.refresh != 0 && (l.refreshDue || l.lastTick + 4 * g.refresh < tick) then mk l.lastTarget r.code 4
    else none)

/-- The last entries of lanterns that have left all groups (R157). -/
def leaveCands (o : Ordered) (tick : Nat) : List Cand :=
  (o.lanterns.filter (fun x => x.2.leaveDue && (look x.1 o.members).isNone && (placementOf o x.1).isSome)).map (fun x =>
    { partner := x.1, target := o.fallback.level, code := o.fallback.code, cls := 3, decider := 0, radio := entryRadio o x.1, waited := x.2.age, slot := 0xFFFF, p := ((baseRecord o x.1).project tick).p })

/-- The order in which a radio's candidates go: class, longest waiting, lower number (R154). -/
def candKey (c : Cand) : Nat := (c.cls * 2 ^ 40 + (2 ^ 40 - 1 - min c.waited (2 ^ 39))) * 16384 + c.partner

/-- One entry is issued: the record, the last issued target, the item of section 0x0001 and the field-frame entry. -/
def Calc.issue (x : Cand) (c : Calc) : Calc :=
  let r := baseRecord c.ord x.partner
  let q : Queued := { start := c.tick + 3, target := x.target, code := x.code }
  let c := c.modLantern x.partner (fun l => { l with record := some { r with queue := r.queue ++ [q] }, lastTarget := x.target, lastTick := c.tick, age := 0, waiting := false, refreshDue := false, leaveDue := false })
  let c := c.item { section_ := 1, key := x.partner, tainted := c.res.devTaint.contains 0, bytes := le 2 x.partner ++ le 2 x.target ++ le 1 x.code ++ le 1 0 ++ le 1 x.cls ++ le 1 x.decider ++ le 4 x.p ++ le 2 x.slot ++ le 1 x.radio ++ le 1 (min x.waited 255) }
  let c := { c with res := { c.res with field := c.res.field ++ [(x.radio, x.partner, x.target, x.code)] } }
  let c := c.count 0x080 1
  let c := if x.cls == 1 then c.count 0x081 1 else c
  if x.cls == 4 then c.count 0x082 1 else c

/-- The issue step of a tick (R153 to R157), with the budget E_r of each radio, over the membership of the tick (R158). -/
def Calc.issueStep (budget : Nat → Nat) (c : Calc) : Calc :=
  let after := c.ord.members
  let c := { c with ord := { c.ord with members := c.res.members } }
  let cands := (c.ord.channels.map (fun ch => match ch.body with
    | .group g => if ch.state = .running then groupCands c.ord c.tick ch g else []
    | _ => [])).flatten ++ leaveCands c.ord c.tick
  let per := fun r => sortBy candKey (cands.filter (fun x => x.radio == r))
  let go := fun r (c : Calc) =>
    let l := per r
    let c := (l.take (budget r)).foldl (fun c x => c.issue x) c
    let rest := (l.drop (budget r)).filter (fun x => x.cls != 4)
    let c := rest.foldl (fun c x => c.modLantern x.partner (fun l => { l with age := l.age + 1, waiting := true })) c
    let c := if rest.isEmpty then c else c.count 0x083 rest.length
    let oldest := rest.foldl (fun m x => max m (x.waited + 1)) 0
    let due := match look r c.ord.backlog with | some t => t + 240 ≤ c.tick | none => true
    if 40 ≤ oldest && due then { c with ord := { c.ord with backlog := put r c.tick c.ord.backlog } }.derive 0x0808 0xFF (le 1 r ++ le 2 rest.length ++ le 2 oldest) else c
  let c := { c with ord := { c.ord with lanterns := c.ord.lanterns.map (fun x => (x.1, if cands.any (fun k => k.partner == x.1) then x.2 else { x.2 with age := 0, waiting := false })) } }
  let c := go 3 (go 2 (go 1 (go 0 c)))
  { c with ord := { c.ord with members := after }, res := { c.res with issued := true } }

/-! ### Reading back -/

/-- The state code of CHANNEL_INFO. -/
def stateCode : ChanState → Nat
  | .created => 0 | .configured => 1 | .running => 2 | .held => 3 | .faulted => 4

/-- GROUP_STATUS, as of the latest released tick (R132). -/
def cmdGroupStatus (p : Packet) (s : State) : State × Ans :=
  match chanOf s.rel p.handle, groupOf s.rel p.handle with
  | some ch, some g =>
    let ms := membersOf s.rel.members p.handle
    let act := g.overrides.filter (fun o => s.relTick < o.2.expiry)
    let wait := (ms.filter (fun m => (lanternOf s.rel m).waiting)).length
    let ov := fun k => match look k act with
      | some o => le 1 1 ++ le 1 (b2n o.emergency) ++ le 1 o.master ++ le 1 o.code ++ le 2 o.level ++ le 2 o.first ++ le 2 o.last ++ zeros 2 ++ le 4 o.expiry
      | none => zeros 16
    (s, { status := if ch.tainted then .tainted else .ok
          payload := le 8 s.relTick ++ le 4 p.handle.toNat ++ le 1 (stateCode ch.state) ++ le 1 (b2n (act.any (·.2.emergency)) + 2 * b2n g.schedPost) ++
            le 2 ms.length ++ le 2 wait ++ le 2 g.schedLevel ++ le 2 g.curfewCap ++ zeros 2 ++ ((List.range 8).map ov).flatten })
  | _, _ =>
    (s, { payload := le 8 s.relTick ++ le 4 p.handle.toNat ++ le 1 0 ++ le 1 0 ++ zeros 6 ++ le 2 1000 ++ zeros 2 ++ zeros 128 })

/-- LANTERN_LEVEL_GET (Table 10), as of the latest released tick. -/
def cmdLanternLevelGet (p : Packet) (s : State) : State × Ans :=
  let n := fld p.payload 0 2
  if 8191 < n then (s, { status := .badParam })
  else if (placementOf s.rel n).isNone then (s, { status := .range })
  else
    let l := lanternOf s.rel n
    let h := (look n s.rel.members).getD 0
    let g := groupOf s.rel h
    let v := (g.bind (fun g => g.vals.find? (fun v => v.partner == n))).getD { partner := n, health := l.derate }
    let tainted := ((chanOf s.rel h).map (·.tainted)).getD false || s.rel.devTaint.contains 0
    let r := l.record
    (s, { status := if tainted then .tainted else .ok
          payload := le 8 s.relTick ++ le 4 h.toNat ++ (match r with
            | some r => le 4 r.p ++ le 2 r.t ++ le 1 r.code
            | none => le 4 0xFFFFFFFF ++ le 2 0xFFFF ++ le 1 0xFF) ++ le 1 v.decider ++
            le 2 v.schedule ++ le 2 v.escort ++ le 2 v.safety ++ le 2 (v.above.getD 0xFFFF) ++ le 2 v.capCircuit ++ le 2 v.capCurfew ++ le 2 v.health ++ le 2 v.final ++
            le 2 l.lastTarget ++ le 8 l.lastTick ++ le 1 (b2n l.dark + 2 * b2n l.waiting + 4 * b2n v.overEmergency) ++ zeros 1 })

/-- A computation of a tick on the ordered state, with what of the other domains it can see (log entry 19). -/
def contextOf (s : State) : Context :=
  { plan := s.plan, fast := s.drive.slots, job := s.metro.job, keys := s.vault.slots, segment := s.twin.eui, storeFull := s.store.spareOut
    armed := (s.drive.traces.filter (fun r => r.state == 1 || r.state == 2)).map (·.handle) }

/-- A computation over a context. -/
def Context.calc (x : Context) (tick : Nat) (o : Ordered) (res : TickResult) : Calc :=
  { tick, ord := o, plan := x.plan, res, fast := x.fast, job := x.job, keys := x.keys, segment := x.segment, storeFull := x.storeFull, armed := x.armed }

/-- A computation over the state as it stands. -/
def calcOf (s : State) (tick : Nat) (o : Ordered) (res : TickResult) : Calc := (contextOf s).calc tick o res

/-- Run a step of the open tick's computation ahead of its boundary: its results join those of the tick. A standby computes the
active's ticks only (R397). -/
def openCalc (f : Calc → Calc) (s : State) : State :=
  if !s.clerk.running || s.mode.role == 2 then s
  else
    let c := f { calcOf s s.clerk.tick s.ord s.early with entries := s.clerk.open_ }
    { s with ord := c.ord, plan := c.plan, early := c.res }

/-- OVERRIDE_EXPIRY (R147): an override whose last tick has passed ends. -/
def execOverrideExpiry (group : Handle) (slot : Nat) (s : State) : Host.Outcome State Fault Refusal :=
  match groupOf s.ord group with
  | none => .next s
  | some g => match look slot g.overrides with
    | some o => if o.expiry ≤ s.clerk.tick then .next (openCalc (fun c => c.expireOverrides group) s) else .next s
    | none => .next s

/-- REFRESH_DUE (R155): a member whose last entry is older than the refresh interval becomes a refresh candidate. -/
def execRefreshDue (lantern : Nat) (s : State) : Host.Outcome State Fault Refusal :=
  let l := lanternOf s.ord lantern
  match (look lantern s.ord.members).bind (groupOf s.ord) with
  | some g =>
    if g.refresh != 0 && l.record.isSome && l.lastTick + 4 * g.refresh < s.clerk.tick then
      .next (openCalc (fun c => c.modLantern lantern (fun l => { l with refreshDue := true })) s)
    else .next s
  | none => .next s

/-- GROUP_CONFIG (R135): ordered; `ordGroupConfig` is its effect. -/
def execGroupConfig (p : Packet) (s : State) : Host.Outcome State Fault Refusal := .next (submitW 0x0401 p s)
/-- GROUP_MEMBERS (R158): ordered; `ordGroupMembers` is its effect. -/
def execGroupMembers (p : Packet) (s : State) : Host.Outcome State Fault Refusal := .next (submitW 0x0402 p s)
@[inherit_doc cmdGroupStatus] def execGroupStatus (p : Packet) (s : State) : Host.Outcome State Fault Refusal := .next (submit 0x0403 cmdGroupStatus p s)
@[inherit_doc cmdLanternLevelGet] def execLanternLevelGet (p : Packet) (s : State) : Host.Outcome State Fault Refusal := .next (submit 0x0404 cmdLanternLevelGet p s)
/-- SCHEDULE_CONFIG (R138): ordered; `ordScheduleConfig` is its effect. -/
def execScheduleConfig (p : Packet) (s : State) : Host.Outcome State Fault Refusal := .next (submitW 0x0410 p s)
/-- HOLIDAY_SET (R139): ordered; `ordHolidaySet` is its effect. -/
def execHolidaySet (p : Packet) (s : State) : Host.Outcome State Fault Refusal := .next (submitW 0x0411 p s)
@[inherit_doc cmdSolarGet] def execSolarGet (p : Packet) (s : State) : Host.Outcome State Fault Refusal := .next (submit 0x0412 cmdSolarGet p s)
/-- OVERRIDE (R147): ordered; `ordOverride` is its effect. -/
def execOverride (p : Packet) (s : State) : Host.Outcome State Fault Refusal := .next (submitW 0x0420 p s)
/-- OVERRIDE_CANCEL (R148): ordered; `ordOverrideCancel` is its effect. -/
def execOverrideCancel (p : Packet) (s : State) : Host.Outcome State Fault Refusal := .next (submitW 0x0421 p s)
/-- CURFEW_SET (R145): ordered; `ordCurfewSet` is its effect. -/
def execCurfewSet (p : Packet) (s : State) : Host.Outcome State Fault Refusal := .next (submitW 0x0430 p s)
/-- FALLBACK_SET (R156): ordered; `ordFallbackSet` is its effect. -/
def execFallbackSet (p : Packet) (s : State) : Host.Outcome State Fault Refusal := .next (submitW 0x0431 p s)

end Sys2Proof.Machine
end

