-- ==== Sys2Proof/Machine/Registry.lean ====
section
/-!
DEFINITION. Machine/Registry.lean: the registry and its export (ch. 6).
-/
namespace Sys2Proof.Machine

/-- The level in 1/1000 that a record reports (R150). -/
def LevelRec.level (r : LevelRec) : Nat := r.p / 256

/-- The registry record of a placed partner (R132 Table 6): the placement item gives bytes 0 to 29. -/
def registryRecord (o : Ordered) (n : Nat) (pl : List Byte) : List Byte :=
  let d := lookD n {} o.registry
  let lantern := n ≤ 8191
  let l := lanternOf o n
  pl.take 27 ++ zeros 1 ++ (if lantern then (pl.drop 27).take 2 else zeros 2) ++ zeros 2 ++
    le 4 (if lantern then ((look n o.members).getD 0).toNat else 0) ++
    le 1 d.airState ++ le 1 d.radio ++ leS 1 d.rssi ++ le 1 d.lqi ++ leS 2 d.drift ++
    le 2 (match l.record with | some r => if lantern then r.level else 0xFFFF | none => 0xFFFF) ++
    le 2 (if lantern && l.record.isSome then l.lastTarget else 0xFFFF) ++
    leS 1 d.temp ++ zeros 1 ++ le 4 d.firmware ++ le 4 d.faults ++ le 8 d.firstHeard ++ le 8 d.lastHeard ++ le 8 d.lastReport ++
    le 8 d.energy ++ le 4 d.gen ++ zeros 36

/-- The dynamic fields of a partner come from a tainted computation (R36): its group's, the issue step or the partner step. -/
def registryTainted (o : Ordered) (n : Nat) : Bool :=
  ((look n o.members).bind (chanOf o)).any (·.tainted) || o.devTaint.contains 0 || o.devTaint.contains 1

/-- REGISTRY_GET (R132). -/
def cmdRegistryGet (p : Packet) (s : State) : State × Ans :=
  let n := fld p.payload 0 2
  if 10239 < n then (s, { status := .badParam })
  else match placementOf s.rel n with
    | none => (s, { status := .range })
    | some pl => (s, { status := if registryTainted s.rel n then .tainted else .ok, payload := le 8 s.relTick ++ registryRecord s.rel n pl })

/-- The placed partners of a range, ascending. -/
def placedIn (o : Ordered) (first last : Nat) : List (Nat × List Byte) :=
  o.plan.plan.placements.filter (fun x => first ≤ x.1 && x.1 ≤ last)

/-- Registry items of at most 64 records: count, first partner number, records. -/
def registryItems (o : Ordered) : Nat → List (Nat × List Byte) → List (List Byte)
  | 0, _ => []
  | _, [] => []
  | fuel + 1, x :: xs =>
    let part := (x :: xs).take 64
    (le 2 part.length ++ le 2 x.1 ++ zeros 4 ++ (part.map (fun y => registryRecord o y.1 y.2)).flatten) :: registryItems o fuel ((x :: xs).drop 64)

/-- Fields of a record that belong to the groups of a mask of selector 0x0302: bit 0 static, 1 air, 2 level, 3 fault flags,
4 report. -/
def registryFields (mask : Nat) (r : List Byte) : List Byte :=
  let part := fun k off n => if bit mask k then (r.drop off).take n else []
  part 0 0 36 ++ part 0 88 4 ++ part 1 36 6 ++ part 1 56 16 ++ part 2 42 4 ++ part 3 52 4 ++ part 4 46 1 ++ part 4 48 4 ++ part 4 72 16

/-- The placed partners whose record changed in a group of the mask (selector 0x0302). -/
def changedPartners (old new : Ordered) (mask : Nat) : List (Nat × List Byte) :=
  new.plan.plan.placements.filter (fun x =>
    let was := match placementOf old x.1 with | some pl => registryFields mask (registryRecord old x.1 pl) | none => []
    was != registryFields mask (registryRecord new x.1 x.2))

/-- The configuration of a stream. -/
def streamOf (o : Ordered) (h : Handle) : Option StreamCfg :=
  match chanOf o h with | some { body := .stream c, .. } => some c | _ => none

/-- The items of selector 0x0302 of a tick, for each filter some RUNNING stream uses. -/
def changeItems (old new : Ordered) : List (Nat × Nat × List Byte) :=
  let masks := (new.channels.map (fun ch => match ch.body with
    | .stream c => if ch.state = .running then (c.selectors.filter (fun x => x.code == 0x0302)).map (·.filter) else []
    | _ => [])).flatten.eraseDups
  (masks.map (fun m => (registryItems new 10240 (changedPartners old new m)).map (fun b => (0x0302, m, b)))).flatten

/-- Change the delivery side of a stream. -/
def modStream (slot : Nat) (f : StreamRun → StreamRun) (s : State) : State :=
  { s with streams := s.streams.map (fun r => if r.slot == slot then f r else r) }

/-- REGISTRY_EXPORT (R133). -/
def cmdRegistryExport (p : Packet) (s : State) : State × Ans :=
  let first := fld p.payload 0 2
  let last := fld p.payload 2 2
  let slot := hSlot p.handle
  let n := (placedIn s.rel first last).length
  match chanOf s.ord p.handle, streamOf s.ord p.handle, s.streams.find? (fun r => r.slot == slot) with
  | some ch, some c, some r =>
    if last < first || 10239 < last then (s, { status := .badParam })
    else if ch.state ≠ .running || !(c.selectors.any (fun x => x.code == 0x0301)) then (s, { status := .wrongState })
    else if r.snapshot.isSome then (s, { status := .busy })
    else (modStream slot (fun r => { r with snapshot := some (first, last) }) s, { payload := le 4 ((n + 63) / 64) ++ zeros 4 })
  | _, _, _ => (s, { status := if last < first || 10239 < last then .badParam else .wrongState })

/-- A placed partner matches a key of REGISTRY_FIND. -/
def registryMatch (o : Ordered) (kind : Nat) (key : List Byte) (n : Nat) (pl : List Byte) : Bool :=
  match kind with
  | 0 => plEui pl == fld key 0 8
  | 1 => plLink pl == fld key 0 2 && fld key 4 4 ≤ plChainage pl && plChainage pl ≤ fld key 8 4
  | 2 => plCircuit pl == fld key 0 1 && (fld key 1 1 == 0 || plPhase pl == fld key 1 1)
  | _ => look n o.members == some (BitVec.ofNat 32 (fld key 0 4))

/-- REGISTRY_FIND. -/
def cmdRegistryFind (p : Packet) (s : State) : State × Ans :=
  let b := p.payload
  let kind := fld b 0 1
  let most := fld b 2 2
  let from_ := fld b 4 2
  let key := (b.drop 8).take 12
  let h : Handle := BitVec.ofNat 32 (fld key 0 4)
  if 3 < kind || most == 0 || 2032 < most || (kind == 1 && (4095 < fld key 0 2 || fld key 8 4 < fld key 4 4)) ||
      (kind == 2 && ((7 < fld key 0 1 && fld key 0 1 != 0xFF) || 3 < fld key 1 1)) then (s, { status := .badParam })
  else if kind == 3 && hType h != 1 then (s, { status := .badHandle })
  else
    let all := (s.rel.plan.plan.placements.filter (fun x => from_ ≤ x.1 && registryMatch s.rel kind key x.1 x.2)).map (·.1)
    let got := all.take most
    let next := ((all.drop most).head?).getD 0xFFFF
    (s, { payload := le 8 s.relTick ++ le 2 got.length ++ le 2 next ++ zeros 4 ++ (got.map (le 2)).flatten })

@[inherit_doc cmdRegistryGet] def execRegistryGet (p : Packet) (s : State) : Host.Outcome State Fault Refusal := .next (submit 0x0310 cmdRegistryGet p s)
@[inherit_doc cmdRegistryExport] def execRegistryExport (p : Packet) (s : State) : Host.Outcome State Fault Refusal := .next (submit 0x0311 cmdRegistryExport p s)
@[inherit_doc cmdRegistryFind] def execRegistryFind (p : Packet) (s : State) : Host.Outcome State Fault Refusal := .next (submit 0x0312 cmdRegistryFind p s)

end Sys2Proof.Machine
end

