-- ==== Sys2Proof/Machine/Escort.lean ====
section
/-!
DEFINITION. Machine/Escort.lean: escort (ch. 8). Distances and chainages in cm, instants in µs of TB_M counted from the
start of tick 0, speeds in mm/s; every division rounds toward minus infinity (R166).
-/
namespace Sys2Proof.Machine

/-- The distance covered at a speed in a time (R166). -/
def covered (v : Nat) (dt : Int) : Int := (v : Int) * dt / 10000000

/-- A quotient of R166; a division by 0 has no stated result (log entry 17). -/
def divOr (a b : Nat) : Nat := if b == 0 then Config.divZero a else a / b

/-! ### The zone (R162) -/

/-- The item of a link of the plan in force. -/
def linkItem (pl : Plan) (l : Nat) : List Byte := (look l pl.links).getD []

/-- The link is in the plan. -/
def hasLink (pl : Plan) (l : Nat) : Bool := (look l pl.links).isSome

/-- The node at a position, when it is at one (R162). -/
def nodeAt (pl : Plan) (link ch : Nat) : Option Nat :=
  if !hasLink pl link then none
  else if ch == 0 then some (linkFrom (linkItem pl link))
  else if ch == linkLen (linkItem pl link) then some (linkTo (linkItem pl link))
  else none

/-- A zone's link meets a node. -/
def Escort.meets (e : Escort) (pl : Plan) (node : Nat) : Bool :=
  e.links.any (fun l => hasLink pl l && (linkFrom (linkItem pl l) == node || linkTo (linkItem pl l) == node))

/-- A position stands in the zone (R162). -/
def Escort.stands (e : Escort) (pl : Plan) (link ch : Nat) : Bool :=
  e.links.contains link || (match nodeAt pl link ch with | some n => e.meets pl n | none => false)

/-! ### Classes and speeds (R167, R169) -/

/-- The profile of a class. -/
def Escort.profile (e : Escort) (cls : Nat) : Profile := (e.profiles[cls]?).getD ⟨0, 0, 0, 0, 0, 0, 0⟩

/-- The class of a measured speed (R167). -/
def Escort.classOf (e : Escort) (v : Nat) : Nat :=
  if v ≤ (e.profile 0).vmax then 0 else if v ≤ (e.profile 1).vmax then 1 else 2

/-- The class before a speed is measured (Table 3). -/
def classOfLink (c : Nat) : Nat := match c with | 0 => 2 | 1 => 1 | 2 => 0 | _ => 1

/-- The upper and the lower speed (R169). -/
def Escort.vhi (e : Escort) (t : Traveller) : Nat :=
  let m := (e.profile t.cls).vmax
  if t.measured then max t.vest (min m (t.vest + t.vest / 4)) else m
@[inherit_doc Escort.vhi] def Escort.vmin (e : Escort) (t : Traveller) : Nat := (e.profile t.cls).vmin

/-! ### Paths (R170, R171) -/

/-- The length of the path of a hypothesis from the anchor. -/
def pathLen (pl : Plan) (t : Traveller) (h : Hyp) : Int :=
  match h.path with
  | [] => 0
  | (l, f) :: rest =>
    (if f then (linkLen (linkItem pl l) : Int) - t.chainage else t.chainage) + (sumBy (fun x => linkLen (linkItem pl x.1)) rest : Nat)

/-- The node at the far end of a link travelled in a direction. -/
def farNode (pl : Plan) (l : Nat) (f : Bool) : Nat := if f then linkTo (linkItem pl l) else linkFrom (linkItem pl l)

/-- A place on a path: distance from the anchor, link, chainage on it, direction of travel there. -/
structure OnPath where
  d : Int
  link : Nat
  chainage : Nat
  dir : Bool
  deriving DecidableEq, Repr

/-- The places of a position on the links after the anchor link, `base` being the distance at which they begin. A position at a node lies
on a path that reaches the node; a path that goes on along the position's own link has it there. -/
def placesOn (pl : Plan) (link ch : Nat) (node : Option Nat) : Int → List (Nat × Bool) → List OnPath
  | _, [] => []
  | base, (l, f) :: rest =>
    let len : Int := linkLen (linkItem pl l)
    let here := if l == link then [⟨base + (if f then (ch : Int) else len - ch), link, ch, f⟩] else []
    let stop := if l != link && (rest.head?.map Prod.fst) != some link && node == some (farNode pl l f) then [⟨base + len, l, if f then len.toNat else 0, f⟩] else []
    here ++ stop ++ placesOn pl link ch node (base + len) rest

/-- The places of a position on the path of a hypothesis; negative distances lie behind the anchor, on the anchor link
only (R173). -/
def placesOf (pl : Plan) (t : Traveller) (h : Hyp) (link ch : Nat) : List OnPath :=
  let node := nodeAt pl link ch
  match h.path with
  | [] => []
  | (l, f) :: rest =>
    let len : Int := linkLen (linkItem pl l)
    let first : Int := if f then len - t.chainage else t.chainage
    let here := if l == link then [⟨if f then (ch : Int) - t.chainage else (t.chainage : Int) - ch, link, ch, f⟩] else []
    let stop := if l != link && (rest.head?.map Prod.fst) != some link && node == some (farNode pl l f) then [⟨first, l, if f then len.toNat else 0, f⟩] else []
    here ++ stop ++ placesOn pl link ch node first rest

/-- The continuations of a path at a node (R171), ascending link number. -/
def Escort.continuations (e : Escort) (pl : Plan) (cls link node : Nat) : List (Nat × Bool) :=
  pl.links.filterMap (fun x =>
    let b := x.2
    let veh := cls == 2
    if x.1 == link || !e.links.contains x.1 || (veh && (linkClass b == 1 || linkClass b == 2)) then none
    else if linkFrom b == node && !(veh && linkDirs b == 2) then some (x.1, true)
    else if linkTo b == node && !(veh && linkDirs b == 1) then some (x.1, false)
    else none)

/-- A hypothesis branches at the end of its path (R171). -/
def Escort.branch (e : Escort) (pl : Plan) (cls : Nat) (h : Hyp) : List Hyp :=
  match h.path.getLast? with
  | none => [{ h with ended := true }]
  | some (l, f) =>
    let node := farNode pl l f
    let ks := e.continuations pl cls l node
    if fld ((look node pl.nodes).getD []) 2 1 == 0 || ks.isEmpty then [{ h with ended := true }]
    else match e.turns.find? (fun t => t.link == l && t.node == node) with
      | some t => ks.map (fun k => { h with weight := h.weight * lookD k.1 0 t.shares / 1000, path := h.path ++ [k] })
      | none =>
        let q := h.weight / ks.length
        let rest := h.weight - ks.length * q
        ks.zipIdx.map (fun k => { h with weight := q + (if k.2 == 0 then rest else 0), path := h.path ++ [k.1] })

/-- The order of hypotheses: higher weight, then the lower link sequence. -/
def Hyp.before (a b : Hyp) : Bool := b.weight < a.weight || (a.weight == b.weight && a.path.map (·.1) < b.path.map (·.1))

/-- Insert a hypothesis in order. -/
def insertHyp (h : Hyp) : List Hyp → List Hyp
  | [] => [h]
  | x :: xs => if h.before x then h :: x :: xs else x :: insertHyp h xs

/-- One round of branching: every hypothesis whose path is reached within `d` branches at its end; the light ones and
those beyond 128 are removed. Answers the hypotheses with how many were created, removed, and removed under the limit. -/
def Escort.round (e : Escort) (pl : Plan) (t : Traveller) (d : Int) : List Hyp × Nat × Nat × Nat :=
  let grown := (t.hyps.map (fun h => if !h.ended && pathLen pl t h ≤ d then e.branch pl t.cls h else [h])).flatten
  let heavy := grown.filter (fun h => 32 ≤ h.weight)
  let sorted := heavy.foldl (fun acc h => insertHyp h acc) []
  (sorted.take 128, grown.length - t.hyps.length, grown.length - min heavy.length 128, heavy.length - 128)

/-- The running computation of one ESCORT channel. -/
structure EscCalc where
  h : Handle
  e : Escort
  c : Calc
  deriving DecidableEq, Repr

/-- The plan in force in a computation. -/
def EscCalc.pl (x : EscCalc) : Plan := x.c.ord.plan.plan

/-- Count an event in the computation. -/
def EscCalc.count (src n : Nat) (x : EscCalc) : EscCalc := if n == 0 then x else { x with c := x.c.count src n }

/-- A record at most once in any 240 ticks (R168, R171). -/
def rareDue (last : Option Nat) (tick : Nat) : Bool := match last with | some t => t + 240 ≤ tick | none => true

/-- A traveller's paths are extended to a distance, in at most `fuel` rounds (R171). -/
def EscCalc.extend (d : Int) : Nat → Traveller → EscCalc → Traveller × EscCalc
  | 0, t, x => (t, x)
  | fuel + 1, t, x =>
    if t.hyps.any (fun h => !h.ended && pathLen x.pl t h ≤ d) then
      let r := x.e.round x.pl t d
      let x := (x.count 0x0A8 r.2.1).count 0x0A9 r.2.2.1
      let x := if 0 < r.2.2.2 && rareDue x.e.rec904 x.c.tick then
          { x with c := x.c.derive 0x0904 0xFF (le 4 x.h.toNat ++ le 2 t.num), e := { x.e with rec904 := some x.c.tick } } else x
      EscCalc.extend d fuel { t with hyps := r.1 } x
    else (t, x)

/-- Put a traveller back, in ascending number. -/
def Escort.putTraveller (t : Traveller) (e : Escort) : Escort :=
  { e with travellers := insertBy (fun t => t.num) t (e.travellers.filter (fun u => u.num != t.num)) }

/-- Extend the paths of the traveller of a number (2,000 links cover the farthest distance). -/
def EscCalc.extendTraveller (num : Nat) (d : Int) (x : EscCalc) : EscCalc :=
  match x.e.travellers.find? (fun t => t.num == num) with
  | none => x
  | some t => let r := x.extend d 2000 t; { r.2 with e := r.2.e.putTraveller r.1 }

/-- The event source of an end cause (Table 8). -/
def endSource (cause : Nat) : Nat := match cause with | 1 => 0x0A4 | 2 => 0x0A5 | 3 => 0x0A6 | _ => 0x0A7

/-- A traveller ends with a cause (Table 5). -/
def EscCalc.endTraveller (t : Traveller) (cause : Nat) (x : EscCalc) : EscCalc :=
  { x with e := { x.e with travellers := x.e.travellers.filter (fun u => u.num != t.num), ended := x.e.ended ++ [(t, cause)], nEnded := x.e.nEnded + 1 } }.count (endSource cause) 1

/-! ### Events (R168 to R170) -/

/-- An event creates a traveller (R168). -/
def EscCalc.create (ev : Presence) (x : EscCalc) : EscCalc :=
  let free := (List.range x.e.allot).find? (fun n => !(x.e.travellers.any (fun t => t.num == n)))
  let oldest := x.e.travellers.foldl (fun best t => match best with
    | none => some t
    | some b => if t.t0 < b.t0 || (t.t0 == b.t0 && b.num < t.num) then some t else best) none
  let x := match free, oldest with
    | none, some t =>
      let x := x.endTraveller t 4
      if rareDue x.e.rec903 x.c.tick then
        { x with c := x.c.derive 0x0903 0xFF (le 4 x.h.toNat ++ le 2 t.num), e := { x.e with rec903 := some x.c.tick } }
      else x
    | _, _ => x
  match (List.range x.e.allot).find? (fun n => !(x.e.travellers.any (fun t => t.num == n))) with
  | none => x
  | some n =>
    let b := linkItem x.pl ev.link
    let cls := ev.cls.getD (if 0 < ev.speed then x.e.classOf ev.speed else classOfLink (linkClass b))
    let both : List Hyp := match ev.dir with
      | some f => [{ weight := 32768, path := [(ev.link, f)] }]
      | none =>
        if cls == 2 && linkDirs b == 1 then [{ weight := 32768, path := [(ev.link, true)] }]
        else if cls == 2 && linkDirs b == 2 then [{ weight := 32768, path := [(ev.link, false)] }]
        else [{ weight := 16384, path := [(ev.link, true)] }, { weight := 16384, path := [(ev.link, false)] }]
    let t : Traveller := { num := n, cls, link := ev.link, chainage := ev.chainage, t0 := ev.instant, known := ev.dir.isSome, vest := if 0 < ev.speed then min ev.speed 60000 else ev.est.getD (x.e.profile cls).vnom, measured := 0 < ev.speed, hint := ev.hint, created := x.c.tick, hyps := both }
    { x with e := { x.e.putTraveller t with nCreated := x.e.nCreated + 1 } }.count 0x0A1 1

/-- A way to associate an event: traveller, hypothesis, place, and how far the place is from the expected one. -/
structure Match_ where
  t : Traveller
  h : Hyp
  at_ : OnPath
  miss : Nat
  deriving DecidableEq, Repr

/-- The consistent ways of one traveller (R170). -/
def Escort.matches_ (e : Escort) (pl : Plan) (ev : Presence) (t : Traveller) : List Match_ :=
  let dt := ev.instant - t.t0
  let lo : Int := covered (e.vmin t) dt - e.slack
  let hi : Int := covered (e.vhi t) dt + e.slack
  (t.hyps.map (fun h => ((placesOf pl t h ev.link ev.chainage).filter (fun o =>
      (0 : Int) ≤ o.d && lo ≤ o.d && o.d ≤ hi && (match ev.dir with | some f => o.link == ev.link && o.dir == f | none => true))).map
    (fun o => { t, h, at_ := o, miss := (o.d - covered t.vest dt).natAbs }))).flatten

/-- The better of two ways: the smaller miss, the lower traveller number, the higher weight (R170). -/
def Match_.better (a b : Match_) : Bool :=
  a.miss < b.miss || (a.miss == b.miss && (a.t.num < b.t.num || (a.t.num == b.t.num && b.h.weight < a.h.weight)))

/-- The event moves the anchor (R170), and the speeds follow (R169). -/
def EscCalc.associate (ev : Presence) (m : Match_) (x : EscCalc) : EscCalc :=
  let dt := ev.instant - m.t.t0
  let vm : Option Nat := if 0 < ev.speed then some ev.speed
    else if 0 < m.at_.d && 250000 ≤ dt then some (m.at_.d.toNat * 10000000 / dt.toNat) else none
  let t := { m.t with link := m.at_.link, chainage := m.at_.chainage, t0 := ev.instant, known := true, late := false, hyps := [{ weight := 32768, path := [(m.at_.link, m.at_.dir)] }] }
  let t := match vm with
    | none => t
    | some v =>
      let est := min 60000 (if t.measured then (t.vest + 3 * v) / 4 else v)
      { t with vest := est, measured := true, cls := x.e.classOf est }
  { x with e := { x.e.putTraveller t with nAssociated := x.e.nAssociated + 1 } }.count 0x0A0 1

/-- A traveller with a later anchor absorbs the event (R170). -/
def Escort.absorbs (e : Escort) (ev : Presence) (t : Traveller) : Bool :=
  ev.instant < t.t0 && ev.link == t.link && (ev.chainage == t.chainage ||
    t.hyps.any (fun h => match h.path with
      | (_, f) :: _ =>
        let behind : Int := if f then (t.chainage : Int) - ev.chainage else (ev.chainage : Int) - t.chainage
        0 ≤ behind && behind ≤ covered (e.vhi t) (t.t0 - ev.instant) + e.slack
      | [] => false))

/-- An event is associated, absorbed, or creates a traveller (R168 to R170). -/
def EscCalc.event (ev : Presence) (x : EscCalc) : EscCalc :=
  let early := x.e.travellers.filter (fun t => t.t0 ≤ ev.instant)
  let x := early.foldl (fun x t => x.extendTraveller t.num (covered (x.e.vhi t) (ev.instant - t.t0) + x.e.slack)) x
  let ms := ((x.e.travellers.filter (fun t => t.t0 ≤ ev.instant)).map (x.e.matches_ x.pl ev)).flatten
  match ms.foldl (fun best m => match best with | none => some m | some b => if m.better b then some m else best) none with
  | some m => x.associate ev m
  | none => if x.e.travellers.any (x.e.absorbs ev) then x.count 0x0A2 1 else x.create ev

/-- The instant lies in the window of R165. -/
def Escort.inWindow (e : Escort) (tick : Nat) (t : Int) : Bool :=
  (tick : Int) * 250000 - (e.horizon : Int) * 1000 ≤ t && t ≤ ((tick : Int) + 1) * 250000

/-- A handover post read as an event (R178). -/
def readHandover (pl : Plan) (b : List Byte) : Presence :=
  let node := fld b 4 2
  let link := fld b 6 2
  let fromStart := linkFrom (linkItem pl link) == node
  let measured := bit (fld b 3 1) 0
  { link, chainage := if fromStart then 0 else linkLen (linkItem pl link), instant := fldS b 8 8, dir := some fromStart
    speed := if measured then fld b 16 2 else 0, cls := some (fld b 2 1), est := some (fld b 16 2) }

/-- Steps 2 and 3 of R165. -/
def EscCalc.events (x : EscCalc) : EscCalc :=
  let posts := x.c.inbox.filter (fun p => p.dst == x.h && p.kind == 0x0502)
  let x := posts.foldl (fun x p => (x.count 0x0AB 1).event (readHandover x.pl p.payload)) x
  let mine := x.c.presence.filter (fun p => x.e.stands x.pl p.2.2.link p.2.2.chainage)
  let good := mine.filter (fun p => x.e.inWindow x.c.tick p.2.2.instant)
  let lost := mine.length - good.length
  let x := { x with e := { x.e with nDiscarded := x.e.nDiscarded + lost } }.count 0x0A3 lost
  let all := sortBy (fun p => p.1) (good.map (fun p => (p.1, p.2.2)) ++ x.e.injected)
  let all := sortBy (fun p => p.2.instant.toNat) all
  let x := { x with e := { x.e with injected := [] } }
  all.foldl (fun x p => x.event p.2) x

/-! ### The light band (R172 to R176) -/

/-- The effect instant of a tick (R173). -/
def effectInstant (tick : Nat) : Int := ((tick : Int) + 4) * 250000

/-- The band edges of a traveller (R173): near and far. -/
def Escort.band (e : Escort) (tick : Nat) (t : Traveller) : Int × Int :=
  let p := e.profile t.cls
  let el := min (effectInstant tick - t.t0) ((e.horizon : Int) * 1000)
  (covered (e.vmin t) el - p.trail, max (p.lead : Int) (covered (e.vhi t) (el + 1000 * p.rise)))

/-- The hypotheses that light their band (R174). -/
def Escort.lit (e : Escort) (t : Traveller) : List Hyp :=
  let l := t.hyps.filter (fun h => e.threshold ≤ h.weight)
  if l.isEmpty then t.hyps.take 1 else l

/-- The chainage factor of a place (R175). -/
def Escort.factor (e : Escort) (pl : Plan) (link ch : Nat) : Int :=
  match look link e.tables with
  | none => 1000
  | some f =>
    let len := linkLen (linkItem pl link)
    let u := 63 * ch
    let i := u / len
    let at_ := fun (i : Nat) => (((f[i]?).getD 0 : Nat) : Int)
    if 63 ≤ i then at_ 63 else at_ i + (at_ (i + 1) - at_ i) * ((u - i * len : Nat) : Int) / (len : Int)

/-- The lanterns a traveller lights (R174, R176): lantern and demand. -/
def Escort.lights (e : Escort) (pl : Plan) (tick : Nat) (zone : List (Nat × List Byte)) (t : Traveller) : List (Nat × Nat) :=
  let b := e.band tick t
  let lit := e.lit t
  zone.filterMap (fun x =>
    let link := plLink x.2
    let ch := plChainage x.2
    if lit.any (fun h => (placesOf pl t h link ch).any (fun o => b.1 ≤ o.d && o.d ≤ b.2)) then
      some (x.1, (((e.profile t.cls).level : Int) * e.factor pl link ch / 1000).toNat)
    else none)

/-- The demand of every lantern of the zone (R176), the non-zero ones, ascending. -/
def Escort.demands (e : Escort) (pl : Plan) (tick : Nat) (zone : List (Nat × List Byte)) : List (Nat × Nat) :=
  let bands := (e.travellers.map (e.lights pl tick zone)).flatten
  zone.filterMap (fun x =>
    let occ := e.occupied.filter (fun o => o.link == plLink x.2 && tick < o.expiry)
    let d := (bands.filter (fun y => y.1 == x.1)).foldl (fun a y => max a y.2) 0
    let d := occ.foldl (fun a o => max a (((e.profile o.cls).level : Int) * e.factor pl (plLink x.2) (plChainage x.2) / 1000).toNat) d
    if 0 < d then some (x.1, min d 1000) else none)

/-- The posts of a demand to one group: at most 59 items each (Table 4). -/
def demandPosts : Nat → List (Nat × Nat) → List (List Byte)
  | 0, _ => []
  | _, [] => []
  | fuel + 1, x :: xs =>
    let part := (x :: xs).take 59
    (le 1 part.length ++ le 1 0 ++ (part.map (fun y => le 2 y.1 ++ le 2 y.2)).flatten) :: demandPosts fuel ((x :: xs).drop 59)

/-- The lanterns standing in the zone. -/
def Escort.zoneLanterns (e : Escort) (pl : Plan) : List (Nat × List Byte) :=
  pl.placements.filter (fun x => x.1 ≤ 8191 && e.stands pl (plLink x.2) (plChainage x.2))

/-- The posts of a RUNNING channel (R176). -/
def EscCalc.demand (x : EscCalc) : EscCalc :=
  let ds := x.e.demands x.pl x.c.tick (x.e.zoneLanterns x.pl)
  let groups := (ds.filterMap (fun d => look d.1 x.c.ord.members)).eraseDups
  let posts := (groups.map (fun g => (demandPosts 8192 (ds.filter (fun d => look d.1 x.c.ord.members == some g))).map (fun b => (g, b)))).flatten
  ({ x with e := { x.e with lastPosts := posts, demanded := ds.length } }.count 0x0AD posts.length).count 0x0AE ds.length

/-- Step 4 of R165: every traveller's paths reach its far edge; coasting travellers are counted. -/
def EscCalc.predict (x : EscCalc) : EscCalc :=
  let x := x.e.travellers.foldl (fun x t => x.extendTraveller t.num (x.e.band x.c.tick t).2) x
  let late := fun t : Traveller =>
    let el := effectInstant x.c.tick - t.t0
    (x.e.horizon : Int) * 1000 < el && el ≤ ((x.e.horizon + x.e.cycle : Nat) : Int) * 1000
  x.count 0x0AF (x.e.travellers.filter late).length

/-- The nodes of a path with their distances from the anchor. -/
def pathNodes (pl : Plan) : Int → List (Nat × Bool) → List (Nat × Int)
  | _, [] => []
  | base, (l, f) :: rest => (farNode pl l f, base) :: pathNodes pl (match rest with | (m, _) :: _ => base + linkLen (linkItem pl m) | [] => base) rest

/-- Handovers (R178). -/
def EscCalc.handover (x : EscCalc) : EscCalc :=
  if !bit x.e.flags 1 then x
  else
    let others := x.c.ord.channels.filterMap (fun ch => match ch.body with
      | .escort o => if ch.handle == x.h then none else some (ch.handle, o.links) | _ => none)
    x.e.travellers.foldl (fun x t =>
      let far := (x.e.band x.c.tick t).2
      let nodes := (t.hyps.map (fun h => match h.path with
        | (l, f) :: _ => pathNodes x.pl (if f then (linkLen (linkItem x.pl l) : Int) - t.chainage else t.chainage) h.path
        | [] => [])).flatten.filter (fun n => n.2 ≤ far)
      nodes.foldl (fun x n =>
        let t := (x.e.travellers.find? (fun u => u.num == t.num)).getD t
        if t.nodes.contains n.1 then x
        else
          let foreign := (x.pl.links.filter (fun k => (linkFrom k.2 == n.1 || linkTo k.2 == n.1) && !x.e.links.contains k.1)).map (·.1)
          let targets := others.filterMap (fun o => (foreign.find? (fun k => o.2.contains k)).map (fun k => (o.1, k)))
          if targets.isEmpty then x
          else
            let body := fun k => le 2 t.num ++ le 1 t.cls ++ le 1 (b2n t.measured) ++ le 2 n.1 ++ le 2 k ++
              leS 8 (t.t0 + divOr (n.2.toNat * 10000000) t.vest) ++ le 2 t.vest ++ le 2 (x.e.vhi t) ++ zeros 12
            let tainted := ((chanOf x.c.ord x.h).map (·.tainted)).getD false
            let c := targets.foldl (fun c o => c.post x.h o.1 0x0502 tainted (body o.2)) x.c
            { x with c := c, e := x.e.putTraveller { t with nodes := t.nodes ++ [n.1] } }.count 0x0AA targets.length) x) x

/-- Step 5 of R165: the ends of R172. -/
def EscCalc.finish (x : EscCalc) : EscCalc :=
  x.e.travellers.foldl (fun x t =>
    let near := (x.e.band x.c.tick t).1
    if t.late || ((x.e.horizon + x.e.cycle : Nat) : Int) * 1000 < effectInstant x.c.tick - t.t0 then x.endTraveller t 1
    else if t.hyps.all (fun h => h.ended && pathLen x.pl t h < near) then x.endTraveller t 2
    else if t.gone || !hasLink x.pl t.link then x.endTraveller t 3
    else x) x

/-- The paths of a traveller are cut before links that are gone (R179); how many were cut. -/
def cutPaths (ok : Nat → Bool) (t : Traveller) : Traveller × Nat :=
  let cut := fun h : Hyp => h.path.any (fun p => !ok p.1)
  ({ t with hyps := t.hyps.map (fun h => if cut h then { h with path := (h.path.take 1) ++ (h.path.drop 1).takeWhile (fun p => ok p.1), ended := true } else h) },
    (t.hyps.filter cut).length)

/-- What a plan switch does to a zone (R179). -/
def EscCalc.planSwitched (x : EscCalc) : EscCalc :=
  let absent := (x.e.links.filter (fun l => !hasLink x.pl l)).length
  let cuts : List (Traveller × Nat) := x.e.travellers.map (cutPaths (hasLink x.pl))
  let x := { x with e := { x.e with travellers := cuts.map Prod.fst } }.count 0x0B0 (sumBy Prod.snd cuts)
  if absent == 0 then x else { x with c := x.c.derive 0x0905 0xFF (le 4 x.h.toNat ++ le 2 absent) }

/-- A traveller's item (R181 Table 5). -/
def Escort.trackItem (e : Escort) (pl : Plan) (slot tick : Nat) (zone : List (Nat × List Byte)) (t : Traveller) (cause : Nat) : List Byte :=
  let top := (t.hyps.head?).getD { weight := 0, path := [(t.link, true)] }
  let fwd := (top.path.head?.map (·.2)).getD true
  let el := effectInstant tick - t.t0
  let coasting := (e.horizon : Int) * 1000 < el && el ≤ ((e.horizon + e.cycle : Nat) : Int) * 1000
  let b := e.band tick t
  le 2 slot ++ le 2 t.num ++ le 1 t.cls ++
    le 1 (b2n t.measured + 2 * b2n t.known + 4 * b2n t.hint + 8 * b2n coasting + 16 * b2n (t.created == tick) + 32 * b2n (cause != 0)) ++
    le 1 t.hyps.length ++ le 1 cause ++ le 2 t.link ++ le 1 (b2n !fwd) ++ zeros 1 ++ le 4 t.chainage ++ leS 8 t.t0 ++ le 2 t.vest ++ le 2 (e.vhi t) ++
    le 2 top.weight ++ le 2 ((e.lights pl tick zone t).filter (fun d => 0 < d.2)).length ++ leS 4 b.1 ++ leS 4 b.2 ++ le 8 t.created

/-- Change the escort of a channel. -/
def Calc.modEscort (h : Handle) (f : Escort → Escort) (c : Calc) : Calc :=
  c.modChan h (fun ch => match ch.body with | .escort x => { ch with body := .escort (f x) } | _ => ch)

/-- The escort of a handle. -/
def escortOf (o : Ordered) (h : Handle) : Option Escort :=
  match chanOf o h with | some { body := .escort e, .. } => some e | _ => none

/-- The computation of an ESCORT channel (R165 to R181): it tracks in every state in which it computes; it forms demand
while RUNNING and repeats its last posts while HELD or FAULTED (R180). -/
def Calc.escort (ch : Channel) (c : Calc) : Calc :=
  let computes := ch.state = .running || ch.state = .held || (ch.state = .faulted && (ch.before = .running || ch.before = .held))
  match escortOf c.ord ch.handle with
  | none => c
  | some e =>
    if !computes then c.modEscort ch.handle (fun e => { e with injected := [], ended := [] })
    else
      let x : EscCalc := { h := ch.handle, e := { e with occupied := e.occupied.filter (fun o => c.tick < o.expiry) }, c }
      let x := if c.planChanged then x.planSwitched else x
      let x := x.events.predict
      let x := if ch.state = .running then x.demand else x
      let x := x.handover
      let zone := x.e.zoneLanterns x.pl
      let before := x.e.travellers
      let x := x.finish
      let live := before.map (fun t => (t.num, x.e.trackItem x.pl (hSlot ch.handle) x.c.tick zone t (((x.e.ended.find? (fun y => y.1 == t)).map (·.2)).getD 0)))
      let dead := (x.e.ended.filter (fun y => !before.contains y.1)).map (fun y => (y.1.num, x.e.trackItem x.pl (hSlot ch.handle) x.c.tick zone y.1 y.2))
      let items := sortBy (·.1) (dead ++ live)
      let repeated := b2n (ch.state ≠ .running)
      let c := x.e.lastPosts.foldl (fun c p => c.post ch.handle p.1 0x0501 ch.tainted (p.2.take 1 ++ le 1 repeated ++ p.2.drop 2)) x.c
      let c := c.modEscort ch.handle (fun _ => { x.e with ended := [], tracks := items })
      items.foldl (fun c i => c.item { section_ := 4, key := hSlot ch.handle, key2 := i.1, tainted := ch.tainted, bytes := i.2 }) c

/-! ### Commands -/

/-- The allotments of the other live ESCORT channels (R163). -/
def otherAllotments (o : Ordered) (h : Handle) : Nat :=
  sumBy (fun ch => match ch.body with | .escort e => if ch.handle == h then 0 else e.allot | _ => 0) o.channels

/-- ESCORT_CONFIG (R163, Table 6). -/
def ordEscortConfig : Handler := fun m p c =>
  let b := p.payload
  let hz := fld b 0 2
  let cy := fld b 2 2
  let al := fld b 4 2
  let n := fld b 12 2
  let links := (List.range n).map (fun i => fld b (16 + 2 * i) 2)
  if hz < 3000 || 12000 < hz || cy < 250 || 4000 < cy || al == 0 || 1024 < al || fld b 6 2 < 100 || 5000 < fld b 6 2 ||
      fld b 8 2 < 32 || 32768 < fld b 8 2 || 3 < fld b 10 1 || n == 0 || 1024 < n || links.any (fun l => 4095 < l) ||
      links.eraseDups.length != links.length then (c, { status := .badParam })
  else if hz < cy + 1000 then (c, { status := .range })
  else if 1024 < otherAllotments c.ord p.handle + al then (c, { status := .noResource })
  else
    match escortOf c.ord p.handle with
    | none => (c, { status := .staleHandle })
    | some e =>
      let cuts := e.travellers.map (cutPaths (fun l => links.contains l || !e.links.contains l))
      let ts := cuts.map (fun t => if e.links.contains t.1.link && !links.contains t.1.link then { t.1 with gone := true } else t.1)
      let e := { e with horizon := hz, cycle := cy, allot := al, slack := fld b 6 2, threshold := fld b 8 2, flags := fld b 10 1, links := links, travellers := ts }
      let x : EscCalc := { h := p.handle, e, c }
      let x := x.count 0x0B0 (sumBy Prod.snd cuts)
      let x := (ts.filter (fun t => al ≤ t.num)).foldl (fun x t => x.endTraveller t 5) x
      let c := (x.c.modEscort p.handle (fun _ => x.e)).complete p.handle
      (c.derive 0x0901 m (le 4 p.handle.toNat ++ le 2 n ++ le 2 al ++ le 2 hz ++ le 2 cy), {})

/-- ESCORT_PROFILE. -/
def ordEscortProfile : Handler := fun m p c =>
  let b := p.payload
  let cls := fld b 0 1
  let f : Profile := ⟨fld b 2 2, fld b 4 4, fld b 8 4, fld b 12 2, fld b 14 2, fld b 16 2, fld b 18 2⟩
  match escortOf c.ord p.handle with
  | none => (c, { status := .staleHandle })
  | some e =>
    let ps := setAt e.profiles cls f
    let mx := fun (i : Nat) => ((ps[i]?).map (fun (q : Profile) => q.vmax)).getD 0
    if 2 < cls || 1000 < f.level || 50000 < f.lead || 20000 < f.trail || 10000 < f.rise || f.vnom < f.vmin || f.vmax < f.vnom || 60000 < f.vmax then (c, { status := .badParam })
    else if mx 1 ≤ mx 0 then (c, { status := .range })
    else ((c.modEscort p.handle (fun e => { e with profiles := ps })).derive 0x0902 m (le 4 p.handle.toNat ++ le 1 cls ++ le 2 f.level ++ le 4 f.lead), {})

/-- CHAINAGE_SET (R175). -/
def ordChainageSet : Handler := fun m p c =>
  let b := p.payload
  let link := fld b 0 2
  let remove := bit (fld b 2 1) 0
  let fs := (List.range 64).map (fun i => fld b (4 + 2 * i) 2)
  match escortOf c.ord p.handle with
  | none => (c, { status := .staleHandle })
  | some e =>
    if 4095 < link || 1 < fld b 2 1 || (!remove && fs.any (fun f => 2000 < f)) then (c, { status := .badParam })
    else if !e.links.contains link then (c, { status := .range })
    else if remove && (look link e.tables).isNone then (c, { status := .wrongState })
    else
      let c := c.modEscort p.handle (fun e => { e with tables := if remove then del link e.tables else put link fs e.tables })
      (c.derive 0x0906 m (le 4 p.handle.toNat ++ le 2 link), {})

/-- TRAFFIC_HINT (R177); `entry` is its place in the waybill. -/
def ordTrafficHint (entry : Nat) : Handler := fun _ p c =>
  let b := p.payload
  let k := fld b 8 1
  let shares := (List.range k).map (fun i => (fld b (12 + 4 * i) 2, fld b (14 + 4 * i) 2))
  let link := fld b 4 2
  let done := fun (f : Escort → Escort) => ((c.modEscort p.handle f).count 0x0AC 1, ({} : Ans))
  match escortOf c.ord p.handle with
  | none => (c, { status := .staleHandle })
  | some e =>
    match fld b 0 1 with
    | 1 =>
      if k == 0 || 16 < k || 4095 < link || 4095 < fld b 6 2 || sumBy (·.2) shares != 1000 then (c, { status := .badParam })
      else if !bit e.flags 0 then (c, { status := .notPermitted })
      else if !e.links.contains link || shares.any (fun s => !e.links.contains s.1) then (c, { status := .range })
      else done (fun e => { e with turns := e.turns.filter (fun t => !(t.link == link && t.node == fld b 6 2)) ++ [⟨link, fld b 6 2, shares⟩] })
    | 2 =>
      let t := fldS b 16 8
      let len := linkLen (linkItem c.ord.plan.plan link)
      if 4095 < link || 1 < fld b 6 1 || 2 < fld b 7 1 || fld b 12 2 == 0 || 60000 < fld b 12 2 || (hasLink c.ord.plan.plan link && len < fld b 8 4) then (c, { status := .badParam })
      else if !bit e.flags 0 then (c, { status := .notPermitted })
      else if !e.links.contains link || !hasLink c.ord.plan.plan link || !e.inWindow c.tick t then (c, { status := .range })
      else done (fun e => { e with injected := e.injected ++ [(entry, { link, chainage := fld b 8 4, instant := t, dir := some (fld b 6 1 == 0), speed := fld b 12 2, cls := some (fld b 7 1), hint := true })] })
    | 3 =>
      let cls := fld b 6 1
      let dur := fld b 8 2
      if 4095 < link || 2 < cls || 3600 < dur then (c, { status := .badParam })
      else if !bit e.flags 0 then (c, { status := .notPermitted })
      else if !e.links.contains link then (c, { status := .range })
      else done (fun e => { e with occupied := e.occupied.filter (fun o => !(o.link == link && o.cls == cls)) ++ (if dur == 0 then [] else [⟨link, cls, c.tick + 4 * dur⟩]) })
    | _ => (c, { status := .badParam })

/-- ESCORT_STATUS, as of the latest released tick. -/
def cmdEscortStatus (p : Packet) (s : State) : State × Ans :=
  match chanOf s.rel p.handle with
  | some ch =>
    let e := (escortOf s.rel p.handle).getD {}
    (s, { status := if ch.tainted then .tainted else .ok
          payload := le 8 s.relTick ++ le 4 p.handle.toNat ++ le 1 (stateCode ch.state) ++ le 1 e.flags ++ le 2 e.travellers.length ++
            le 4 (sumBy (fun t => t.hyps.length) e.travellers) ++ le 2 e.demanded ++
            le 2 ((e.occupied.filter (fun o => s.relTick < o.expiry)).map (·.link)).eraseDups.length ++
            le 2 e.links.length ++ le 2 (e.links.filter (fun l => !hasLink s.rel.plan.plan l)).length ++
            le 4 e.nAssociated ++ le 4 e.nCreated ++ le 4 e.nEnded ++ le 4 e.nDiscarded ++ zeros 4 })
  | none => (s, { payload := le 8 s.relTick ++ le 4 p.handle.toNat ++ zeros 36 })

/-- TRACK_LIST (R181), as of the latest released tick. -/
def cmdTrackList (p : Packet) (s : State) : State × Ans :=
  let first := fld p.payload 0 2
  let n := fld p.payload 2 1
  if n == 0 || 32 < n || 1023 < first then (s, { status := .badParam })
  else
    let e := (escortOf s.rel p.handle).getD {}
    let tainted := ((chanOf s.rel p.handle).map (·.tainted)).getD false
    let all := e.tracks.filter (fun t => first ≤ t.1)
    let got := all.take n
    let next := (((all.drop n).head?).map (·.1)).getD 0xFFFF
    (s, { status := if tainted then .tainted else .ok
          payload := le 8 s.relTick ++ le 1 got.length ++ zeros 1 ++ le 2 next ++ zeros 4 ++ (got.map (·.2)).flatten })

/-- TRAVELLER_TIMEOUT (R172): a traveller whose effect instant exceeds anchor plus H plus C is late, and ends in step 5 of the computation
unless an event of the tick still moves its anchor (log entry 18). -/
def execTravellerTimeout (zone : Handle) (traveller : Nat) (s : State) : Host.Outcome State Fault Refusal :=
  match escortOf s.ord zone with
  | none => .next s
  | some e => match e.travellers.find? (fun t => t.num == traveller) with
    | none => .next s
    | some t =>
      if ((e.horizon + e.cycle : Nat) : Int) * 1000 < effectInstant s.clerk.tick - t.t0 then
        .next (openCalc (fun c => c.modEscort zone (fun e => { e with travellers := e.travellers.map (fun u => if u.num == traveller then { u with late := true } else u) })) s)
      else .next s

/-- OCCUPY_EXPIRY (R177): the hints on a link whose duration has passed end. -/
def execOccupyExpiry (zone : Handle) (link : Nat) (s : State) : Host.Outcome State Fault Refusal :=
  .next (openCalc (fun c => c.modEscort zone (fun e => { e with occupied := e.occupied.filter (fun o => !(o.link == link && o.expiry ≤ c.tick)) })) s)

/-- ESCORT_CONFIG: ordered; `ordEscortConfig` is its effect. -/
def execEscortConfig (p : Packet) (s : State) : Host.Outcome State Fault Refusal := .next (submitW 0x0501 p s)
/-- ESCORT_PROFILE: ordered; `ordEscortProfile` is its effect. -/
def execEscortProfile (p : Packet) (s : State) : Host.Outcome State Fault Refusal := .next (submitW 0x0502 p s)
/-- CHAINAGE_SET (R175): ordered; `ordChainageSet` is its effect. -/
def execChainageSet (p : Packet) (s : State) : Host.Outcome State Fault Refusal := .next (submitW 0x0503 p s)
/-- TRAFFIC_HINT (R177): ordered; `ordTrafficHint` is its effect. -/
def execTrafficHint (p : Packet) (s : State) : Host.Outcome State Fault Refusal := .next (submitW 0x0504 p s)
@[inherit_doc cmdEscortStatus] def execEscortStatus (p : Packet) (s : State) : Host.Outcome State Fault Refusal := .next (submit 0x0505 cmdEscortStatus p s)
@[inherit_doc cmdTrackList] def execTrackList (p : Packet) (s : State) : Host.Outcome State Fault Refusal := .next (submit 0x0506 cmdTrackList p s)

end Sys2Proof.Machine
end

