-- ==== Sys2Proof/Machine/Loop.lean ====
section
/-!
DEFINITION. Machine/Loop.lean: the loop engine (ch. 9): the laws, contention sets, coefficient writes, hold and release,
the oscillation detector, and traces.
-/
namespace Sys2Proof.Machine

/-! ### Signals and arithmetic (R186) -/

/-- Limits of 32 and 64 bits (R186). -/
def sat32 (x : Int) : Int := clampI (-2147483648) 2147483647 x
@[inherit_doc sat32] def sat64 (x : Int) : Int := clampI (-9223372036854775808) 9223372036854775807 x

/-- Arithmetic shift right, rounding toward minus infinity (R186). -/
def asr (x : Int) (n : Nat) : Int := x.fdiv (2 ^ n)

/-- A coefficient by its identifier (Table 4). -/
def LoopSlot.k (x : LoopSlot) (id : Nat) : Int := (x.coef[id - 1]?).getD 0

/-- One write applied (R194). -/
def LoopSlot.apply (x : LoopSlot) : LoopWrite → LoopSlot
  | .coef id v => { x with coef := setAt x.coef (id - 1) v }
  | .table t => { x with table := t }

/-- The effective set-point moves toward the commanded one (R189). -/
def slew (eff r up dn : Int) : Int :=
  if eff < r then (if up = 0 then r else min (eff + up) r)
  else if r < eff then (if dn = 0 then r else max (eff - dn) r)
  else eff

/-- The factor of native compensation at a position (R190). -/
def nativeFactor (x : LoopSlot) (pos : Int) : Nat :=
  let lo := x.k 0x0B
  let hi := x.k 0x0C
  let p := clampI 0 65536 (((pos - lo) * 65536).fdiv (hi - lo))
  let v := (63 * p).toNat
  let i := v / 65536
  let f := fun i => (((x.table[i]?).getD 0 : Nat) : Int)
  if 63 ≤ i then (f 63).toNat else (f i + asr ((f (i + 1) - f i) * ((v - i * 65536 : Nat) : Int)) 16).toNat

/-- The factor of LX-2 compensation, and whether it was limited (R191). -/
def lxFactor (vref vbus : Int) : Nat × Bool :=
  if 4 * vbus ≤ vref then (65535, true)
  else
    let c := (vref * 16384).fdiv vbus
    if c < 1 then (1, true) else if 65535 < c then (65535, true) else (c.toNat, false)

/-! ### One sample (R188 to R200) -/

/-- What a sample reads from outside its channel: external sources by selector (none: no on-time since the last sample,
R214), the owner's set-point, the bus voltages. -/
structure LoopEnv where
  src : Nat → Option Int
  owner : LoopSlot → Int
  vbus : Nat → Int

/-- The signal of a selector (R187): a member's output, a set's last output, or an external source. -/
def loopSignal (env : LoopEnv) (ms : List LoopSlot) (sets : List LoopSet) (sel : Nat) : Option Int :=
  if sel == 0 then some 0
  else if 0x80 ≤ sel && sel ≤ 0x8F then some (((ms.find? (fun m => m.member == sel - 0x80)).map (·.u)).getD 0)
  else if 0xC0 ≤ sel && sel ≤ 0xC7 then some (((sets.find? (fun m => m.set == sel - 0xC0)).map (·.out)).getD 0)
  else env.src sel

/-- The slot takes one queued write (R194). -/
def LoopSlot.takeWrite (x : LoopSlot) : LoopSlot :=
  match x.queue with
  | [] => x
  | w :: ws => { x.apply w with queue := ws }

/-- A bumpless release sets I from the held output (R197). -/
def LoopSlot.bumpless (x : LoopSlot) : LoopSlot :=
  let q := (if x.c == 0 then (Config.divZero x.u.toNat : Int) else -((-(x.u * 16384)).fdiv x.c)) - x.p - x.d
  let ki := x.k 2
  let i := if 0 < ki then -((-(q * 16777216)).fdiv ki) else if ki < 0 then (q * 16777216).fdiv ki else x.i
  { x with i := sat64 i }

/-- The raw output and the saturation flags of the law (R188), from e, P, I, D and c of the sample. -/
def LoopSlot.output (x : LoopSlot) : LoopSlot :=
  let t := asr (x.k 2 * x.i) 24
  let raw := match x.law with
    | 1 | 2 => asr (sat32 (x.p + t + x.d) * x.c) 14
    | 3 => x.rEff
    | _ => x.y
  { x with t, uRaw := raw, satHi := decide (x.k 6 < raw), satLo := decide (raw < x.k 5) }

/-- The output within its limits. -/
def LoopSlot.clamped (x : LoopSlot) : Int := min (max x.uRaw (x.k 5)) (x.k 6)

/-- A release takes effect (R197): the slot runs unheld, its OSC flag clear. -/
def LoopSlot.freed (x : LoopSlot) : LoopSlot :=
  { x with held := false, chHeld := false, osc := false, release := none, holdCount := 0 }

/-- A slot is held (R196, R198). -/
def LoopSlot.isHeld (x : LoopSlot) : Bool := x.held || x.chHeld

/-- The first part of a sample: write, signals, law (R188), release (R197) and hold (R196). -/
def LoopSlot.compute (env : LoopEnv) (ms : List LoopSlot) (sets : List LoopSet) (x : LoopSlot) : LoopSlot :=
  let x := x.takeWrite
  let r := match x.sp with
    | 0 => x.k 9
    | 1 => env.owner x
    | s => (loopSignal env ms sets s).getD 0
  let eff := slew x.rEff r (x.k 7) (x.k 8)
  let y := (loopSignal env ms sets x.src).getD eff
  let before := x.yPrev.getD y
  let pos := if x.pos == 0 then x.u else if x.pos == 1 then y else (loopSignal env ms sets x.pos).getD 0
  let lx := lxFactor (x.k 0x0A) (env.vbus (x.bus - 0x28))
  let c := match x.comp with
    | 1 => nativeFactor x pos
    | 2 => lx.1
    | _ => 16384
  let e := sat32 (eff - y)
  let d := if x.law == 2 then
      let raw := asr (x.k 3 * sat32 (before - y)) 24
      x.d + asr ((raw - x.d) * x.k 4) 16
    else 0
  let x := { x with limited := x.comp == 2 && lx.2, r, rEff := eff, y, c, e, d, p := asr (x.k 1 * e) 24 }
  match x.release with
  | some (mode, _) =>
    if x.queue.isEmpty then
      let x := if mode == 1 && x.law ≤ 2 then x.bumpless else x
      let x := (x.freed).output
      { x with u := x.clamped }
    else { x.output with holdCount := satAdd 32 x.holdCount 1 }
  | none =>
    let x := x.output
    if x.isHeld then { x with holdCount := satAdd 32 x.holdCount 1 } else { x with u := x.clamped, holdCount := 0 }

/-- The members of an owner computed in ascending member number, each reading those before it in this sample. -/
def computeAll (env : LoopEnv) (sets : List LoopSet) : List LoopSlot → List LoopSlot → List LoopSlot
  | done, [] => done
  | done, x :: rest => computeAll env sets (done ++ [x.compute env (done ++ x :: rest) sets]) rest

/-- A contention set's output: the lowest u of its members (R192). -/
def LoopSet.resolve (ms : List LoopSlot) (s : LoopSet) : LoopSet :=
  let us := (ms.filter (fun m => s.members.contains m.member && m.law != 0)).map (·.u)
  match us with
  | [] => s
  | u :: rest => { s with out := rest.foldl min u }

/-- Whether a member has lost its set for this sample (R192, R196). -/
def lostSet (sets : List LoopSet) (x : LoopSlot) : Bool :=
  sets.any (fun s => s.members.contains x.member && decide (s.out < (if x.isHeld then x.clamped else x.u)))

/-- Integration stops in the direction of saturation (R193). -/
def LoopSlot.stopped (x : LoopSlot) : Bool :=
  let dir := (x.k 2).sign * x.e.sign
  ((x.satHi || x.lost) && decide (0 < dir)) || (x.satLo && decide (dir < 0))

/-- The oscillation detector's turn (R200); whether it fires. -/
def LoopSlot.detect (x : LoopSlot) : LoopSlot × Bool :=
  if x.oscN == 0 || decide ((x.e.natAbs : Int) < x.oscA) then (x, false)
  else
    let sg := x.e.sign
    let at_ := if x.oscSign != 0 && sg != x.oscSign then (x.samples :: x.oscAt).take 32 else x.oscAt
    let x := { x with oscAt := at_, oscSign := sg }
    match at_[x.oscN - 1]? with
    | some j => if x.samples - j < x.oscW then
        ({ x with oscAt := [], oscSign := 0, osc := true, held := x.held || x.oscAction == 1 }, true) else (x, false)
    | none => (x, false)

/-- The last part of a sample: LOST, the integrator, y_prev and the detector. -/
def LoopSlot.close (sets : List LoopSet) (x : LoopSlot) : LoopSlot × Bool :=
  let x := { x with lost := lostSet sets x }
  let x := if x.law ≤ 2 && !x.isHeld && !x.stopped then { x with i := sat64 (x.i + x.e) } else x
  ({ x with yPrev := some x.y, samples := x.samples + 1 }).detect

/-- One sample of the configured members of one owner: the slots and sets after it, and the slots whose detector fired. -/
def sampleOwner (env : LoopEnv) (ms : List LoopSlot) (sets : List LoopSet) : List LoopSlot × List LoopSet × List LoopSlot :=
  let ms := sortBy (fun m => m.member) (ms.filter (fun m => m.law != 0))
  let ms := computeAll env sets [] ms
  let sets := sets.map (LoopSet.resolve ms)
  let out := ms.map (LoopSlot.close sets)
  (out.map (·.1), sets, (out.filter (·.2)).map (·.1))

/-- The events of a sample, as event sources and numbers (Table 12). -/
def sampleCounts (before after : List LoopSlot) : List (Nat × Nat) :=
  let n := fun f => (after.filter f).length
  let taken := (before.filter (fun b => !b.queue.isEmpty)).length
  let freed := (before.filter (fun b => b.release.isSome && after.any (fun a => a.slot == b.slot && a.release.isNone))).length
  [(0x0C2, n (·.satHi)), (0x0C3, n (·.satLo)), (0x0C4, n (·.lost)), (0x0C5, n (fun x => x.law ≤ 2 && !x.isHeld && x.stopped)),
    (0x0C6, taken), (0x0C8, freed), (0x0CD, n (·.limited))]

/-- How many slots a firing detector holds that were not held (R200, action 1). -/
def newlyHeld (before fired : List LoopSlot) : Nat :=
  (fired.filter (fun x => x.oscAction == 1 && !(before.any (fun b => b.slot == x.slot && b.isHeld && b.release.isNone)))).length

/-- Put slots back by their slot number. -/
def putSlots (new all : List LoopSlot) : List LoopSlot := all.map (fun x => (new.find? (fun n => n.slot == x.slot)).getD x)

/-- Put sets back. -/
def putSets (new all : List LoopSet) : List LoopSet :=
  all.map (fun x => (new.find? (fun n => n.owner == x.owner && n.set == x.set)).getD x)

/-! ### The slots of a channel -/

/-- The slots of an owner. -/
def Ordered.slotsOf (o : Ordered) (h : Handle) : List LoopSlot := o.loops.filter (fun x => x.owner == h)

/-- The slot of an owner's member. -/
def Ordered.slotOf (o : Ordered) (h : Handle) (m : Nat) : Option LoopSlot := o.loops.find? (fun x => x.owner == h && x.member == m)

/-- Change a slot. -/
def Calc.modSlot (n : Nat) (f : LoopSlot → LoopSlot) (c : Calc) : Calc :=
  { c with ord := { c.ord with loops := c.ord.loops.map (fun x => if x.slot == n then f x else x) } }

/-- The lowest free slots (R182). -/
def freeSlots (o : Ordered) (n : Nat) : List Nat :=
  ((List.range 128).filter (fun k => !(o.loops.any (fun x => x.slot == k)) && !o.loopsFreed.contains k)).take n

/-- Slots join in slot order. -/
def Ordered.addSlots (xs : List LoopSlot) (o : Ordered) : Ordered :=
  { o with loops := xs.foldl (fun l x => insertBy (fun y => y.slot) x l) o.loops }

/-- Destroying an owner frees its slots from the next tick (R182). A release that still waits is answered STALE_HANDLE (log entry 101). -/
def Calc.freeLoops (h : Handle) (c : Calc) : Calc :=
  let mine := c.ord.slotsOf h
  let c := mine.foldl (fun c x => c.toDrive (.free x.slot)) c
  let c := (c.ord.awaited.filter (fun a => a.packet.handle == h)).foldl (fun (c : Calc) a => c.answerLater a.packet Status.staleHandle.code []) c
  { c with ord := { c.ord with loops := c.ord.loops.filter (fun x => x.owner != h), loopSets := c.ord.loopSets.filter (fun s => s.owner != h), loopsFreed := c.ord.loopsFreed ++ mine.map (fun x => x.slot) } }

/-- A slot is held by its channel's state (R198); a release by the state that still waits is void. -/
def LoopSlot.chHold (x : LoopSlot) : LoopSlot :=
  { x with chHeld := !x.held, release := match x.release with | some (_, none) => none | r => r }

/-- A channel's state holds the slots of a CIRCUIT or LOOP channel not already held, or releases them in mode 1 (R198). Of a fast slot the
ordered state keeps whether it is held; D10 releases it. -/
def Calc.holdLoops (h : Handle) (hold : Bool) (c : Calc) : Calc :=
  let mine := fun (x : LoopSlot) => x.owner == h && (hType h == 4 || hType h == 6)
  let n := (c.ord.loops.filter (fun x => mine x && hold && !x.isHeld)).length
  let c := if n == 0 then c else c.count 0x0C7 n
  { c with ord := { c.ord with loops := c.ord.loops.map (fun x =>
      if mine x then
        (if hold then x.chHold else if !x.chHeld then x else if x.cls == 1 then { x with release := some (1, none) } else { x with chHeld := false })
      else x) } }

/-- The item of a slow slot (R203 Table 8). -/
def loopItem (tainted : Bool) (x : LoopSlot) : Item :=
  let fl := b2n x.satHi + 2 * b2n x.satLo + 4 * b2n x.lost + 8 * b2n x.isHeld + 16 * b2n x.osc
  { section_ := 5, key := x.slot, tainted
    bytes := le 1 x.slot ++ le 1 x.member ++ le 2 ((if x.samples == 0 then 0 else fl) + 32 * b2n (!x.queue.isEmpty)) ++ le 4 x.owner.toNat ++
      leS 4 x.u ++ leS 4 x.y ++ leS 4 x.e ++ leS 8 x.i ++ leS 4 x.rEff }

/-- A channel computes samples: RUNNING, HELD, or FAULTED from one of them. -/
def Channel.sampling (ch : Channel) : Bool :=
  ch.state = .running || ch.state = .held || (ch.state = .faulted && (ch.before = .running || ch.before = .held))

/-- The slow sample of a channel's slots in the computation of the tick (R185), and their items (R203). -/
def Calc.slowSample (env : LoopEnv) (ch : Channel) (c : Calc) : Calc :=
  let all := c.ord.slotsOf ch.handle
  let slow := all.filter (fun x => x.cls == 1)
  let c := if ch.sampling then
      let before := slow.filter (fun x => x.law != 0)
      let out := sampleOwner env slow (c.ord.loopSets.filter (fun s => s.owner == ch.handle && slow.any (fun x => s.members.contains x.member)))
      let c := { c with ord := { c.ord with loops := putSlots out.1 c.ord.loops, loopSets := putSets out.2.1 c.ord.loopSets } }
      let c := (sampleCounts before out.1).foldl (fun c x => if x.2 == 0 then c else c.count x.1 x.2) (if before.isEmpty then c else c.count 0x0C1 before.length)
      let c := before.foldl (fun c b => match b.release, out.1.find? (fun a => a.slot == b.slot) with
        | some (_, some p), some a => if a.release.isNone then c.answerLater p Status.ok.code (le 8 c.tick) else c
        | _, _ => c) c
      let c := if newlyHeld before out.2.2 == 0 then c else c.count 0x0C7 (newlyHeld before out.2.2)
      out.2.2.foldl (fun c x => (c.count 0x0C9 1).derive 0x0A04 0xFF (le 4 x.owner.toNat ++ le 1 x.member ++ le 1 x.oscAction)) c
    else c
  ((c.ord.slotsOf ch.handle).filter (fun x => x.cls == 1)).foldl (fun c x => c.item (loopItem ch.tainted x)) c

/-! ### Commands (R204) -/

/-- How many members an owner's type has (Table 1); 0: a type the opcodes do not serve. -/
def memberRange (h : Handle) : Nat := match hType h with | 4 => 1 | 5 => 4 | 6 => 16 | _ => 0

/-- The checks every loop command shares: type, member, slot (R204). -/
def loopTarget (o : Ordered) (h : Handle) (m : Nat) : Except Status LoopSlot :=
  if memberRange h == 0 then .error .badHandle
  else if memberRange h ≤ m then .error .badParam
  else match o.slotOf h m with
    | none => .error .range
    | some x => .ok x

/-- The class a source serves (Table 3). -/
def sourceOk (cls sel : Nat) : Bool :=
  sel == 0 || (cls == 0 && ((1 ≤ sel && sel ≤ 0x18) || sel == 0x28 || sel == 0x29)) || (0x20 ≤ sel && sel ≤ 0x27) ||
    (cls == 1 && 0x30 ≤ sel && sel ≤ 0x37) || (0x80 ≤ sel && sel ≤ 0x8F) || (0xC0 ≤ sel && sel ≤ 0xC7)

/-- The coefficients are within Table 4. -/
def coefsOk (k : List Int) : Bool :=
  let g := fun i => (k[i - 1]?).getD 0
  1 ≤ g 4 && g 4 ≤ 65536 && g 5 ≤ g 6 && 0 ≤ g 7 && 0 ≤ g 8 && 0 < g 0x0A && g 0x0B < g 0x0C

/-- Two slots agree in class and, when fast, in divider (R183). -/
def sameClass (a b : LoopSlot) : Bool := a.cls == b.cls && (a.cls == 1 || a.divider == b.divider)

/-- The members a slot reads: by its selectors, and through the sets it reads (R187). -/
def readsOf (sets : List LoopSet) (x : LoopSlot) : List Nat :=
  ([x.src, x.sp, x.pos].map (fun s =>
    if 0x80 ≤ s && s ≤ 0x8F then [s - 0x80]
    else if 0xC0 ≤ s && s ≤ 0xC7 then ((sets.find? (fun t => t.set == s - 0xC0)).map (·.members)).getD []
    else [])).flatten

/-- Configuring the slot leaves no cross-class reference and no mixed set (R183, R187). -/
def classesOk (ms : List LoopSlot) (sets : List LoopSet) (x : LoopSlot) : Bool :=
  ms.all (fun m => m.law == 0 || m.member == x.member || sameClass m x ||
    !((readsOf sets x).contains m.member || (readsOf sets m).contains x.member ||
      sets.any (fun s => s.members.contains x.member && s.members.contains m.member)))

/-- The fast-class load as a fraction (R184). -/
def fastLoad (ms : List LoopSlot) : Nat × Nat :=
  (ms.filter (fun m => m.law != 0 && m.cls == 0 && m.divider != 0)).foldl (fun a m =>
    (a.1 * m.divider + 50000 * (if m.law == 2 then 2 else 1) * a.2, a.2 * m.divider)) (0, 1)

/-- What LOOP_CONFIG may change on a slot of a CIRCUIT or LUMINAIRE channel (R206, R227). -/
def ownerAllows (old new : LoopSlot) : Bool :=
  match hType new.owner with
  | 4 => (new.law == 1 || new.law == 2) && new.cls == old.cls && new.src == old.src && new.sp == old.sp
  | 5 =>
    new.law == old.law && new.cls == old.cls && new.src == old.src && new.sp == old.sp &&
      (if new.member == 3 then 50 ≤ new.divider && new.divider ≤ 1000 && new.comp == old.comp && new.pos == old.pos &&
          (List.range 12).all (fun i => i == 4 || i == 5 || i == 6 || i == 7 || new.coef[i]? == old.coef[i]?)
        else 1 ≤ new.divider && new.divider ≤ 5 && new.pos == old.pos)
  | _ => new.sp != 1

/-- LOOP_CONFIG (R188, Table 9). -/
def ordLoopConfig : Handler := fun m p c =>
  let b := p.payload
  let mem := fld b 0 1
  let h := p.handle
  let coef := (List.range 12).map (fun i => if i == 3 then ((fld b (16 + 4 * i) 4 : Nat) : Int) else fldS b (16 + 4 * i) 4)
  let law := fld b 1 1
  let cls := fld b 2 1
  let comp := fld b 3 1
  let dv := fld b 4 2
  let sp := fld b 7 1
  let pos := fld b 8 1
  let bus := fld b 9 1
  match chanOf c.ord h with
  | none => (c, { status := .staleHandle })
  | some ch =>
    if memberRange h == 0 then (c, { status := .badHandle })
    else if memberRange h ≤ mem then (c, { status := .badParam })
    else
      let old := c.ord.slotOf h mem
      let slot? := match old with | some x => some x.slot | none => (freeSlots c.ord 1).head?
      let new : LoopSlot := { slot := slot?.getD 128, owner := h, member := mem, law, cls, comp, divider := dv, src := fld b 6 1, sp, pos, bus, coef, table := (old.map (·.table)).getD (List.replicate 64 16384), held := (old.map (·.held)).getD false, release := (old.map (·.release)).getD none, oscAction := (old.map (·.oscAction)).getD 0, oscN := (old.map (·.oscN)).getD 0, oscA := (old.map (·.oscA)).getD 65536, oscW := (old.map (·.oscW)).getD 4 }
      let fields := law == 0 || 5 < law || 1 < cls || 2 < comp || (cls == 0 && (dv == 0 || 50000 < dv)) || (cls == 1 && dv != 0) || !sourceOk cls new.src ||
        !(sp == 0 || (sp == 1 && hType h != 6) || (0x80 ≤ sp && sp ≤ 0x8F)) || !(pos ≤ 1 || (0x80 ≤ pos && pos ≤ 0x8F)) ||
        (if comp == 2 then !(bus == 0x28 || bus == 0x29) else bus != 0) || !coefsOk coef || (comp == 2 && cls == 1)
      if fields || !classesOk (c.ord.slotsOf h) (c.ord.loopSets.filter (fun s => s.owner == h)) new || !(match old with | some o => ownerAllows o new | none => true) then (c, { status := .badParam })
      else if ch.judged ≠ .created && ch.judged ≠ .configured then (c, { status := .wrongState })
      else
        let load := fastLoad (new :: c.ord.loops.filter (fun x => x.slot != new.slot))
        match slot? with
        | none => (c, { status := .noResource })
        | some slot =>
          if 1600000 * load.2 < load.1 then (c, { status := .noResource })
          else
            let c := { c with ord := Ordered.addSlots [new] { c.ord with loops := c.ord.loops.filter (fun x => x.slot != slot) } }
            let c := if cls == 0 then c.toDrive (.slot new) else c
            let c := if hType h == 6 && mem == 0 then c.complete h else c
            (c.derive 0x0A01 m (le 4 h.toNat ++ le 1 mem ++ le 1 slot ++ le 1 law ++ le 1 cls), { payload := le 1 slot ++ zeros 7 })

/-- A coefficient item is in range by itself (Table 4). -/
def coefOk (id : Nat) (v : Int) : Bool :=
  1 ≤ id && id ≤ 0x0C && (match id with | 4 => 1 ≤ v && v ≤ 65536 | 7 | 8 => 0 ≤ v | 0x0A => 0 < v | _ => true)

/-- Applying the writes in order never leaves UMIN above UMAX or POS_LO at or above POS_HI. -/
def writesOk : LoopSlot → List LoopWrite → Bool
  | _, [] => true
  | x, w :: ws => let x := x.apply w; x.k 5 ≤ x.k 6 && x.k 0x0B < x.k 0x0C && writesOk x ws

/-- The queue of a slot as the computation knows it: of a fast slot, D10's (log entry 19). -/
def Calc.queueOf (c : Calc) (x : LoopSlot) : List LoopWrite :=
  if x.cls == 0 then ((c.fast.find? (fun f => f.slot == x.slot)).map (·.queue)).getD [] ++ (c.res.drive.filterMap (fun m => match m with | .writes n ws => if n == x.slot then some ws else none | _ => none)).flatten
  else x.queue

/-- Queue writes on a slot (R194): a fast slot's travel to D10, and its configured values follow at once (R199). -/
def Calc.queueWrites (x : LoopSlot) (ws : List LoopWrite) (c : Calc) : Calc :=
  if x.cls == 0 then (c.modSlot x.slot (fun y => ws.foldl LoopSlot.apply y)).toDrive (.writes x.slot ws)
  else c.modSlot x.slot (fun y => { y with queue := y.queue ++ ws })

/-- LOOP_COEFF (R194). -/
def ordLoopCoeff : Handler := fun m p c =>
  let b := p.payload
  let n := fld b 1 1
  let items := (List.range n).map (fun i => let id := fld b (8 + 8 * i) 1; (id, if id == 4 then ((fld b (12 + 8 * i) 4 : Nat) : Int) else fldS b (12 + 8 * i) 4))
  let ws := items.map (fun i => LoopWrite.coef i.1 i.2)
  match loopTarget c.ord p.handle (fld b 0 1) with
  | .error st => (c, { status := st })
  | .ok x =>
    let q := c.queueOf x
    if n == 0 || 16 < n || !items.all (fun i => coefOk i.1 i.2) || !writesOk x ((if x.cls == 0 then [] else q) ++ ws) then (c, { status := .badParam })
    else if 16 < q.length + n then (c, { status := .busy })
    else ((c.queueWrites x ws).derive 0x0A02 m (le 4 p.handle.toNat ++ le 1 x.member ++ le 1 n), { payload := le 1 (q.length + n) ++ zeros 7 })

/-- LOOP_COMP_TABLE (R190). -/
def ordLoopCompTable : Handler := fun m p c =>
  let b := p.payload
  let t := (List.range 64).map (fun i => fld b (4 + 2 * i) 2)
  match loopTarget c.ord p.handle (fld b 0 1) with
  | .error st => (c, { status := st })
  | .ok x =>
    if 16 < (c.queueOf x).length + 1 then (c, { status := .busy })
    else ((c.queueWrites x [.table t]).derive 0x0A02 m (le 4 p.handle.toNat ++ le 1 x.member ++ le 1 1), {})

/-- The owner is HELD or FAULTED (R198). -/
def ownerStopped (o : Ordered) (h : Handle) : Bool :=
  match chanOf o h with | some ch => ch.state = .held || ch.state = .faulted | none => false

/-- D10's view of a fast slot. -/
def Calc.fastOf (c : Calc) (x : LoopSlot) : LoopSlot := if x.cls == 0 then (c.fast.find? (fun f => f.slot == x.slot)).getD x else x

/-- LOOP_HOLD (R196). -/
def ordLoopHold : Handler := fun m p c =>
  match loopTarget c.ord p.handle (fld p.payload 0 1) with
  | .error st => (c, { status := st })
  | .ok x =>
    if x.held || (c.fastOf x).held || (hType p.handle != 5 && ownerStopped c.ord p.handle) then (c, { status := .wrongState })
    else
      let c := (c.modSlot x.slot (fun y => { y with held := true })).count 0x0C7 1
      let c := if x.cls == 0 then c.toDrive (.hold x.slot) else c
      (c.derive 0x0A03 m (le 4 p.handle.toNat ++ le 1 x.member ++ le 1 0xFF), {})

/-- LOOP_RELEASE (R197): its reply comes when the release takes effect. -/
def ordLoopRelease : Handler := fun m p c =>
  let mode := fld p.payload 1 1
  match loopTarget c.ord p.handle (fld p.payload 0 1) with
  | .error st => (c, { status := st })
  | .ok x =>
    let f := c.fastOf x
    if 1 < mode then (c, { status := .badParam })
    else if !(x.held || f.held) || x.release.isSome || (f.release.isSome && !x.held) || (hType p.handle != 5 && ownerStopped c.ord p.handle) then (c, { status := .wrongState })
    else
      let c := if x.cls == 0 then (c.modSlot x.slot (fun y => { y with held := false })).toDrive (.release x.slot mode (some p))
        else c.modSlot x.slot (fun y => { y with release := some (mode, some p) })
      (c.derive 0x0A03 m (le 4 p.handle.toNat ++ le 1 x.member ++ le 1 mode), { later := true })

/-- OSC_CONFIG (R200). -/
def ordOscConfig : Handler := fun _ p c =>
  let b := p.payload
  let n := fld b 2 1
  let a := fldS b 4 4
  let w := fld b 8 4
  match loopTarget c.ord p.handle (fld b 0 1) with
  | .error st => (c, { status := st })
  | .ok x =>
    if 1 < fld b 1 1 || n == 1 || 32 < n || a ≤ 0 || w < 4 || 65535 < w then (c, { status := .badParam })
    else
      let c := c.modSlot x.slot (fun y => { y with oscAction := fld b 1 1, oscN := n, oscA := a, oscW := w, osc := false, oscAt := [], oscSign := 0 })
      (if x.cls == 0 then c.toDrive (.osc x.slot (fld b 1 1) n a w) else c, {})

/-- CONTENTION_SET (R192). -/
def ordContentionSet : Handler := fun _ p c =>
  let b := p.payload
  let h := p.handle
  let set := fld b 0 1
  let mask := fld b 2 2
  let mem := (List.range 16).filter (fun k => bit mask k)
  let ms := c.ord.slotsOf h
  let old := c.ord.loopSets.find? (fun s => s.owner == h && s.set == set)
  let named := mem ++ (old.map (·.members)).getD []
  let slots := mem.filterMap (fun k => ms.find? (fun x => x.member == k))
  let cfg := slots.filter (fun x => x.law != 0)
  match chanOf c.ord h with
  | none => (c, { status := .staleHandle })
  | some ch =>
    if memberRange h == 0 then (c, { status := .badHandle })
    else if 7 < set || mem.any (fun k => memberRange h ≤ k) || (hType h == 5 && mask != 0) then (c, { status := .badParam })
    else if slots.length != mem.length then (c, { status := .range })
    else if cfg.any (fun a => cfg.any (fun d => !sameClass a d)) ||
        c.ord.loopSets.any (fun s => s.owner == h && s.set != set && mem.any s.members.contains) then (c, { status := .badParam })
    else if ch.judged ≠ .created && ch.judged ≠ .configured && !named.all (fun k => match ms.find? (fun x => x.member == k) with | some x => x.isHeld || (c.fastOf x).isHeld | none => false) then (c, { status := .wrongState })
    else
      let rest := c.ord.loopSets.filter (fun s => !(s.owner == h && s.set == set))
      let new := if mem.isEmpty then [] else [({ owner := h, set, members := mem, out := (old.map (·.out)).getD 0 } : LoopSet)]
      let c := { c with ord := { c.ord with loopSets := rest ++ new } }
      (c.toDrive (.set h set mem), {})

/-- TRACE_CONFIG (R202, Table 11). -/
def ordTraceConfig : Handler := fun _ p c =>
  let b := p.payload
  let n := fld b 0 1
  let nodes := (List.range n).map (fun i => (fld b (16 + 2 * i) 1, fld b (17 + 2 * i) 1))
  let depth := fld b 4 2
  let f : TraceCfg := { nodes, kind := fld b 1 1, trigNode := fld b 2 1, decim := fld b 3 1, depth, pre := fld b 6 2, level := fldS b 8 4, mask := fld b 12 2, slot := fld b 14 1 }
  let has := fun k => c.ord.loops.any (fun x => x.slot == k)
  if n == 0 || 8 < n || 4 < f.kind || n ≤ f.trigNode || f.decim == 0 || depth < 256 || 16384 < depth || depth % 256 != 0 || 131072 < depth * n || depth ≤ f.pre ||
      31 < f.mask || 127 < f.slot || nodes.any (fun x => 127 < x.1 || 11 < x.2) then (c, { status := .badParam })
  else if !has f.slot || nodes.any (fun x => !has x.1) then (c, { status := .range })
  else if c.armed.contains p.handle then (c, { status := .wrongState })
  else
    match chanOf c.ord p.handle with
    | none => (c, { status := .staleHandle })
    | some _ =>
      let c := c.modChan p.handle (fun ch => { ch with body := .trace f })
      ((c.complete p.handle).toDrive (.trace p.handle f), {})

/-! ### Status and traces -/

/-- The value of a trace node (Table 6). -/
def LoopSlot.node (x : LoopSlot) (code : Nat) : Int :=
  match code with
  | 0 => x.y | 1 => x.r | 2 => x.rEff | 3 => x.e | 4 => x.p | 5 => x.t | 6 => x.d | 7 => x.uRaw | 8 => x.u
  | 9 => x.c
  | 10 => (b2n x.satHi + 2 * b2n x.satLo + 4 * b2n x.lost + 8 * b2n x.isHeld + 16 * b2n x.osc : Nat)
  | _ => sat32 x.i

/-- A slot as it runs: a slow one in the ordered state, a fast one in D10. -/
def slotNow (s : State) (n : Nat) : Option LoopSlot :=
  match s.ord.loops.find? (fun x => x.slot == n) with
  | none => none
  | some x => if x.cls == 0 then some ((s.drive.slots.find? (fun f => f.slot == n)).getD x) else some x

/-- LOOP_STATUS (Table 10). -/
def cmdLoopStatus (p : Packet) (s : State) : State × Ans :=
  let m := fld p.payload 0 1
  let slowView := s.rel.slotOf p.handle m
  match loopTarget s.ord p.handle m with
  | .error st => (s, { status := st })
  | .ok x0 =>
    let slow := x0.cls == 1
    let x := if slow then slowView.getD x0 else (slotNow s x0.slot).getD x0
    let sets := if slow then s.rel.loopSets else s.drive.sets
    let set := sets.find? (fun t => t.owner == p.handle && t.members.contains m)
    let tainted := slow && ((chanOf s.rel p.handle).map (·.tainted)).getD false
    let fl := b2n x.satHi + 2 * b2n x.satLo + 4 * b2n x.lost + 8 * b2n x.isHeld + 16 * b2n x.osc + 32 * b2n (!x.queue.isEmpty)
    (s, { status := if tainted then .tainted else .ok
          payload := le 8 (if slow then s.relTick else 0) ++ le 1 x.slot ++ le 1 x.law ++ le 1 x.cls ++ le 1 ((set.map (·.set)).getD 0xFF) ++ le 2 fl ++
            le 1 x.queue.length ++ le 1 x.oscAt.length ++ leS 4 x.u ++ leS 4 x.uRaw ++ leS 4 x.y ++ leS 4 x.rEff ++ leS 4 x.e ++ le 4 x.c ++ leS 8 x.i ++
            leS 4 ((set.map (·.out)).getD x.u) ++ le 4 x.holdCount ++ zeros 8 })

/-- TB_M in ns from the start of tick 0. -/
def tbmNs (s : State) : Nat := s.clerk.tick * 250000000 + s.clerk.offset * 1000

/-- The trigger fires on a new value (Table 7). -/
def TraceRun.fires (r : TraceRun) (v : Int) (flags : Nat) : Bool :=
  let rise := match r.prev with | some q => q < r.cfg.level && r.cfg.level ≤ v | none => false
  let fall := match r.prev with | some q => r.cfg.level ≤ q && v < r.cfg.level | none => false
  match r.cfg.kind with
  | 1 => rise | 2 => fall | 3 => rise || fall | 4 => Nat.land flags r.cfg.mask != 0 | _ => false

/-- A trace takes one sample of its nodes (R202): whether it triggers and whether it ends. -/
def TraceRun.sample (val : Nat × Nat → Option Int) (flags now : Nat) (r : TraceRun) : TraceRun × Bool × Bool :=
  if r.state != 1 && r.state != 2 then (r, false, false)
  else if r.skip != 0 then ({ r with skip := r.skip - 1 }, false, false)
  else
    let gone := (r.cfg.nodes.filter (fun n => r.gone.contains n.1 || (val n).isNone)).map (·.1)
    let row := r.cfg.nodes.map (fun n => if gone.contains n.1 then 0 else (val n).getD 0)
    let v := (row[r.cfg.trigNode]?).getD 0
    let r := { r with skip := r.cfg.decim - 1, gone }
    if r.state == 1 then
      if r.cfg.pre ≤ r.rows.length && r.fires v flags then
        ({ r with state := if r.cfg.depth - r.cfg.pre ≤ 1 then 3 else 2, rows := lastN r.cfg.pre r.rows ++ [row], preRows := r.cfg.pre, left := r.cfg.depth - r.cfg.pre - 1, instant := now, prev := some v }, true, decide (r.cfg.depth - r.cfg.pre ≤ 1))
      else ({ r with rows := lastN r.cfg.depth (r.rows ++ [row]), prev := some v }, false, false)
    else
      ({ r with rows := r.rows ++ [row], left := r.left - 1, state := if r.left ≤ 1 then 3 else 2, prev := some v }, false, decide (r.left ≤ 1))

/-- The traces whose sampling slot has just sampled take a sample (R202); a HELD TRACE channel pauses. -/
def traceSample (slots : List Nat) (s : State) : State :=
  let val := fun n : Nat × Nat => (slotNow s n.1).map (fun x => x.node n.2)
  let go := fun (acc : State × List TraceRun) (r : TraceRun) =>
    let runs := match chanOf s.ord r.handle with | some ch => ch.state = .running | none => false
    if runs && slots.contains r.cfg.slot then
      let trig := (r.cfg.nodes[r.cfg.trigNode]?).getD (0, 0)
      let out := r.sample val ((slotNow s trig.1).map (fun x => (x.node 10).toNat)|>.getD 0) (tbmNs s)
      let st := if out.2.1 then gbk 0x0A07 0xFF (le 4 r.handle.toNat ++ le 1 0) (count 0x0CA acc.1) else acc.1
      (if out.2.2 then count 0x0CB st else st, acc.2 ++ [out.1])
    else (acc.1, acc.2 ++ [r])
  let r := s.drive.traces.foldl go (s, [])
  { r.1 with drive := { r.1.drive with traces := r.2 } }

/-- Change a trace. -/
def modTrace (h : Handle) (f : TraceRun → TraceRun) (s : State) : State :=
  { s with drive := { s.drive with traces := s.drive.traces.map (fun r => if r.handle == h then f r else r) } }

/-- TRACE_ARM (R202). -/
def cmdTraceArm (p : Packet) (s : State) : State × Ans :=
  let a := fld p.payload 0 1
  match chanOf s.ord p.handle, s.drive.traces.find? (fun r => r.handle == p.handle) with
  | some ch, some r =>
    if 2 < a then (s, { status := .badParam })
    else if ch.state ≠ .running || (a != 0 && r.state != 1) then (s, { status := .wrongState })
    else match a with
      | 0 => (modTrace p.handle (fun r => { handle := r.handle, cfg := r.cfg, state := 1 }) s, {})
      | 1 =>
        let left := r.cfg.depth - r.cfg.pre
        let s := gbk 0x0A07 0xFF (le 4 p.handle.toNat ++ le 1 1) (count 0x0CA s)
        (modTrace p.handle (fun r => let rows := lastN r.cfg.pre r.rows; { r with state := 2, forced := true, rows, preRows := rows.length, left, instant := tbmNs s }) s, {})
      | _ => (modTrace p.handle (fun r => { handle := r.handle, cfg := r.cfg }) s, {})
  | _, _ => (s, { status := if 2 < a then .badParam else .wrongState })

/-- TRACE_READ (R202). -/
def cmdTraceRead (p : Packet) (s : State) : State × Ans :=
  let b := p.payload
  let node := fld b 0 1
  let first := fld b 2 2
  let n := fld b 4 2
  match s.drive.traces.find? (fun r => r.handle == p.handle) with
  | some r =>
    if n == 0 || 1008 < n then (s, { status := .badParam })
    else if r.state == 0 then (s, { status := .wrongState })
    else if r.cfg.nodes.length ≤ node || r.rows.length < first + n then (s, { status := .badParam })
    else
      let vals := ((r.rows.drop first).take n).map (fun row => leS 4 ((row[node]?).getD 0))
      (s, { payload := le 1 r.state ++ le 1 (b2n r.forced + 2 * b2n (!r.gone.isEmpty)) ++ zeros 2 ++ le 2 r.rows.length ++
              le 2 (if r.state == 1 then min r.rows.length r.cfg.pre else r.preRows) ++ le 8 r.instant ++ vals.flatten })
  | none => (s, { status := if n == 0 || 1008 < n then .badParam else .wrongState })

/-- The final reply of an ordered command whose effect comes in D10 (R197), outside the results of a tick. -/
def answerAwaited (p : Packet) (payload : List Byte) (s : State) : State :=
  match s.ord.awaited.find? (fun a => a.packet == p) with
  | none => s
  | some a => releaseReply { a with status := 0, payload } { s with ord := { s.ord with awaited := s.ord.awaited.filter (fun x => x.packet != p) } }

/-- LOOP_RELEASE_EFFECT (R197): the pending release of a fast slot takes effect at a sample with its queue empty. A slow
slot's takes effect in the sample of its tick. -/
def execLoopReleaseEffect (slot : Nat) (s : State) : Host.Outcome State Fault Refusal :=
  match s.drive.slots.find? (fun x => x.slot == slot) with
  | some x =>
    match x.release with
    | some (mode, p) =>
      if x.queue.isEmpty then
        let y := if mode == 1 && x.law ≤ 2 then x.bumpless else x
        let y := y.freed.output
        let s := count 0x0C8 { s with drive := { s.drive with slots := putSlots [{ y with u := y.clamped }] s.drive.slots } }
        .next (match p with | some p => answerAwaited p (le 8 0) s | none => s)
      else .next s
    | none => .next s
  | none => .next s

/-- LOOP_CONFIG: ordered; `ordLoopConfig` is its effect. -/
def execLoopConfig (p : Packet) (s : State) : Host.Outcome State Fault Refusal := .next (submitW 0x0601 p s)
/-- LOOP_COEFF: ordered; `ordLoopCoeff` is its effect. -/
def execLoopCoeff (p : Packet) (s : State) : Host.Outcome State Fault Refusal := .next (submitW 0x0602 p s)
/-- LOOP_COMP_TABLE: ordered; `ordLoopCompTable` is its effect. -/
def execLoopCompTable (p : Packet) (s : State) : Host.Outcome State Fault Refusal := .next (submitW 0x0603 p s)
/-- LOOP_HOLD: ordered; `ordLoopHold` is its effect. -/
def execLoopHold (p : Packet) (s : State) : Host.Outcome State Fault Refusal := .next (submitW 0x0604 p s)
/-- LOOP_RELEASE: ordered; `ordLoopRelease` is its effect. -/
def execLoopRelease (p : Packet) (s : State) : Host.Outcome State Fault Refusal := .next (submitW 0x0605 p s)
@[inherit_doc cmdLoopStatus] def execLoopStatus (p : Packet) (s : State) : Host.Outcome State Fault Refusal := .next (submit 0x0606 cmdLoopStatus p s)
/-- CONTENTION_SET: ordered; `ordContentionSet` is its effect. -/
def execContentionSet (p : Packet) (s : State) : Host.Outcome State Fault Refusal := .next (submitW 0x0607 p s)
/-- OSC_CONFIG: ordered; `ordOscConfig` is its effect. -/
def execOscConfig (p : Packet) (s : State) : Host.Outcome State Fault Refusal := .next (submitW 0x0608 p s)
/-- TRACE_CONFIG: ordered; `ordTraceConfig` is its effect. -/
def execTraceConfig (p : Packet) (s : State) : Host.Outcome State Fault Refusal := .next (submitW 0x0610 p s)
@[inherit_doc cmdTraceArm] def execTraceArm (p : Packet) (s : State) : Host.Outcome State Fault Refusal := .next (submit 0x0611 cmdTraceArm p s)
@[inherit_doc cmdTraceRead] def execTraceRead (p : Packet) (s : State) : Host.Outcome State Fault Refusal := .next (submit 0x0612 cmdTraceRead p s)

end Sys2Proof.Machine
end

