-- ==== Sys2Proof/Machine/Drive.lean ====
section
/-!
DEFINITION. Machine/Drive.lean: directly wired luminaires (ch. 10): from level to string currents, the external stage,
string faults, and the fast samples of the loop engine.
-/
namespace Sys2Proof.Machine

/-! ### From level to string current (R210 to R212) -/

/-- The relative flux of a colour at a temperature (R210). -/
def fluxOf (table : List Nat) (temp : Int) : Int :=
  let f := fun i => (((table[i]?).getD 16384 : Nat) : Int)
  let p := temp + 40 * 65536
  if p < 0 then f 0
  else
    let i := (p / 655360).toNat
    if 15 ≤ i then f 15 else f i + (f (i + 1) - f i) * (p - 655360 * i) / 655360

/-- The drive fractions of the three colours, and whether the colours were limited (R210). -/
def driveFractions (l : Lum) (p : Nat) (temp : Int) : List Nat × Bool :=
  let d := fun c => p * (l.mix[c]?).getD 0 * 2 ^ 30 / (256000000 * (fluxOf ((l.tables[c]?).getD []) temp).toNat)
  let ds := [d 0, d 1, d 2]
  let m := ds.foldl max 0
  if 65536 < m then (ds.map (fun x => x * 65536 / m), true) else (ds, false)

/-- The derate curve (R211). -/
def derateCurve (l : Lum) (temp : Int) : Nat :=
  let knee : Int := l.knee * 65536
  let mx : Int := l.max * 65536
  if temp ≤ knee then 65536 else if mx ≤ temp then 0 else (65536 * (mx - temp) / (mx - knee)).toNat

/-- The set-point under an NTC fault (R211). -/
def ntcFactor (l : Lum) : Nat := l.factor * 65536 / 1000

/-- The split of a drive fraction into pulse count and amplitude (R212 Table 2). -/
def splitFraction (x : Nat) : Nat × Nat :=
  if x == 0 then (0, 0)
  else if x ≤ 654 then ((x * 1024 + 2620) / 5240, 5240)
  else if x ≤ 8191 then (128, 8 * x)
  else ((x * 1024 + 32768) / 65536, 65536)

/-- A sub-period of a dimming frame is on (R213). -/
def subPeriodOn (n i : Nat) : Bool := decide (i * n / 1024 < (i + 1) * n / 1024)

/-! ### The computation of a LUMINAIRE channel -/

/-- The luminaire of a handle. -/
def lumOf (o : Ordered) (h : Handle) : Option Lum :=
  match chanOf o h with | some { body := .luminaire l, .. } => some l | _ => none

/-- Change the luminaire of a channel. -/
def Calc.modLum (h : Handle) (f : Lum → Lum) (c : Calc) : Calc :=
  c.modChan h (fun ch => match ch.body with | .luminaire x => { ch with body := .luminaire (f x) } | _ => ch)

/-- The DRIVE_SAMPLE entry of the waybill is read (R220). -/
def Calc.readDrive (c : Calc) : Calc :=
  match c.entries.find? (fun e => e.kind == 0x0701) with
  | some { body := .raw b, .. } => { c with ord := { c.ord with driveSample := b } }
  | _ => c

/-- The temperature of a luminaire in the last DRIVE_SAMPLE, Q16.16 °C. -/
def sampledTemp (o : Ordered) (k : Nat) : Int := if o.driveSample.isEmpty then -2147483648 else fldS o.driveSample (4 * k) 4

/-- A STRING_FAULT entry of the luminaire is read (R218, R219): kind 0x0B03. -/
def Calc.readFault (h : Handle) (b : List Byte) (c : Calc) : Calc :=
  let col := fld b 1 1
  let k := if col == 0xFF then 3 else col
  (c.modLum h (fun l => { l with latched := setAt l.latched k (fld b 2 1), seqs := setAt l.seqs k (fld b 4 4) })).derive 0x0B03 0xFF
    (le 4 h.toNat ++ le 1 col ++ le 1 (fld b 2 1) ++ le 4 (fld b 4 4))

/-- A colour is fitted (R205). -/
def Lum.fitted (l : Lum) (c : Nat) : Bool := match l.strings[c]? with | some (some s) => s.rated != 0 | _ => false

/-- The computation of a LUMINAIRE channel: its fault entries while RUNNING, and its item of section 0x0002 (R221); HELD or
FAULTED, the set-points are frozen. -/
def Calc.luminaire (ch : Channel) (c : Calc) : Calc :=
  match lumOf c.ord ch.handle with
  | none => c
  | some l0 =>
    match l0.num with
    | none => c
    | some k =>
      if !ch.sampling then c
      else
        let h := ch.handle
        let live := ch.state = .running
        let c := if live then (c.entries.filter (fun e => e.kind == 0x0702)).foldl (fun c e => match e.body with
          | .raw b => if fld b 0 1 == k then c.readFault h b else c
          | _ => c) c else c
        let l := (lumOf c.ord h).getD l0
        let rec_ := ((lanternOf c.ord l.lead).record.map (LevelRec.boundary (c.tick + 1))).getD (baseRecord c.ord l.lead)
        let temp := sampledTemp c.ord k
        let ntc := temp == -2147483648
        let g := if ntc then ntcFactor l else derateCurve l temp
        let f := driveFractions l rec_.p temp
        let xs := (List.range 3).map (fun i => if l.fitted i && (l.latched[i]?).getD 0 == 0 then (f.1[i]?).getD 0 * g / 65536 else 0)
        let c := if live then
            let c := if (g < 65536) != l.derated then c.derive 0x0B05 0xFF (le 4 h.toNat ++ leS 4 temp) else c
            c.modLum h (fun l => { l with derated := decide (g < 65536), lastX := xs, lastG := g, lastT := temp, limited := f.2 })
          else c
        let l := (lumOf c.ord h).getD l
        let flags := sumBy (fun i => b2n ((l.latched[i]?).getD 0 != 0) * 2 ^ i) (List.range 3) + 8 * b2n ((l.latched[3]?).getD 0 != 0) + 16 * b2n l.limited +
          32 * b2n (decide (l.lastG < 65536)) + 64 * b2n (!live)
        c.item { section_ := 2, key := k, tainted := ch.tainted, bytes := le 1 k ++ le 1 (stateCode ch.state) ++ le 2 flags ++ le 4 h.toNat ++ le 2 l.lead ++ zeros 2 ++ le 4 rec_.p ++ leS 4 l.lastT ++ le 4 l.lastG ++ (l.lastX.map (le 4)).flatten ++ (l.mix.map (le 2)).flatten ++ zeros 6 }

/-! ### Commands -/

/-- The four slots of a LUMINAIRE channel at creation (R206 Table 1). -/
def lumSlots (h : Handle) (slots : List Nat) : List LoopSlot :=
  slots.zipIdx.map (fun (n, m) =>
    if m < 3 then { slot := n, owner := h, member := m, law := 1, cls := 0, comp := 1, divider := 1, src := 0x01 + m, sp := 1, coef := [0x0059999A, 0x00047AE1, 0, 65536, 0, 0, 0, 0, 0, 65536, 0, 65536] }
    else { slot := n, owner := h, member := 3, law := 3, cls := 0, divider := 50, src := 0x20, sp := 1, coef := [0, 0, 0, 65536, 0, 0x10000, 66, 0, 0, 65536, 0, 65536] })

/-- A LUMINAIRE's mandatory set is complete: LUMINAIRE_CONFIG and the three STRING_CONFIG. -/
def Calc.lumComplete (h : Handle) (c : Calc) : Calc :=
  match lumOf c.ord h with
  | some l => if l.num.isSome && l.strings.all (·.isSome) then c.complete h else c
  | none => c

/-- Send a luminaire's configuration to D10. -/
def Calc.sendLum (h : Handle) (c : Calc) : Calc := match lumOf c.ord h with | some l => c.toDrive (.lum h l) | none => c

/-- The state of a channel forbids a change of configuration: RUNNING or HELD (judged as R47 says). -/
def Channel.busy (ch : Channel) : Bool := ch.judged = .running || ch.judged = .held

/-- LUMINAIRE_CONFIG (R205, Table 7). -/
def ordLuminaireConfig : Handler := fun m p c =>
  let b := p.payload
  let h := p.handle
  let k := fld b 0 1
  let only := bit (fld b 2 1) 0
  let lead := fld b 4 2
  let mix := [fld b 6 2, fld b 8 2, fld b 10 2]
  let r25 := fld b 12 4
  let beta := fld b 16 2
  match chanOf c.ord h, lumOf c.ord h with
  | some ch, some l =>
    if 1 < fld b 2 1 || 8191 < lead || mix.any (fun x => 1000 < x) ||
        (!only && (7 < k || 1 < fld b 1 1 || r25 < 1000 || 470000 < r25 || beta < 2000 || 6000 < beta)) then (c, { status := .badParam })
    else if (placementOf c.ord lead).isNone || (!only && c.ord.channels.any (fun x => x.handle != h && (match x.body with | .luminaire y => y.num == some k | _ => false))) then (c, { status := .range })
    else if !only && ch.busy then (c, { status := .wrongState })
    else
      let c := if only then c.modLum h (fun l => { l with lead := lead, mix := mix })
        else c.modLum h (fun l => { l with num := some k, bus := fld b 1 1, lead := lead, mix := mix, r25 := r25, beta := beta })
      let c := if only then c else
        { c with ord := { c.ord with loops := c.ord.loops.map (fun x => if x.owner == h then { x with src := if x.member < 3 then 0x01 + 3 * k + x.member else 0x20 + k } else x) } }
      let c := if only then c else ((c.ord.slotsOf h).foldl (fun c x => c.toDrive (.slot x)) c).lumComplete h
      let k := if only then l.num.getD 0xFF else k
      ((c.sendLum h).derive 0x0B01 m (le 4 h.toNat ++ le 1 k ++ le 2 lead ++ le 1 (b2n only)), {})
  | _, _ => (c, { status := .staleHandle })

/-- STRING_CONFIG (R216). -/
def ordStringConfig : Handler := fun m p c =>
  let b := p.payload
  let h := p.handle
  let col := fld b 0 1
  let x : StringCfg := ⟨fld b 4 4, fld b 8 4, fld b 12 4, fld b 16 4, fld b 20 4⟩
  match chanOf c.ord h with
  | none => (c, { status := .staleHandle })
  | some ch =>
    if 2 < col || x.fsw < 250000 || 1000000 < x.fsw || (x.rated != 0 && (x.rated < 3277 || 196608 < x.rated)) || 60 * 65536 < x.vmin || x.duty < 6554 || 62259 < x.duty then (c, { status := .badParam })
    else if x.rated != 0 && (x.rated * x.shunt < 50000 * 65536 || 100000 * 65536 < x.rated * x.shunt) then (c, { status := .range })
    else if ch.busy then (c, { status := .wrongState })
    else
      let c := c.modLum h (fun l => { l with strings := setAt l.strings col (some x) })
      let c := match c.ord.slotOf h col with
        | some s => let s := { s with coef := setAt s.coef 5 (x.duty : Int) }; (c.modSlot s.slot (fun _ => s)).toDrive (.slot s)
        | none => c
      (((c.lumComplete h).sendLum h).derive 0x0B02 m (le 4 h.toNat ++ le 1 col ++ le 4 x.rated), {})

/-- COLOUR_TABLE (R210). -/
def ordColourTable : Handler := fun m p c =>
  let b := p.payload
  let t := (List.range 16).map (fun i => fld b (4 + 2 * i) 2)
  if 2 < fld b 0 1 || t.any (fun x => x < 1638) then (c, { status := .badParam })
  else (((c.modLum p.handle (fun l => { l with tables := setAt l.tables (fld b 0 1) t })).sendLum p.handle).derive 0x0B08 m (le 4 p.handle.toNat ++ le 2 p.opcode), {})

/-- DERATE_SET (R211). -/
def ordDerateSet : Handler := fun m p c =>
  let b := p.payload
  let knee := fld b 0 2
  let mx := fld b 2 2
  if knee < 70 || 110 < knee || mx < knee + 5 || 150 < mx || 1000 < fld b 4 2 then (c, { status := .badParam })
  else (((c.modLum p.handle (fun l => { l with knee := knee, max := mx, factor := fld b 4 2 })).sendLum p.handle).derive 0x0B08 m (le 4 p.handle.toNat ++ le 2 p.opcode), {})

/-- STRING_FAULT_CLEAR (R219): each clear carries the sequence number of the latest entry read. -/
def ordStringFaultClear : Handler := fun m p c =>
  let mask := fld p.payload 0 1
  match lumOf c.ord p.handle with
  | none => (c, { status := .staleHandle })
  | some l =>
    if 15 < mask then (c, { status := .badParam })
    else
      let hit := (List.range 4).filter (fun i => bit mask i && (l.latched[i]?).getD 0 != 0)
      let k := l.num.getD 0
      let c := if hit.isEmpty then c else c.toDrive (.clear (hit.map (fun i => (if i == 3 then 24 + k else 3 * k + i, (l.seqs[i]?).getD 0))))
      let c := c.modLum p.handle (fun l => { l with latched := hit.foldl (fun a i => setAt a i 0) l.latched })
      (c.derive 0x0B04 m (le 4 p.handle.toNat ++ le 1 mask), { payload := le 1 (sumBy (fun i => 2 ^ i) hit) ++ zeros 7 })

/-! ### The drive block -/

/-- D10 is gated: no LUMINAIRE channel exists (R11, R445; log entry 43). -/
def driveGated (s : State) : Bool := !s.ord.channels.any (fun c => hType c.handle == 5)

/-- VANA is under its threshold (R444). -/
def vanaUnder (s : State) : Bool := bit s.supply.under 2

/-- Change a string, a luminaire. -/
def modStr (i : Nat) (f : StrRun → StrRun) (s : State) : State := { s with drive := { s.drive with strs := modAt s.drive.strs i f } }
@[inherit_doc modStr] def modLumRun (k : Nat) (f : LumRun → LumRun) (s : State) : State :=
  { s with drive := { s.drive with lums := s.drive.lums.map (fun l => if l.num == k then f l else l) } }

/-- The luminaire of a number in the drive block. -/
def lumRun (s : State) (k : Nat) : Option LumRun := s.drive.lums.find? (fun l => l.num == k)

/-- A slot restarts (R199); what holds it, and a release that waits, stay. -/
def LoopSlot.restarted (x : LoopSlot) : LoopSlot :=
  { slot := x.slot, owner := x.owner, member := x.member, law := x.law, cls := x.cls, comp := x.comp, divider := x.divider, src := x.src, sp := x.sp, pos := x.pos, bus := x.bus, coef := x.coef, table := x.table, oscAction := x.oscAction, oscN := x.oscN, oscA := x.oscA, oscW := x.oscW, u := x.k 5, held := x.held, chHeld := x.chHeld, release := x.release }

/-- Change a fast slot. -/
def modFast (n : Nat) (f : LoopSlot → LoopSlot) (s : State) : State :=
  { s with drive := { s.drive with slots := s.drive.slots.map (fun x => if x.slot == n then f x else x) } }

/-- An input of the DRIVE class waits for the clerk. -/
def driveEntry (kind : Nat) (b : List Byte) (s : State) : State :=
  { s with clerk := { s.clerk with intake := s.clerk.intake ++ [{ cls := 5, index := 0, kind, body := .raw b }] } }

/-- The STRING_FAULT entry of a string (R218): at most one per tick. -/
def stringEntry (i : Nat) (s : State) : State :=
  match s.drive.strs[i]? with
  | none => s
  | some x =>
    if x.entryTick == some s.clerk.tick then modStr i (fun x => { x with due := true }) s
    else driveEntry 0x0702 (le 1 (i / 3) ++ le 1 (i % 3) ++ le 1 x.cause ++ zeros 1 ++ le 4 x.seq ++ leS 4 x.y ++ leS 4 x.duty)
      (modStr i (fun x => { x with due := false, entryTick := some s.clerk.tick }) s)

/-- The entry of an NTC fault. -/
def ntcEntry (k : Nat) (s : State) : State :=
  match lumRun s k with
  | none => s
  | some l =>
    if l.ntcEntry == some s.clerk.tick then modLumRun k (fun l => { l with ntcDue := true }) s
    else driveEntry 0x0702 (le 1 k ++ le 1 0xFF ++ le 1 l.ntcCause ++ zeros 1 ++ le 4 l.ntcSeq ++ zeros 8)
      (modLumRun k (fun l => { l with ntcDue := false, ntcEntry := some s.clerk.tick }) s)

/-- A string fault latches (R218 Table 4): its gate goes low. -/
def latchString (i cause : Nat) (s : State) : State :=
  match s.drive.strs[i]?, lumRun s (i / 3) with
  | some x, some l =>
    if x.cause != 0 then s
    else
      let s := modLumRun (i / 3) (fun l => { l with seq := l.seq + 1 }) s
      stringEntry i (count 0x0E1 (modStr i (fun x => { x with cause, seq := l.seq + 1, gate := false, openRun := 0, shortRun := 0, highRun := 0, lowRun := 0 }) s))
  | _, _ => s

/-- An NTC fault latches (R218 Table 4). -/
def latchNtc (k cause : Nat) (s : State) : State :=
  match lumRun s k with
  | some l =>
    if l.ntcCause != 0 then s
    else ntcEntry k (count 0x0E3 (modLumRun k (fun l => { l with seq := l.seq + 1, ntcCause := cause, ntcSeq := l.seq + 1 }) s))
  | none => s

/-- A clear of R219 reaches D10: only a matching sequence number clears. -/
def clearFault (f : Nat × Nat) (s : State) : State :=
  if 24 ≤ f.1 then
    match lumRun s (f.1 - 24) with
    | some l => if l.ntcCause != 0 && l.ntcSeq == f.2 then count 0x0E2 (modLumRun (f.1 - 24) (fun l => { l with ntcCause := 0, ntcLow := 0, ntcHigh := 0 }) s) else s
    | none => s
  else
    match s.drive.strs[f.1]?, lumRun s (f.1 / 3) with
    | some x, some l =>
      if x.cause != 0 && x.seq == f.2 then
        let s := modStr f.1 (fun x => { x with cause := 0, trips := 0 }) s
        count 0x0E2 { s with drive := { s.drive with slots := s.drive.slots.map (fun y => if y.owner == l.handle && y.member == f.1 % 3 then y.restarted else y) } }
      else s
    | _, _ => s

/-- The luminaire's gates go low. -/
def gatesLow (k : Nat) (s : State) : State :=
  [0, 1, 2].foldl (fun s c => modStr (3 * k + c) (fun x => { x with gate := false, n := 0, nextN := 0 }) s) s

/-- A channel's change of state reaches D10 (R196, R208). -/
def driveChan (h : Handle) (what tick : Nat) (s : State) : State :=
  let lum := s.drive.lums.find? (fun l => l.handle == h)
  match what with
  | 1 =>
    let s := match lum with | some l => modLumRun l.num (fun l => { l with start := some (tick + 2), held := 0 }) s | none => s
    { s with drive := { s.drive with running := h :: s.drive.running.filter (· != h) } }
  | 2 =>
    let s := match lum with | some l => modLumRun l.num (fun l => { l with held := 1, rejoin := false }) s | none => s
    if hType h == 6 then { s with drive := { s.drive with slots := s.drive.slots.map (fun x => if x.owner == h then x.chHold else x) } } else s
  | 3 =>
    let s := match lum with | some l => modLumRun l.num (fun l => { l with rejoin := true }) s | none => s
    if hType h == 6 then { s with drive := { s.drive with slots := s.drive.slots.map (fun x => if x.owner == h && x.chHeld then { x with release := some (1, none) } else x) } } else s
  | _ =>
    let s := match lum with | some l => gatesLow l.num s | none => s
    { s with drive := { s.drive with running := s.drive.running.filter (· != h), lums := s.drive.lums.filter (fun l => l.handle != h), sets := s.drive.sets.filter (fun t => t.owner != h), traces := s.drive.traces.filter (fun r => r.handle != h) } }

/-- A slot set up anew keeps a LOOP_RELEASE that still waits in D10, so that it is answered (R197). -/
def LoopSlot.keepRelease (x : LoopSlot) (old : List LoopSlot) : LoopSlot :=
  match (old.find? (fun y => y.slot == x.slot && y.owner == x.owner)).map (·.release) with
  | some (some (m, some p)) => { x with held := true, release := some (m, some p) }
  | _ => x

/-- One message takes effect in D10. -/
def driveMsg (m : DriveMsg) (s : State) : State :=
  match m with
  | .slot x =>
    let x := x.keepRelease s.drive.slots
    { s with drive := { s.drive with slots := insertBy (fun y => y.slot) x (s.drive.slots.filter (fun y => y.slot != x.slot)) } }
  | .free n => { s with drive := { s.drive with slots := s.drive.slots.filter (fun y => y.slot != n) } }
  | .writes n ws => modFast n (fun x => { x with queue := (x.queue ++ ws).take 16 }) s
  | .hold n => modFast n (fun x => { x with held := true }) s
  | .release n mode p => modFast n (fun x => { x with release := some (mode, p) }) s
  | .osc n action k a w => modFast n (fun x => { x with oscAction := action, oscN := k, oscA := a, oscW := w, osc := false, oscAt := [], oscSign := 0 }) s
  | .set h k mem =>
    let rest := s.drive.sets.filter (fun t => !(t.owner == h && t.set == k))
    { s with drive := { s.drive with sets := if mem.isEmpty then rest else rest ++ [{ owner := h, set := k, members := mem }] } }
  | .chan h what tick => driveChan h what tick s
  | .lum h x =>
    match x.num with
    | none => s
    | some k =>
      if s.drive.lums.any (fun l => l.handle == h) then
        { s with drive := { s.drive with lums := s.drive.lums.map (fun l => if l.handle == h then { l with cfg := x, num := k } else l) } }
      else { s with drive := { s.drive with lums := s.drive.lums ++ [{ handle := h, cfg := x, num := k }] } }
  | .clear fs => fs.foldl (fun s f => clearFault f s) s
  | .trace h cfg => { s with drive := { s.drive with traces := s.drive.traces.filter (fun r => r.handle != h) ++ [{ handle := h, cfg }] } }

/-- D10's logic restarts (R199, R208): fast slots from their owners' configuration, traces idle, gates low until the next
boundary, each RUNNING luminaire starting again. -/
def restartDrive (s : State) : State :=
  { s with drive := { s.drive with
      base := 0
      slots := (s.ord.loops.filter (fun x => x.cls == 0)).map (fun x => x.restarted.keepRelease s.drive.slots)
      strs := s.drive.strs.map (fun x => { seq := x.seq, cause := x.cause, mismatch := x.mismatch })
      lums := s.drive.lums.map (fun l => { l with running := false, start := if s.drive.running.contains l.handle then some (s.clerk.tick + 1) else none, rejoin := false, fallback := false, gLive := 65536 })
      traces := s.drive.traces.map (fun r => { handle := r.handle, cfg := r.cfg }) } }

/-- DRIVE_CONTROL_ARRIVAL (R194): the messages of the oldest tick on its way take effect. -/
def execDriveControlArrival (s : State) : Host.Outcome State Fault Refusal :=
  match s.drive.inbound with
  | [] => .next s
  | (_, ms) :: rest => .next (ms.foldl (fun s m => driveMsg m s) { s with drive := { s.drive with inbound := rest } })

/-- The luminaire leaves fallback (R209): kind 0x0B06. -/
def leaveFallback (l : LumRun) (s : State) : State :=
  if l.fallback then gbk 0x0B06 0xFF (le 4 l.handle.toNat) (modLumRun l.num (fun l => { l with fallback := false }) s) else s

/-- The record a luminaire starts from or rejoins (R208). -/
def leadRecord (s : State) (lead : Nat) : LevelRec := ((lanternOf s.ord lead).record).getD (baseRecord s.ord lead)

/-- A luminaire's boundary (R207 to R209). -/
def lumBoundary (l : LumRun) (s : State) : State :=
  let n := s.clerk.tick
  let r := leadRecord s l.cfg.lead
  if !vanaUnder s && (match l.start with | some t => decide (t ≤ n) | none => false) then
    modLumRun l.num (fun l => { l with running := true, start := none, level := r, held := b2n ((chanOf s.ord l.handle).any (fun (c : Channel) => c.state == .held || c.state == .faulted)) }) s
  else if !l.running || l.held == 2 && !l.rejoin then s
  else if l.rejoin then
    modLumRun l.num (fun l => { l with rejoin := false, held := 0, fbEntry := false, level := { (l.level.install r.t r.code) with queue := r.queue } }) (leaveFallback l (count 0x0E8 s))
  else
    let after := l.level.boundary n
    let ran := after.queue.length < l.level.queue.length
    let s := if ran && !l.fbEntry then leaveFallback l (count 0x0E8 s) else s
    modLumRun l.num (fun l => { l with level := if l.held == 1 then { after with queue := [] } else after, held := if l.held == 1 then 2 else l.held, fbEntry := l.fbEntry && !ran }) s

/-- The temperature of a luminaire's NTC (R217). -/
def lumTemp (l : LumRun) (ntc : List Nat) : Int := Config.ntcTemp l.cfg.r25 l.cfg.beta ((ntc[l.num]?).getD 0)

/-- DRIVE_TICK_MESSAGE (R207 to R209, R220): the boundary's tick message; the drive block samples every NTC and both bus
voltages and places one DRIVE_SAMPLE entry. -/
def execDriveTickMessage (ntc : List Nat) (vbus : List Int) (s : State) : Host.Outcome State Fault Refusal :=
  if driveGated s then .next s else
  let s := s.drive.lums.foldl (fun s l => lumBoundary l s) { s with drive := { s.drive with tick := s.clerk.tick, vbus := vbus } }
  let temp := fun k => match lumRun s k with | some l => if l.ntcCause == 0 then leS 4 (lumTemp l ntc) else le 4 0x80000000 | none => le 4 0x80000000
  let s := (List.range 24).foldl (fun s i => match s.drive.strs[i]? with | some x => if x.due then stringEntry i s else s | none => s) s
  let s := (List.range 8).foldl (fun s k => match lumRun s k with | some l => if l.ntcDue then ntcEntry k s else s | none => s) s
  .next (driveEntry 0x0701 (((List.range 8).map temp).flatten ++ leS 4 ((vbus[0]?).getD 0) ++ leS 4 ((vbus[1]?).getD 0)) s)

/-- DRIVE_ENTRY_RECEIVE (R207): a lead lantern's entry arrives in D10; one that arrives after its start boundary starts at
the next. -/
def execDriveEntryReceive (s : State) : Host.Outcome State Fault Refusal :=
  match s.drive.entries with
  | [] => .next s
  | (lead, start, target, code) :: rest =>
    let s := { s with drive := { s.drive with entries := rest } }
    let late := start ≤ s.clerk.tick
    let q : Queued := { start := max start (s.clerk.tick + 1), target, code }
    let mine := s.drive.lums.filter (fun l => l.cfg.lead == lead && l.running && l.held == 0)
    let s := mine.foldl (fun s l => modLumRun l.num (fun l => { l with level := { l.level with queue := [q] }, fbEntry := false }) s) s
    .next (if late then countN 0x0E9 mine.length s else s)

/-- LUMINAIRE_FALLBACK (R209): the timer reaches the delay; the fallback entry of the lead lantern is installed. -/
def execLuminaireFallback (luminaire : Nat) (s : State) : Host.Outcome State Fault Refusal :=
  match lumRun s luminaire with
  | some l =>
    if l.running && !l.fallback then
      let f := fallbackOf s.ord l.cfg.lead
      .next (gbk 0x0B06 0xFF (le 4 l.handle.toNat) (count 0x0EA (modLumRun luminaire (fun l => { l with fallback := true, fbEntry := true, level := { l.level with queue := [{ start := s.clerk.tick + 1, target := f.level, code := f.code }] } }) s)))
    else .next s
  | none => .next s

/-- The level of a luminaire now, between the P of the last boundary and that of the next (R207). -/
def lumLevel (s : State) (l : LumRun) : Nat :=
  let a : Int := l.level.p
  let b : Int := if l.held == 2 then a else l.level.advance.p
  (a + (b - a) * (min s.clerk.offset 250000 : Nat) / 250000).toNat

/-- The three string currents after a thermal sample (R210 to R212), for the next frame. -/
def setCurrents (k : Nat) (s : State) : State :=
  match lumRun s k with
  | none => s
  | some l =>
    let f := driveFractions l.cfg (lumLevel s l) l.temp
    let s := modLumRun k (fun l => { l with limited := f.2 }) s
    let s := if f.2 then count 0x0E6 s else s
    let s := if l.gLive < 65536 then count 0x0E7 s else s
    [0, 1, 2].foldl (fun s c =>
      let x := (((f.1[c]?).getD 0 : Nat) : Int) * l.gLive / 65536
      let x := if l.cfg.fitted c then x.toNat else 0
      let na := splitFraction x
      let rated := match l.cfg.strings[c]? with | some (some t) => t.rated | _ => 0
      modStr (3 * k + c) (fun y => { y with x, nextN := na.1, nextA := na.2, nextI := (rated * na.2 / 65536 : Nat) }) s) s

/-- What a string's sample says of OPEN and SHORT (R218 Table 4); `had` : there was on-time. -/
def stringChecks (i : Nat) (x : LoopSlot) (had : Bool) (s : State) : State :=
  let s := modStr i (fun y => { y with y := x.y, duty := x.u }) s
  if !had then count 0x0E4 s
  else
    match s.drive.strs[i]?, lumRun s (i / 3) with
    | some y, some l =>
      let vmin := match l.cfg.strings[i % 3]? with | some (some t) => t.vmin | _ => 0
      let open_ := x.satHi && decide (x.y < y.iSet / 10)
      let vb := (s.drive.vbus[l.cfg.bus]?).getD 0
      let near := decide (y.iSet * 9 ≤ x.y * 10) && decide (x.y * 10 ≤ y.iSet * 11)
      let short := vmin != 0 && decide (x.u * vb < (vmin : Int) * 65536) && near
      let o := if open_ then y.openRun + 1 else 0
      let h := if short then y.shortRun + 1 else 0
      let s := modStr i (fun y => { y with openRun := o, shortRun := h }) s
      if 100 ≤ o then latchString i 1 s else if 1000 ≤ h then latchString i 2 s else s
    | _, _ => s

/-- A thermal sample (R211, R218): g_live, NTC faults, and the currents that follow. -/
def thermalSample (k : Nat) (x : LoopSlot) (s : State) : State :=
  match lumRun s k with
  | none => s
  | some l =>
    let low := if x.y < -50 * 65536 then l.ntcLow + 1 else 0
    let high := if 175 * 65536 < x.y then l.ntcHigh + 1 else 0
    let s := modLumRun k (fun l => { l with temp := x.y, gLive := x.u, ntcLow := low, ntcHigh := high }) s
    let s := if 10 ≤ low then latchNtc k 6 s else if 10 ≤ high then latchNtc k 7 s else s
    setCurrents k s

/-- The owner's set-point of a slot of a LUMINAIRE channel (R206): a string's current set-point, or the derate curve. -/
def lumSetPoint (s : State) (ntc : List Nat) (x : LoopSlot) : Int :=
  match s.drive.lums.find? (fun l => l.handle == x.owner) with
  | none => 0
  | some l =>
    if x.member < 3 then ((s.drive.strs[3 * l.num + x.member]?).map (·.iSet)).getD 0
    else ((if l.ntcCause != 0 then ntcFactor l.cfg else derateCurve l.cfg (lumTemp l ntc) : Nat) : Int)

/-- An owner's slots run in D10: a LOOP channel from CHANNEL_START, a luminaire from its start. -/
def ownerRuns (s : State) (h : Handle) : Bool :=
  match s.drive.lums.find? (fun l => l.handle == h) with | some l => l.running | none => s.drive.running.contains h

/-- Count events given as sources and numbers. -/
def countPairs (l : List (Nat × Nat)) (s : State) : State := l.foldl (fun s x => if x.2 == 0 then s else countN x.1 x.2 s) s

/-- The detectors of fast slots that have fired (R200): event source 0x0C9 and, at most once a minute per slot, kind 0x0A05. -/
def fastFired (before fired : List LoopSlot) (s : State) : State :=
  fired.foldl (fun s x =>
    let s := count 0x0C9 s
    if (match x.oscRec with | some t => decide (t + 60000 ≤ s.uptime) | none => true) then
      gbk 0x0A05 0xFF (le 4 x.owner.toNat ++ le 1 x.member ++ le 1 x.oscAction) (modFast x.slot (fun x => { x with oscRec := some s.uptime }) s)
    else s) (countN 0x0C7 (newlyHeld before fired) s)

/-- The LOOP_RELEASEs that have taken effect in a fast sample are answered (R197). -/
def fastAnswered (before after : List LoopSlot) (s : State) : State :=
  before.foldl (fun s b => match b.release, after.find? (fun a => a.slot == b.slot) with
    | some (_, some p), some a => if a.release.isNone then answerAwaited p (le 8 0) s else s
    | _, _ => s) s

/-- The due slots of one owner take their sample (R183). -/
def fastOwner (sense : List (Option Int)) (ntc : List Nat) (vbus : List Int) (s : State) (h : Handle) : State :=
  let due := s.drive.slots.filter (fun x => x.owner == h && x.law != 0 && x.divider != 0 && s.drive.base % x.divider == 0)
  let env : LoopEnv := {
    src := fun sel =>
      if 1 ≤ sel && sel ≤ 0x18 then (sense[sel - 1]?).getD (some 0)
      else if 0x20 ≤ sel && sel ≤ 0x27 then some (match lumRun s (sel - 0x20) with | some l => lumTemp l ntc | none => Config.ntcTemp 0 0 ((ntc[sel - 0x20]?).getD 0))
      else if sel == 0x28 || sel == 0x29 then some ((vbus[sel - 0x28]?).getD 0)
      else some 0
    owner := lumSetPoint s ntc
    vbus := fun i => (vbus[i]?).getD 0 }
  let out := sampleOwner env due (s.drive.sets.filter (fun t => t.owner == h && due.any (fun x => t.members.contains x.member)))
  let s := { s with drive := { s.drive with slots := putSlots out.1 s.drive.slots, sets := putSets out.2.1 s.drive.sets } }
  let s := countN 0x0C0 due.length s
  let s := countPairs (sampleCounts due out.1) s
  let s := fastAnswered due out.1 s
  let s := fastFired due out.2.2 s
  match s.drive.lums.find? (fun l => l.handle == h) with
  | none => s
  | some l =>
    out.1.foldl (fun s x => if x.member < 3 then stringChecks (3 * l.num + x.member) x ((sense[3 * l.num + x.member]?).getD none).isSome s else thermalSample l.num x s) s

/-- FAST_SAMPLE (R183): one base instant of the loop engine. `sense` gives the mean current of each string over its on-time
since its slot's last sample (none: no on-time, R214), `ntc` the NTC resistances in Ω, `vbus` the bus voltages. -/
def execFastSample (sense : List (Option Int)) (ntc : List Nat) (vbus : List Int) (s : State) : Host.Outcome State Fault Refusal :=
  if driveGated s then .next s else
  let s := { s with drive := { s.drive with base := s.drive.base + 1, vbus := vbus } }
  let owners := ((s.drive.slots.map (·.owner)).eraseDups).filter (ownerRuns s)
  let due := (s.drive.slots.filter (fun x => owners.contains x.owner && x.law != 0 && x.divider != 0 && s.drive.base % x.divider == 0)).map (·.slot)
  let s := owners.foldl (fastOwner sense ntc vbus) s
  .next (traceSample due s)

/-- DIMMING_FRAME_START (R213): new pulse counts and set-points take effect; the trips of the frame end. -/
def execDimmingFrameStart (s : State) : Host.Outcome State Fault Refusal :=
  .next { s with drive := { s.drive with strs := s.drive.strs.map (fun x => { x with n := x.nextN, a := x.nextA, iSet := x.nextI, lastTrips := x.trips, trips := 0 }) } }

/-- A readback of the gate pin (R215, R218). -/
def readback (i : Nat) (commanded pin : Bool) (s : State) : State :=
  let bad := commanded != pin
  let first := ((s.drive.strs[i]?).map (fun x => !x.mismatch)).getD false
  let s := if bad then count 0x0EB (modStr i (fun x => { x with mismatch := true }) s) else s
  let s := if bad && first then gbk 0x0B07 0xFF (le 1 i) s else s
  let s := modStr i (fun x => if commanded then { x with lowRun := if pin then 0 else x.lowRun + 1 } else { x with highRun := if pin then x.highRun + 1 else 0 }) s
  match s.drive.strs[i]? with
  | some x => if 8 ≤ x.highRun then latchString i 4 s else if 8 ≤ x.lowRun then latchString i 5 s else s
  | none => s

/-- SWITCHING_CYCLE (R215 Table 3): a cycle of string `string` begins in a sub-period; `afterHigh` and `afterLow` are the
pin as read back 100 ns after each edge. -/
def execSwitchingCycle (string subPeriod : Nat) (afterHigh afterLow : Bool) (s : State) : Host.Outcome State Fault Refusal :=
  match s.drive.strs[string]?, lumRun s (string / 3) with
  | some x, some l =>
    let fsw := match l.cfg.strings[string % 3]? with | some (some t) => t.fsw | _ => 0
    let u := ((s.drive.slots.find? (fun y => y.owner == l.handle && y.member == string % 3)).map (·.u)).getD 0
    let units := if fsw == 0 then 0 else u.toNat * 1228800000 / (65536 * fsw)
    if !(l.running && l.cfg.fitted (string % 3) && x.cause == 0 && subPeriodOn x.n (subPeriod % 1024)) then
      .next (modStr string (fun x => { x with gate := false }) s)
    else if units ≤ 61 then .next (count 0x0E5 (modStr string (fun x => { x with gate := false, onTime := 0 }) s))
    else
      let s := modStr string (fun x => { x with gate := true, onTime := units }) s
      .next (readback string false afterLow (readback string true afterHigh s))
  | _, _ => .next s

/-- COMPARATOR_TRIP (R216, R218): the gate is low until the next cycle; 16 trips within one frame are OVERCURRENT. -/
def execComparatorTrip (string : Nat) (s : State) : Host.Outcome State Fault Refusal :=
  match s.drive.strs[string]? with
  | some x =>
    let s := count 0x0E0 (modStr string (fun x => { x with gate := false, trips := x.trips + 1 }) s)
    .next (if 16 ≤ x.trips + 1 then latchString string 3 s else s)
  | none => .next s

/-- DRIVE_STATUS: a snapshot of the drive block (R212). -/
def cmdDriveStatus (p : Packet) (s : State) : State × Ans :=
  let st := match chanOf s.ord p.handle with | some ch => stateCode ch.state | none => 0
  match s.drive.lums.find? (fun l => l.handle == p.handle) with
  | none => (s, { payload := le 8 (tickNow s) ++ le 1 0 ++ le 1 st ++ zeros 118 })
  | some l =>
    let str := fun c => (s.drive.strs[3 * l.num + c]?).getD {}
    let fl := sumBy (fun c => b2n ((str c).cause != 0) * 2 ^ c) (List.range 3) + 8 * b2n (l.ntcCause != 0) + 16 * b2n l.limited + 32 * b2n (decide (l.gLive < 65536)) + 64 * b2n (l.held != 0 || l.fallback)
    let item := fun c => let x := str c
      le 1 x.cause ++ zeros 1 ++ le 2 x.n ++ le 4 x.x ++ le 4 x.a ++ leS 4 x.iSet ++ leS 4 x.y ++ leS 4 x.duty ++ le 4 x.seq ++ le 2 x.lastTrips ++ zeros 2
    (s, { payload := le 8 (tickNow s) ++ le 1 l.num ++ le 1 st ++ le 2 fl ++ leS 4 l.temp ++ leS 4 l.gLive ++ le 4 (lumLevel s l) ++
            leS 4 ((s.drive.vbus[l.cfg.bus]?).getD 0) ++ zeros 4 ++ item 0 ++ item 1 ++ item 2 })

/-- LUMINAIRE_CONFIG: ordered; `ordLuminaireConfig` is its effect. -/
def execLuminaireConfig (p : Packet) (s : State) : Host.Outcome State Fault Refusal := .next (submitW 0x0701 p s)
/-- STRING_CONFIG: ordered; `ordStringConfig` is its effect. -/
def execStringConfig (p : Packet) (s : State) : Host.Outcome State Fault Refusal := .next (submitW 0x0702 p s)
/-- COLOUR_TABLE: ordered; `ordColourTable` is its effect. -/
def execColourTable (p : Packet) (s : State) : Host.Outcome State Fault Refusal := .next (submitW 0x0703 p s)
/-- DERATE_SET: ordered; `ordDerateSet` is its effect. -/
def execDerateSet (p : Packet) (s : State) : Host.Outcome State Fault Refusal := .next (submitW 0x0704 p s)
@[inherit_doc cmdDriveStatus] def execDriveStatus (p : Packet) (s : State) : Host.Outcome State Fault Refusal := .next (submit 0x0705 cmdDriveStatus p s)
/-- STRING_FAULT_CLEAR: ordered; `ordStringFaultClear` is its effect. -/
def execStringFaultClear (p : Packet) (s : State) : Host.Outcome State Fault Refusal := .next (submitW 0x0706 p s)

end Sys2Proof.Machine
end

