-- ==== Sys2Proof/Machine/Energy.lean ====
section
/-!
DEFINITION. Machine/Energy.lean: energy registers, interval records, the balance check and pulses (ch. 12).
-/
namespace Sys2Proof.Machine

/-! ### Registers (R243 to R245) -/

/-- Change the metering state of a circuit number. -/
def Calc.modMeter (k : Nat) (f : Meter → Meter) (c : Calc) : Calc :=
  { c with ord := { c.ord with metering := { c.ord.metering with meters := modAt c.ord.metering.meters k f } } }

/-- The metering state of a circuit number. -/
def meterOf (o : Ordered) (k : Nat) : Meter := (o.metering.meters[k]?).getD {}

/-- Accumulators added, quantity by quantity. -/
def addFive (a b : List Nat) : List Nat := List.zipWith (fun x y => (x + y) % 2 ^ 96) a b

/-- The whole-circuit accumulators: the sums of the phases' (R243). -/
def Meter.whole (m : Meter) : List Nat := m.phases.foldl addFive (List.replicate 5 0)

/-- The reported value of an accumulator: bits [79:16] (R243). -/
def reported (a : Nat) : Nat := bits a 16 64

/-- The reported whole-circuit registers. -/
def Meter.reported (m : Meter) : List Nat := m.whole.map Machine.reported

/-- The body of a kind-1 item (Table 7). -/
def Meter.registersBody (m : Meter) (phases : Nat) (holdup : Bool) : List Byte :=
  le 1 phases ++ le 1 (b2n holdup) ++ zeros 6 ++ (m.reported.map (le 8)).flatten ++
    ((m.phases.take phases).map (fun p => (p.map (fun a => le 8 (Machine.reported a))).flatten)).flatten

/-- An item of section 0x0006 with its head (R264). -/
def meterItem (tainted : Bool) (k kind : Nat) (body : List Byte) (c : Calc) : Calc :=
  c.item { section_ := 6, key := k, key2 := (c.res.items.filter (fun i : Item => i.section_ == 6 && i.key == k)).length + 1, tainted, bytes := le 1 kind ++ le 1 k ++ zeros 2 ++ le 4 body.length ++ body }

/-! ### Interval records (R246 to R248) -/

/-- A regular boundary falls at the start of the tick (R246). -/
def intervalBoundary (o : Ordered) (m : Meter) (n : Nat) : Bool :=
  n % 4 == 0 && (utcLabel o n % 86400 + 60 * m.align) % (60 * m.length : Nat) == 0 &&
    !(o.leap61 && unixOfTick n o.utc - 946684800 == o.leapEnd)

/-- The S0 input assigned to a circuit (R254). -/
def s0Input (o : Ordered) (k : Nat) : Option (Nat × PulseInCfg) :=
  (o.metering.ins.zipIdx.find? (fun x => x.1.enable && x.1.circuit == k)).map (fun x => (x.2, x.1))

/-- The lanterns placed on a circuit in the generation in force. -/
def lanternsOn (o : Ordered) (k : Nat) : List Nat :=
  (o.plan.plan.placements.filter (fun x => x.1 ≤ 8191 && plCircuit x.2 == k)).map (·.1)

/-- A record of a circuit number is kept: the 8,192 most recent (R249). -/
def keepRecord (seq : Nat) (b : List Byte) (l : List (Nat × List Byte)) : List (Nat × List Byte) := lastN 8192 (l ++ [(seq, b)])

/-- The 40 bytes of deltas of an interval. -/
def Meter.deltas (m : Meter) : List Int := List.zipWith (fun (a b : Nat) => (a : Int) - b) m.reported m.snapshot

/-- The open interval closes at a tick (R247, Table 1): its record, the waiting balance, and the new interval's start. -/
def Calc.closeInterval (tainted : Bool) (k : Nat) (short : Bool) (c : Calc) : Calc :=
  let m := meterOf c.ord k
  let n := c.tick
  let s0 := s0Input c.ord k
  let q := match s0 with | some (_, i) => i.quantity | none => 0
  let d := m.deltas
  let d0 := (d[0]?).getD 0
  let d1 := (d[1]?).getD 0
  let energy : Nat := match s0 with | some (_, i) => divOr (m.s0 * 1000000000) i.k | none => 0
  let diff : Int := match s0 with | some _ => (energy : Int) - (d[q]?).getD 0 | none => 0
  let missing := (n - m.start) - m.measured
  let reversal := d0 != 0 && d1 != 0
  let flags := b2n (0 < missing) + 2 * b2n short + 4 * b2n m.skip + 8 * b2n reversal + 16 * b2n m.cal + 32 * b2n m.holdup
  let body := le 4 m.seq ++ le 1 m.length ++ le 1 (match s0 with | some (i, _) => i | none => 0xFF) ++ le 2 flags ++ le 8 m.start ++ le 8 n ++ leS 8 m.utcStart ++
    le 4 m.measured ++ le 4 missing ++ (d.map (leS 8)).flatten ++ le 8 ((m.reported[0]?).getD 0) ++ le 8 ((m.reported[1]?).getD 0) ++ le 4 m.s0 ++ zeros 4 ++
    le 8 energy ++ leS 8 diff ++ zeros 8
  let w : WaitingBalance := { seq := m.seq, start := m.start, stop := n, net := d0 - d1, outage := decide (0 < missing), lanterns := lanternsOn c.ord k }
  let c := c.modMeter k (fun m => { m with intervals := keepRecord m.seq body m.intervals, seq := m.seq + 1, start := n, utcStart := utcLabel c.ord n, snapshot := m.reported, measured := 0, skip := false, cal := false, holdup := false, s0 := 0, waiting := m.waiting ++ [w] })
  let c := (c.count 0x114 1).stream 0x0802 (2 ^ k) body
  meterItem tainted k 2 body (if reversal then c.count 0x11B 1 else c)

/-- The first interval of a circuit number opens, or a channel that takes over closes the open one (R248). -/
def Calc.openMeter (k : Nat) (c : Calc) : Calc :=
  if (meterOf c.ord k).opened then c.closeInterval false k true
  else c.modMeter k (fun m => { m with opened := true, start := c.tick, utcStart := utcLabel c.ord c.tick, snapshot := m.reported, measured := 0, s0 := 0 })

/-- The CIRCUIT_TICK entry of a circuit in the waybill. -/
def circuitEntry (es : List Entry) (k : Nat) : Option (List Byte) :=
  es.findSome? (fun e => if e.kind == 0x0801 && e.cls == 4 then (match e.body with | .raw b => if fld b 0 1 == k then some b else none | _ => none) else none)

/-- The increments of a CIRCUIT_TICK entry, phase by phase (R244, Table 5 of ch. 11). -/
def entryIncrements (b : List Byte) : List (List Nat) :=
  (List.range (fld b 1 1)).map (fun p => (List.range 5).map (fun q => fld b (24 + 56 * p + 8 * q) 8))

/-- Phase accumulators with increments added. -/
def addPhases (ps inc : List (List Nat)) : List (List Nat) :=
  ps.zipIdx.map (fun x => addFive x.1 ((inc[x.2]?).getD (List.replicate 5 0)))

/-- The S0 pulses of an input in the waybill (R255). -/
def s0Pulses (es : List Entry) (i : Nat) : Nat :=
  sumBy (fun e => if e.kind == 0x0803 && e.cls == 4 then (match e.body with | .raw b => fld b (4 * i) 2 | _ => 0) else 0) es

/-- A circuit's METRO entries of the tick are read, once (R244, R255): increments, ticks measured, S0 pulses; a TICK_SKIP
entry marks the interval (Table 1). -/
def Calc.readMeter (k : Nat) (c : Calc) : Calc :=
  if (meterOf c.ord k).readTick == some c.tick then c
  else match circuitEntry c.entries k with
    | none => c
    | some b =>
      let gap := bit (fld b 2 2) 5
      let s0 := match s0Input c.ord k with | some (i, _) => s0Pulses c.entries i | none => 0
      c.modMeter k (fun m => { m with readTick := some c.tick, phases := addPhases m.phases (entryIncrements b), measured := m.measured + b2n (!gap), cal := m.cal || bit (fld b 2 2) 3, s0 := m.s0 + s0 })

/-- A HOLDUP entry sets the registers, the snapshot and the S0 count (R262); the counts and marks of the open interval stand
when it is the interval the entry names. -/
def Calc.readHoldup (k : Nat) (c : Calc) : Calc × Bool :=
  let hit := c.entries.findSome? (fun e => if e.kind == 0x0804 then (match e.body with | .raw b => if fld b 0 1 == k then some b else none | _ => none) else none)
  match hit with
  | none => (c, false)
  | some b =>
    let acc := fun p q => fld b (32 + 60 * (p + 1) + 12 * q) 12
    let start := fld b 16 8
    let c := c.modMeter k (fun m => { m with opened := true, seq := fld b 4 4, start, utcStart := utcLabel c.ord start, measured := if m.start == start then m.measured else 0, skip := m.skip && m.start == start, cal := m.cal && m.start == start, s0 := fld b 24 4, holdup := true, phases := (List.range 3).map (fun p => (List.range 5).map (acc p)), snapshot := (List.range 5).map (fun q => fld b (272 + 8 * q) 8) })
    ((c.count 0x11A 1).derive 0x0C16 0xFF (le 1 k ++ le 8 (fld b 8 8)), true)

/-! ### The balance check (R256 to R258) -/

/-- The lantern's energy at a tick from two consecutive readings (R256). -/
def energyAt (t : Nat) : List Reading → Option Nat
  | a :: b :: rest =>
    if a.tick ≤ t && t ≤ b.tick && a.energy ≤ b.energy then
      some (if b.tick == a.tick then a.energy else a.energy + (b.energy - a.energy) * (t - a.tick) / (b.tick - a.tick))
    else energyAt t (b :: rest)
  | _ => none

/-- A lantern's energy over an interval, when it is accounted (R256). -/
def intervalEnergy (o : Ordered) (w : WaitingBalance) (l : Nat) : Option Int :=
  let rs := lookD l [] o.metering.readings
  match energyAt w.start rs, energyAt w.stop rs with
  | some a, some b => some ((b : Int) - a)
  | _, _ => none

/-- A balance closes (R257, Table 5). -/
def Calc.closeBalance (tainted : Bool) (k : Nat) (w : WaitingBalance) (timeout : Bool) (c : Calc) : Calc :=
  let es := w.lanterns.filterMap (intervalEnergy c.ord w)
  let sum := es.foldl (· + ·) 0
  let residue := w.net - sum
  let ppt : Int := if w.net ≤ 0 then 0 else residue * 1000 / w.net
  let m := meterOf c.ord k
  let above := !timeout && !w.outage && decide (m.threshold ≤ ppt.natAbs)
  let body := le 4 w.seq ++ le 2 w.lanterns.length ++ le 2 es.length ++ le 8 w.start ++ le 8 w.stop ++ leS 8 w.net ++ leS 8 sum ++ leS 8 residue ++ leS 2 ppt ++
    le 2 (b2n above + 2 * b2n timeout + 4 * b2n w.outage) ++ zeros 4 ++ le 8 c.tick
  let run := if above then m.overRun + 1 else 0
  let c := c.modMeter k (fun m => { m with balances := keepRecord w.seq body m.balances, waiting := m.waiting.filter (fun x => x.seq != w.seq), overRun := run })
  let c := ((c.count 0x115 1).stream 0x0803 (2 ^ k) body)
  let c := if timeout then c.count 0x116 1 else c
  let c := if above then c.count 0x117 1 else c
  let c := if run == 2 then c.derive 0x0C13 0xFF (le 1 k ++ le 4 w.seq ++ leS 2 ppt) else c
  meterItem tainted k 3 body c

/-- The balances that close in the tick, oldest first (R257). -/
def Calc.balances (tainted : Bool) (k : Nat) (c : Calc) : Calc :=
  let m := meterOf c.ord k
  let c := if 96 < m.waiting.length then (match m.waiting.head? with | some w => c.closeBalance tainted k w true | none => c) else c
  (meterOf c.ord k).waiting.foldl (fun c w =>
    if w.lanterns.all (fun l => (intervalEnergy c.ord w l).isSome) then c.closeBalance tainted k w false
    else if w.stop + m.delay * 14400 ≤ c.tick then c.closeBalance tainted k w true
    else c) c

/-- A report frame's energy reading (R256), kept as long as the circuit's closing delay and interval length require. -/
def Calc.addReading (lantern tick energy : Nat) (c : Calc) : Calc :=
  let k := plCircuit ((placementOf c.ord lantern).getD [])
  let m := meterOf c.ord k
  let keep := m.delay * 14400 + m.length * 240
  let old := lookD lantern [] c.ord.metering.readings
  let all := old ++ [{ tick := tick, energy := energy }]
  let recent := all.filter (fun r => c.tick ≤ r.tick + keep)
  let before := (all.filter (fun r => r.tick + keep < c.tick)).getLast?
  { c with ord := { c.ord with metering := { c.ord.metering with readings := put lantern (before.toList ++ recent) c.ord.metering.readings } } }

/-- The channel that holds a circuit number is tainted: so are the items of its circuit. -/
def meterTaint (o : Ordered) (k : Nat) : Bool :=
  o.channels.any (fun ch => ch.tainted && (match ch.body with | .circuit c => c.num == some k | _ => false))

/-! ### Commands -/

/-- The circuit of a handle. -/
def circuitOf (o : Ordered) (h : Handle) : Option Circuit :=
  match chanOf o h with | some { body := .circuit l, .. } => some l | _ => none

/-- ENERGY_READ (R243), as of the latest released tick. -/
def cmdEnergyRead (p : Packet) (s : State) : State × Ans :=
  match chanOf s.ord p.handle, circuitOf s.ord p.handle with
  | some ch, some c =>
    if ch.state = .created || ch.state = .configured then (s, { status := .wrongState })
    else
      let m := meterOf s.rel (c.num.getD 0)
      let tainted := ((chanOf s.rel p.handle).map (·.tainted)).getD false || s.rel.devTaint.contains 2
      (s, { status := if tainted then .tainted else .ok, payload := le 8 s.relTick ++ m.registersBody c.phases.length false ++ le 4 m.seq ++ le 8 m.start ++ le 2 m.waiting.length ++ zeros 6 })
  | _, _ => (s, { status := .wrongState })

/-- INTERVAL_CONFIG (R246, R248). -/
def ordIntervalConfig : Handler := fun m p c =>
  let b := p.payload
  let l := fld b 0 1
  let a := fldS b 2 2
  match circuitOf c.ord p.handle with
  | none => (c, { status := .staleHandle })
  | some x =>
    if !([1, 5, 15, 30, 60].contains l) || a < -720 || 840 < a || fld b 4 2 == 0 || 24 < fld b 4 2 || fld b 6 2 < 10 || 1000 < fld b 6 2 then (c, { status := .badParam })
    else match x.num with
      | none => (c.derive 0x0C10 m (le 1 0xFF ++ le 1 l ++ leS 2 a), {})
      | some k =>
        let old := meterOf c.ord k
        let tainted := ((chanOf c.ord p.handle).map (·.tainted)).getD false
        let c := if old.opened && (old.length != l || old.align != a) then c.closeInterval tainted k true else c
        let c := c.modMeter k (fun y => { y with length := l, align := a, delay := fld b 4 2, threshold := fld b 6 2 })
        (c.derive 0x0C10 m (le 1 k ++ le 1 l ++ leS 2 a), {})

/-- INTERVAL_READ (R249). -/
def cmdIntervalRead (p : Packet) (s : State) : State × Ans :=
  let b := p.payload
  let kind := fld b 1 1
  let n := fld b 2 1
  let first := fld b 4 4
  let k := if p.handle == deviceHandle then fld b 0 1 else ((circuitOf s.ord p.handle).bind (·.num)).getD 0
  if (p.handle == deviceHandle && 7 < fld b 0 1) || !(kind == 2 || kind == 3) || n == 0 || 30 < n then (s, { status := .badParam })
  else
    let m := meterOf s.rel k
    let all := if kind == 2 then m.intervals else m.balances
    let got := (all.filter (fun r => first ≤ r.1)).take n
    if (all.find? (fun r => r.1 == first)).isNone then (s, { status := .range })
    else match (got.map (fun r => if kind == 2 then LogPart.interval k r.1 else .balance k r.1)).find? s.store.logBad.contains with
      | some x => (logReadFails x s, { status := .storeError })
      | none => (s, { payload := le 1 got.length ++ zeros 7 ++ (got.map (·.2)).flatten })

/-- BALANCE_READ (R257), as of the latest released tick. -/
def cmdBalanceRead (p : Packet) (s : State) : State × Ans :=
  let k := ((circuitOf s.rel p.handle).bind (·.num)).getD 8
  let m := meterOf s.rel k
  let tainted := ((chanOf s.rel p.handle).map (·.tainted)).getD false || s.rel.devTaint.contains 2
  let newest := match m.balances.getLast? with | some b => b.2 | none => zeros 64
  let w := fun x : WaitingBalance => le 4 x.seq ++ le 2 (x.lanterns.filter (fun l => (intervalEnergy s.rel x l).isSome)).length ++ zeros 2
  (s, { status := if tainted then .tainted else .ok, payload := le 8 s.relTick ++ newest ++ ((m.waiting.take 96).map w).flatten })

/-- A live channel holds a circuit number. -/
def circuitLive (o : Ordered) (k : Nat) : Bool :=
  o.channels.any (fun ch => match ch.body with | .circuit c => c.num == some k | _ => false)

/-- PULSE_OUT_CONFIG (R250). -/
def ordPulseOutConfig : Handler := fun m p c =>
  let b := p.payload
  let o := fld b 0 1
  let x : PulseOutCfg := { enable := fld b 1 1 == 1, mask := fld b 2 1, quantity := fld b 3 1, k := fld b 4 4, width := fld b 8 2 }
  if 3 < o || 1 < fld b 1 1 || 4 < x.quantity || x.k == 0 || 100000 < x.k || x.width < 30 || 200 < x.width then (c, { status := .badParam })
  else if (List.range 8).any (fun k => bit x.mask k && !circuitLive c.ord k) then (c, { status := .range })
  else
    let c := { c with ord := { c.ord with metering := { c.ord.metering with outs := setAt c.ord.metering.outs o x } } }
    ((c.toMetro (.pulseOut o x)).derive 0x0C11 m (le 1 o ++ le 1 x.mask ++ le 1 x.quantity ++ le 4 x.k), {})

/-- PULSE_IN_CONFIG (R254). -/
def ordPulseInConfig : Handler := fun m p c =>
  let b := p.payload
  let i := fld b 0 1
  let x : PulseInCfg := { enable := fld b 1 1 == 1, circuit := fld b 2 1, quantity := fld b 3 1, k := fld b 4 4, debounce := fld b 8 1, width := fld b 9 1 }
  if 3 < i || 1 < fld b 1 1 || (7 < x.circuit && x.circuit != 0xFF) || 4 < x.quantity || x.k == 0 || 100000 < x.k || x.debounce == 0 || 20 < x.debounce || x.width < 10 || 30 < x.width then (c, { status := .badParam })
  else if x.enable && x.circuit != 0xFF && c.ord.metering.ins.zipIdx.any (fun y => y.2 != i && y.1.enable && y.1.circuit == x.circuit) then (c, { status := .range })
  else
    let c := { c with ord := { c.ord with metering := { c.ord.metering with ins := setAt c.ord.metering.ins i x } } }
    ((c.toMetro (.pulseIn i x)).derive 0x0C12 m (le 1 i ++ le 1 x.circuit ++ le 4 x.k), {})

/-- HOLDUP_RESIDUE_READ (R260): newest first. -/
def cmdHoldupResidueRead (_ : Packet) (s : State) : State × Ans :=
  let item := fun r : SaveRec =>
    let live := r.residueValid && r.residue.any (fun x => x.1 != 0 || x.2 != 0)
    le 8 r.instant ++ le 8 r.freeze ++ le 1 (b2n r.residueValid + 2 * b2n live + 4 * b2n r.cancelled) ++ zeros 7 ++
      ((List.range 8).map (fun k => let x := (r.residue[k]?).getD (0, 0); le 8 x.1 ++ le 8 x.2)).flatten
  let rs := s.metro.residues.take 16
  (s, { payload := le 1 rs.length ++ zeros 7 ++ (rs.map item).flatten })

/-- INTERVAL_CLOSE (R247, R248): the open interval of a circuit number closes at a boundary in the open tick. -/
def execIntervalClose (circuit : Nat) (s : State) : Host.Outcome State Fault Refusal :=
  let m := meterOf s.ord circuit
  if circuit < 8 && m.opened && m.start < s.clerk.tick && intervalBoundary s.ord m s.clerk.tick then
    .next (openCalc (fun c => (c.readMeter circuit).closeInterval (meterTaint s.ord circuit) circuit false) s)
  else .next s

/-- BALANCE_CLOSE (R257): the waiting balances of a circuit number whose lanterns are accounted, or whose delay has
passed, close. -/
def execBalanceClose (circuit : Nat) (s : State) : Host.Outcome State Fault Refusal :=
  if circuit < 8 then .next (openCalc (fun c => c.balances (meterTaint s.ord circuit) circuit) s) else .next s

@[inherit_doc cmdEnergyRead] def execEnergyRead (p : Packet) (s : State) : Host.Outcome State Fault Refusal := .next (submit 0x0820 cmdEnergyRead p s)
/-- INTERVAL_CONFIG: ordered; `ordIntervalConfig` is its effect. -/
def execIntervalConfig (p : Packet) (s : State) : Host.Outcome State Fault Refusal := .next (submitW 0x0821 p s)
@[inherit_doc cmdIntervalRead] def execIntervalRead (p : Packet) (s : State) : Host.Outcome State Fault Refusal := .next (submit 0x0822 cmdIntervalRead p s)
/-- PULSE_OUT_CONFIG: ordered; `ordPulseOutConfig` is its effect. -/
def execPulseOutConfig (p : Packet) (s : State) : Host.Outcome State Fault Refusal := .next (submitW 0x0823 p s)
/-- PULSE_IN_CONFIG: ordered; `ordPulseInConfig` is its effect. -/
def execPulseInConfig (p : Packet) (s : State) : Host.Outcome State Fault Refusal := .next (submitW 0x0824 p s)
@[inherit_doc cmdBalanceRead] def execBalanceRead (p : Packet) (s : State) : Host.Outcome State Fault Refusal := .next (submit 0x0825 cmdBalanceRead p s)
@[inherit_doc cmdHoldupResidueRead] def execHoldupResidueRead (p : Packet) (s : State) : Host.Outcome State Fault Refusal := .next (submit 0x0826 cmdHoldupResidueRead p s)

/-! ### Pulses on the wire (R251 to R253) -/

/-- Change a pulse output or input of D9. -/
def modOut (o : Nat) (f : PulseOut → PulseOut) (s : State) : State := { s with metro := { s.metro with outs := modAt s.metro.outs o f } }
@[inherit_doc modOut] def modIn (i : Nat) (f : PulseIn → PulseIn) (s : State) : State := { s with metro := { s.metro with ins := modAt s.metro.ins i f } }

/-- PULSE_OUT_EDGE (R251): the leading edge due 30 ms after a crossing, or from the backlog; a crossing whose edge would
break the pulse times joins the backlog. -/
def execPulseOutEdge (output : Nat) (s : State) : Host.Outcome State Fault Refusal :=
  match s.metro.outs[output]? with
  | none => .next s
  | some o =>
    if !o.cfg.enable then .next s
    else if o.active || 0 < o.backlog then
      let s := if o.due.isEmpty then s else count 0x111 (modOut output (fun o => { o with due := o.due.drop 1, backlog := o.backlog + 1 }) s)
      if o.active then .next s
      else .next (count 0x110 (modOut output (fun o => { o with backlog := o.backlog - 1, active := true, aged := o.aged && o.backlog != 1 }) s))
    else if o.due.isEmpty then .next s
    else .next (count 0x110 (modOut output (fun o => { o with due := o.due.drop 1, active := true }) s))

/-- PULSE_OUT_END (R251): the pulse has lasted its width. -/
def execPulseOutEnd (output : Nat) (s : State) : Host.Outcome State Fault Refusal := .next (modOut output (fun o => { o with active := false }) s)

/-- PULSE_BACKLOG_AGED (R251): a backlog above 0 for 60 s raises the METER alert; kind 0x0C17. -/
def execPulseBacklogAged (output : Nat) (s : State) : Host.Outcome State Fault Refusal :=
  match s.metro.outs[output]? with
  | some o => if 0 < o.backlog && !o.aged then .next (gbk 0x0C17 0xFF (le 1 output ++ le 4 o.backlog) (modOut output (fun o => { o with aged := true }) s)) else .next s
  | none => .next s

/-- PULSE_IN_LEVEL_ACCEPT (R253): a debounced level is accepted; an inactive level after an active one held for at least W
counts a pulse, a shorter one is rejected. -/
def execPulseInLevelAccept (input : Nat) (level : Bool) (heldMs : Nat) (s : State) : Host.Outcome State Fault Refusal :=
  match s.metro.ins[input]? with
  | none => .next s
  | some i =>
    if !i.cfg.enable || i.active == level then .next s
    else if level then .next (modIn input (fun i => { i with active := true }) s)
    else if i.cfg.width ≤ heldMs then .next (count 0x112 (modIn input (fun i => { i with active := false, pulses := i.pulses + 1 }) s))
    else .next (count 0x113 (modIn input (fun i => { i with active := false, rejected := i.rejected + 1 }) s))

end Sys2Proof.Machine
end

