-- ==== Sys2Proof/Machine/Radio.lean ====
section
/-!
DEFINITION. Machine/Radio.lean: radio configuration, slot plans, hopping, air time and the regulatory accounts (ch. 13), as the
waybills make them.
-/
namespace Sys2Proof.Machine

/-! ### Configuration in force (R278, R481) -/

/-- What stands for a radio that no RADIO_CONFIG has configured: the defaults of Table 10, at its floor (R481). -/
def defaultCfg : RadioCfg := { on := false, family := 1, rate := 2, option := 0, flags := 8, preamble := 8, level := 5, guard := 500, pan := 0xFFFF, key := 0 }

/-- The default slot plan of the ordering code (SLOT_PLAN_SET). -/
def defaultPlan : SlotPlan :=
  let leg := List.replicate 8 2 ++ (if Config.isN1 then List.replicate 7 1 else List.replicate 5 1 ++ [0, 0])
  { field := if Config.isN1 then 2 else 1, kinds := leg ++ leg ++ leg ++ leg }

/-- The default channel plan of the ordering code (Table 11). -/
def defaultHop : HopPlan :=
  let n := if Config.isN1 then 64 else 32
  { f0 := if Config.isN1 then 902400 else 863200, spacing := 400, phases := [0, n / 4, n / 2, 3 * n / 4]
    limit := if Config.isN1 then 400 else 10000, window := if Config.isN1 then 20 else 3600, channels := List.range n }

/-- A pending change has taken effect at a tick (R278). -/
def atTick {α : Type} (cur : Option α) (next : Option (Nat × α)) (tick : Nat) : Option α :=
  match next with
  | some (m, x) => if m ≤ tick then some x else cur
  | none => cur

/-- A radio's ordered state. -/
def radioOrd (o : Ordered) (r : Nat) : RadioOrd := (o.air.radios[r]?).getD {}

/-- The configuration of a radio in force in a tick; none: unconfigured (R481). -/
def cfgAt? (o : Ordered) (r tick : Nat) : Option RadioCfg := atTick (radioOrd o r).cfg (radioOrd o r).nextCfg tick
@[inherit_doc cfgAt?] def cfgAt (o : Ordered) (r tick : Nat) : RadioCfg := (cfgAt? o r tick).getD defaultCfg

/-- The slot plan of a radio in force in a tick. -/
def planAt (o : Ordered) (r tick : Nat) : SlotPlan := (atTick (radioOrd o r).plan (radioOrd o r).nextPlan tick).getD defaultPlan

/-- The channel plan in force in a tick. -/
def hopAt (o : Ordered) (tick : Nat) : HopPlan := (atTick o.air.hop o.air.nextHop tick).getD defaultHop

/-- The kind of a slot in a tick: Table 4 codes for slots 3 to 17 (R271). -/
def slotKind (o : Ordered) (r tick slot : Nat) : Nat := ((planAt o r tick).kinds[15 * (tick % 4) + (slot - 3)]?).getD 0

/-- The channel a radio uses in a tick (R277). -/
def channelAt (o : Ordered) (r tick : Nat) : Nat :=
  let h := hopAt o tick
  (h.channels[(tick + (h.phases[r]?).getD 0) % max 1 h.channels.length]?).getD 0

/-! ### Air time and frame sizes (R267, R268, R272, R273) -/

/-- Octets per thirds of a µs: the air time of one octet at an MR-FSK rate. -/
def octetTime (rate : Nat) : Nat := ([480, 240, 160, 120][rate]?).getD 160

/-- A(P) in thirds of a µs (R268). -/
def airTime (c : RadioCfg) (p : Nat) : Nat :=
  if c.family == 1 && !bit c.flags 0 then (c.preamble + 4 + p) * octetTime c.rate
  else Config.airTime c.family c.rate c.option c.flags c.preamble p

/-- The largest PSDU whose air time and `extra` fit a window of that many µs; 0: none (R272). -/
def largestFit (c : RadioCfg) (window extra : Nat) : Nat :=
  ((List.range 2048).reverse.find? (fun p => decide (airTime c p + extra ≤ 3 * window))).getD 0

/-- The PSDU of the Enh-Ack (Table 6). -/
def ackOctets (c : RadioCfg) : Nat := if c.level == 6 then 25 else 21

/-- The maximum PSDU of a slot kind: 0 beacon and field frame slots, 1 data, 2 mini-slot, 3 bulk (R272). -/
def maxPsdu (c : RadioCfg) (kind : Nat) : Nat :=
  match kind with
  | 1 => largestFit c 12000 (3000 + airTime c (ackOctets c))
  | 2 => largestFit c 2625 0
  | _ => largestFit c 12000 0

/-- Entries per field frame (R272). -/
def entriesPer (c : RadioCfg) : Nat := (min (maxPsdu c 0) 780 - 20) / 4

/-- The budget E_r of a leg (R282). -/
def fieldBudget (o : Ordered) (leg r : Nat) : Nat := (planAt o r leg).field * entriesPer (cfgAt o r leg)

/-- Every kind the plan uses is usable (R273). -/
def kindsOk (c : RadioCfg) (p : SlotPlan) : Bool :=
  60 ≤ maxPsdu c 0 && 24 ≤ min (maxPsdu c 0) 780 && (!p.kinds.contains 1 || 64 ≤ maxPsdu c 1) && (!p.kinds.contains 2 || 28 ≤ maxPsdu c 2)

/-- The occupied width of a mode, kHz (Tables 1 and 2). -/
def occupied (c : RadioCfg) : Nat :=
  if c.family == 1 then (if c.rate == 0 then 200 else 400) else ([0, 1200, 800, 400, 200][c.option]?).getD 0

/-- The option and MCS stand in Table 2. -/
def ofdmOk (option mcs : Nat) : Bool :=
  match option with
  | 1 => mcs ≤ 3 | 2 => mcs ≤ 5 | 3 => 1 ≤ mcs && mcs ≤ 6 | 4 => 2 ≤ mcs && mcs ≤ 6 | _ => false

/-! ### Hopping and admissibility (R277, R280) -/

/-- The channel plan keeps the radios apart and within the band (R277). -/
def hopOk (h : HopPlan) (cs : List RadioCfg) : Bool :=
  let n := h.channels.length
  let chan := fun i r => (h.channels[(i + (h.phases[r]?).getD 0) % max 1 n]?).getD 0
  let apart := fun a b : Nat => 2 ≤ max a b - min a b
  let pairs := [(0, 1), (0, 2), (0, 3), (1, 2), (1, 3), (2, 3)]
  let lo := if Config.isN1 then 902000 else 863000
  let hi := if Config.isN1 then 928000 else 876000
  (List.range n).all (fun i => pairs.all (fun x => apart (chan i x.1) (chan i x.2))) &&
    h.channels.all (fun x => cs.all (fun c => lo + occupied c / 2 ≤ h.f0 + h.spacing * x && h.f0 + h.spacing * x + occupied c / 2 ≤ hi))

/-- The fixed time F of a leg, thirds of a µs (R280). -/
def fixedTime (c : RadioCfg) (p : SlotPlan) (leg : Nat) : Nat :=
  if !c.on then 0
  else
    let kinds := (p.kinds.drop (15 * leg)).take 15
    airTime c 60 + p.field * airTime c (20 + 4 * entriesPer c) + (kinds.filter (· == 1)).length * airTime c (ackOctets c) + (kinds.filter (· == 3)).length * 36000

/-- F summed over the four legs, and the largest. -/
def fixedSum (c : RadioCfg) (p : SlotPlan) : Nat := sumBy (fixedTime c p) (List.range 4)
@[inherit_doc fixedSum] def fixedMax (c : RadioCfg) (p : SlotPlan) : Nat := (List.range 4).foldl (fun m l => max m (fixedTime c p l)) 0

/-- The fixed dwell of a channel per W, thirds of a µs (R280, SPT-9640-N1). -/
def fixedDwell (h : HopPlan) (cs : List RadioCfg) (ps : List SlotPlan) : Nat :=
  let n := max 1 h.channels.length
  (4 * h.window + n - 1) / n * sumBy (fun x => fixedMax x.1 x.2) (cs.zip ps)

/-- The limit of an account over W, thirds of a µs (Table 8). -/
def accountLimit (h : HopPlan) : Nat := if Config.isN1 then 3000 * h.limit else 30 * h.limit * h.window

/-- The plan is admissible (R280). -/
def admissible (h : HopPlan) (cs : List RadioCfg) (ps : List SlotPlan) : Bool :=
  if Config.isN1 then decide (fixedDwell h cs ps ≤ accountLimit h)
  else (cs.zip ps).all (fun x => decide (fixedSum x.1 x.2 * h.window ≤ accountLimit h))

/-- The fixed share of a radio as SLOT_PLAN_SET answers it. -/
def fixedShare (h : HopPlan) (cs : List RadioCfg) (ps : List SlotPlan) (r : Nat) : Nat :=
  if Config.isN1 then fixedDwell h cs ps / 3000
  else fixedSum ((cs[r]?).getD defaultCfg) ((ps[r]?).getD defaultPlan) / 30

/-- Configurations of all radios in force in a tick. -/
def cfgsAt (o : Ordered) (tick : Nat) : List RadioCfg := (List.range 4).map (fun r => cfgAt o r tick)
@[inherit_doc cfgsAt] def plansAt (o : Ordered) (tick : Nat) : List SlotPlan := (List.range 4).map (fun r => planAt o r tick)

/-- A whole configuration passes R273, R277 and R280. -/
def airConfigOk (h : HopPlan) (cs : List RadioCfg) (ps : List SlotPlan) : Bool :=
  (cs.zip ps).all (fun x => kindsOk x.1 x.2) && hopOk h cs && admissible h cs ps

/-! ### Change instants (R278) -/

/-- The first multiple of 4 at or above. -/
def fourUp (m : Nat) : Nat := (m + 3) / 4 * 4

/-- The change instant of a command ordered in tick `n`, among the pending changes that concern it. -/
def changeInstant (n : Nat) (pending : List Nat) : Nat :=
  (sortBy id pending).foldl (fun m p => if p < m && m < p + 40 then fourUp (p + 40) else m) (fourUp (n + 40))

/-- Pending instants after the tick of the computation. -/
def pendingAt (o : Ordered) (tick : Nat) (cfg plan : List Nat) (hop : Bool) : List Nat :=
  (cfg.filterMap (fun r => (radioOrd o r).nextCfg.map (·.1)) ++ plan.filterMap (fun r => (radioOrd o r).nextPlan.map (·.1)) ++
    (if hop then (o.air.nextHop.map (·.1)).toList else [])).filter (fun m => tick < m)

/-- Change a radio's ordered state. -/
def Calc.modRadio (r : Nat) (f : RadioOrd → RadioOrd) (c : Calc) : Calc :=
  { c with ord := { c.ord with air := { c.ord.air with radios := modAt c.ord.air.radios r f } } }

/-- A pending change whose instant has come stands in force before another replaces it. -/
def RadioOrd.settle (tick : Nat) (x : RadioOrd) : RadioOrd :=
  let x := match x.nextCfg with | some (m, y) => if m ≤ tick then { x with cfg := some y, nextCfg := none } else x | none => x
  match x.nextPlan with | some (m, y) => if m ≤ tick then { x with plan := some y, nextPlan := none } else x | none => x

@[inherit_doc RadioOrd.settle] def AirOrd.settle (tick : Nat) (a : AirOrd) : AirOrd :=
  let a := { a with radios := a.radios.map (RadioOrd.settle tick) }
  match a.nextHop with | some (m, y) => if m ≤ tick then { a with hop := some y, nextHop := none } else a | none => a

/-! ### Commands -/

/-- A key slot as a configuration names it for a usage bit: empty or of another usage, or BAD_SLOT (R367 to R370). -/
def keyStatus (keys : List KeySlot) (slot usage : Nat) : Option Status :=
  match keys[slot]? with
  | none => some .badParam
  | some k => if k.bad then some .badSlot else if k.attr == 0 || !bit k.attr usage then some .notPermitted else none

/-- RADIO_CONFIG (Table 10). -/
def ordRadioConfig : Handler := fun m p c =>
  let b := p.payload
  let r := fld b 0 1
  let x : RadioCfg := { on := fld b 1 1 == 1, family := fld b 2 1, rate := fld b 3 1, option := fld b 4 1, flags := fld b 5 1, preamble := fld b 6 1, level := fld b 7 1, guard := fld b 8 2, pan := fld b 10 2, key := fld b 12 1 }
  let bad := 3 < r || 1 < fld b 1 1 || (x.level != 5 && x.level != 6) || x.guard < 100 || 2000 < x.guard || x.pan == 0xFFFF || 63 < x.key || 15 < x.flags ||
    !(if x.family == 1 then x.rate ≤ 3 && x.option == 0 && 4 ≤ x.preamble && x.preamble ≤ 32 else x.family == 2 && ofdmOk x.option x.rate && x.preamble == 0)
  if bad then (c, { status := .badParam })
  else match keyStatus c.keys x.key 0 with
    | some st => (c, { status := st })
    | none =>
      let inst := changeInstant c.tick (pendingAt c.ord c.tick [] [r] true)
      let cs := (cfgsAt c.ord inst).set r x
      if !airConfigOk (hopAt c.ord inst) cs (plansAt c.ord inst) then (c, { status := .range })
      else
        let old := cfgAt? c.ord r c.tick
        let c := c.modRadio r (fun y => { y.settle c.tick with nextCfg := some (inst, x) })
        let c := if (old.map (·.key)) == some x.key then c else { c with res := { c.res with vault := c.res.vault ++ [.deriveForSlot x.key] } }
        (c.derive 0x0D01 m (le 1 r ++ le 1 x.family ++ le 1 x.rate ++ le 1 x.option ++ le 1 x.level ++ le 8 inst), {})

/-- A new slot plan of a radio voids the assignments sent ahead of the one it replaces (R278, R305). -/
def Calc.dropAhead (r : Nat) (c : Calc) : Calc :=
  let stale := fun (y : Nat × List Assign) => c.tick < y.1 && y.2.all (fun a => a.radio == r)
  { c with ord := { c.ord with air := { c.ord.air with partners := c.ord.air.partners.map (fun (x : Nat × Partner) => (x.1, { x.2 with next := x.2.next.filter (fun y => !stale y) })) } } }

/-- SLOT_PLAN_SET. -/
def ordSlotPlanSet : Handler := fun m p c =>
  let b := p.payload
  let r := fld b 0 1
  let x : SlotPlan := { field := fld b 1 1, kinds := (List.range 60).map (fun i => fld b (4 + i) 1) }
  if 3 < r || x.field == 0 || 2 < x.field || x.kinds.any (fun k => 3 < k) then (c, { status := .badParam })
  else
    let inst := changeInstant c.tick (pendingAt c.ord c.tick [r] [] true)
    let cs := cfgsAt c.ord inst
    let ps := (plansAt c.ord inst).set r x
    let h := hopAt c.ord inst
    if !airConfigOk h cs ps then (c, { status := .range })
    else
      let n := fun k => (x.kinds.filter (· == k)).length
      let c := c.dropAhead r
      let c := c.modRadio r (fun y => { y.settle c.tick with nextPlan := some (inst, x) })
      (c.derive 0x0D02 m (le 1 r ++ le 1 x.field ++ le 1 (n 1) ++ le 1 (n 2) ++ le 8 inst),
        { payload := le 4 (fixedShare h cs ps r) ++ le 2 (entriesPer ((cs[r]?).getD defaultCfg)) ++ zeros 2 })

/-- The elements of a list are distinct. -/
def distinct : List Nat → Bool
  | [] => true
  | x :: xs => !xs.contains x && distinct xs

/-- HOP_SET (Table 11). -/
def ordHopSet : Handler := fun m p c =>
  let b := p.payload
  let n := fld b 6 1
  let x : HopPlan := { f0 := fld b 0 4, spacing := fld b 4 2, phases := (List.range 4).map (fun i => fld b (8 + i) 1), limit := fld b 12 4, window := fld b 16 2, channels := (List.range n).map (fun i => fld b (20 + i) 1) }
  let most := if Config.isN1 then x.window * 1000 else 100000
  if x.spacing < 100 || 2000 < x.spacing || n < 2 || 64 < n || x.window == 0 || 3600 < x.window || x.limit == 0 || most < x.limit ||
      x.phases.any (fun f => n ≤ f) || !distinct x.phases || !distinct x.channels then (c, { status := .badParam })
  else
    let inst := changeInstant c.tick (pendingAt c.ord c.tick [0, 1, 2, 3] [0, 1, 2, 3] false)
    let cs := cfgsAt c.ord inst
    let ps := plansAt c.ord inst
    if !airConfigOk x cs ps then (c, { status := .range })
    else
      let a := c.ord.air.settle c.tick
      let c := { c with ord := { c.ord with air := { a with nextHop := some (inst, x) } } }
      let worst := (List.range 4).foldl (fun w r => max w (fixedShare x cs ps r)) 0
      (c.derive 0x0D03 m (le 1 n ++ le 2 x.window ++ le 4 x.limit ++ le 8 inst), { payload := le 4 worst ++ zeros 4 })

/-- TX_POWER_SET (R285): the powers go out with the tick's results. -/
def ordTxPowerSet : Handler := fun m p c =>
  let b := p.payload
  let r := fld b 0 1
  let x := fldS b 2 1
  let y := fldS b 3 1
  let most : Int := if Config.isN1 then 54 else 40
  if 3 < r || x < -20 || most < x || y < -20 || most < y then (c, { status := .badParam })
  else
    let c := c.modRadio r (fun z => { z with bcast := x, ucast := y })
    let c := { c with res := { c.res with powers := c.res.powers ++ [(r, x, y)] } }
    (c.derive 0x0D04 m (le 1 r ++ leS 1 x ++ leS 1 y), {})

/-! ### What the air sequencers hold -/

/-- VRF is under its threshold (R444). -/
def vrfUnder (s : State) : Bool := bit s.supply.under 3

/-- A radio's air sequencer. -/
def seqOf (s : State) (r : Nat) : Sequencer := (s.air.radios[r]?).getD {}

/-- Change a radio's air sequencer. -/
def modSeq (r : Nat) (f : Sequencer → Sequencer) (s : State) : State := { s with air := { s.air with radios := modAt s.air.radios r f } }

/-- The state code of a radio (RADIO_STATE). -/
def radioState (s : State) (r : Nat) : Nat :=
  let q := seqOf s r
  if q.restarting then 3 else if q.failed then 2 else if (cfgAt s.ord r s.clerk.tick).on then 1 else 0

/-- A radio is on, failed neither nor restarting, and this module transmits (R266, R286, R394). -/
def transmitting (s : State) (r : Nat) : Bool := radioState s r == 1 && s.clerk.running && s.mode.role != 2

/-- A power after thermal derating (R285). -/
def derated (s : State) (r : Nat) (x : Int) : Int :=
  let d := (seqOf s r).derating
  if d == 0 then x else max (-20) (min x ((if Config.isN1 then 54 else 40) - (d : Int)))

/-- The instant of a slot's start, µs of TB_M (R271). -/
def slotStartUs (tick slot : Nat) : Nat := tick * 250000 + slot * 12500

/-- Transmissions that lie in the window that ends at an instant. -/
def inWindow (h : HopPlan) (now : Nat) (l : List AirTx) : List AirTx := l.filter (fun x => now < x.start + h.window * 1000000)

/-- The transmissions of an account: of the radio, or of the channel over all radios (Table 8). -/
def accountUse (s : State) (r channel now : Nat) : List AirTx :=
  let h := hopAt s.ord s.clerk.tick
  if Config.isN1 then inWindow h now ((s.air.radios.map (·.used)).flatten.filter (fun x => x.channel == channel)) else inWindow h now (seqOf s r).used

/-- The fixed use the plan makes of an account in W (R279, R280). -/
def plannedUse (s : State) (r : Nat) : Nat :=
  let n := s.clerk.tick
  let h := hopAt s.ord n
  if Config.isN1 then fixedDwell h (cfgsAt s.ord n) (plansAt s.ord n) else fixedSum (cfgAt s.ord r n) (planAt s.ord r n) * h.window

/-- What is left of the variable budget of an account. -/
def variableLeft (s : State) (r channel now : Nat) : Nat :=
  accountLimit (hopAt s.ord s.clerk.tick) - plannedUse s r - sumBy (·.time) ((accountUse s r channel now).filter (fun x => !x.fixed))

/-- RADIO_STATUS: a snapshot. -/
def cmdRadioStatus (p : Packet) (s : State) : State × Ans :=
  let r := fld p.payload 0 1
  if 3 < r then (s, { status := .badParam })
  else
    let n := s.clerk.tick
    let c := cfgAt s.ord r n
    let q := seqOf s r
    let now := n * 250000 + s.clerk.offset
    let pend := !(pendingAt s.ord n [r] [r] true).isEmpty
    let lately := fun (o : Option Nat) => match o with | some t => decide (n < t + 240) | none => false
    let waiting := (s.clerk.intake.filter (fun w => w.cls == 2 && w.index == r && w.kind == 0x0901)).length
    (s, { payload := le 8 (tickNow s) ++ le 1 (radioState s r) ++ le 1 c.family ++ le 1 c.rate ++ le 1 c.option ++ le 1 (channelAt s.ord r n) ++ le 1 c.level ++ le 2 c.guard ++
            leS 1 (derated s r q.bcast) ++ leS 1 (derated s r q.ucast) ++ le 1 (min q.derating 255) ++
            le 1 (b2n pend + 2 * b2n q.hot + 4 * b2n (lately q.fullAt) + 8 * b2n (lately q.refusedAt)) ++ le 1 (min waiting 64) ++ zeros 1 ++ le 2 (min q.down.length 256) ++
            le 4 q.accepted ++ le 4 q.dropped ++ le 4 q.acks ++ le 4 q.nacks ++ le 4 q.sentDown ++ le 4 q.deferrals ++ le 4 q.refusals ++
            le 4 (sumBy (·.time) (inWindow (hopAt s.ord n) now q.used) / 3000) ++ zeros 8 })

/-- REGULATORY_STATUS. -/
def cmdRegulatoryStatus (_ : Packet) (s : State) : State × Ans :=
  let n := s.clerk.tick
  let h := hopAt s.ord n
  let now := n * 250000 + s.clerk.offset
  let cs := cfgsAt s.ord n
  let ps := plansAt s.ord n
  let radio := fun r =>
    let q := seqOf s r
    let use_ := inWindow h now q.used
    le 4 (fixedShare h cs ps r) ++ le 4 (sumBy (·.time) (use_.filter (·.fixed)) / 3000) ++ le 4 (sumBy (·.time) (use_.filter (fun x => !x.fixed)) / 3000) ++
      le 4 (variableLeft s r (channelAt s.ord r n) now / 3000) ++ le 4 q.deferrals ++ le 4 q.refusals
  let chan := fun x => le 1 x ++ zeros 1 ++ le 2 (fixedDwell h cs ps / 3000) ++ le 2 (sumBy (·.time) (accountUse s 0 x now) / 3000) ++ le 2 (variableLeft s 0 x now / 3000)
  (s, { payload := le 1 (if Config.isN1 then 2 else 1) ++ zeros 3 ++ le 4 h.limit ++ le 2 h.window ++ zeros 6 ++ ((List.range 4).map radio).flatten ++
          (if Config.isN1 then (h.channels.map chan).flatten else []) })

/-- RADIO_CONFIG (R278): ordered; `ordRadioConfig` is its effect. -/
def execRadioConfig (p : Packet) (s : State) : Host.Outcome State Fault Refusal := .next (submitW 0x0901 p s)
/-- SLOT_PLAN_SET (R280): ordered; `ordSlotPlanSet` is its effect. -/
def execSlotPlanSet (p : Packet) (s : State) : Host.Outcome State Fault Refusal := .next (submitW 0x0902 p s)
/-- HOP_SET (R277): ordered; `ordHopSet` is its effect. -/
def execHopSet (p : Packet) (s : State) : Host.Outcome State Fault Refusal := .next (submitW 0x0903 p s)
@[inherit_doc cmdRadioStatus] def execRadioStatus (p : Packet) (s : State) : Host.Outcome State Fault Refusal := .next (submit 0x0904 cmdRadioStatus p s)
@[inherit_doc cmdRegulatoryStatus] def execRegulatoryStatus (p : Packet) (s : State) : Host.Outcome State Fault Refusal := .next (submit 0x0905 cmdRegulatoryStatus p s)
/-- TX_POWER_SET (R285): ordered; `ordTxPowerSet` is its effect. -/
def execTxPowerSet (p : Packet) (s : State) : Host.Outcome State Fault Refusal := .next (submitW 0x0906 p s)

end Sys2Proof.Machine
end

