-- ==== Sys2Proof/Machine/Partners.lean ====
section
/-!
DEFINITION. Machine/Partners.lean: the partner step (ch. 14): what the module reads from partners, their states, assignments,
control frames and faults.
-/
namespace Sys2Proof.Machine

/-! ### Partners by number and by EUI-64 -/

/-- The placed partner of an EUI-64. -/
def partnerOfEui (o : Ordered) (eui : Nat) : Option Nat := (o.plan.plan.placements.find? (fun x => plEui x.2 == eui)).map Prod.fst

/-- What the partner step keeps of a partner. -/
def partnerAt (o : Ordered) (n : Nat) : Partner := lookD n {} o.air.partners

/-- Change what is kept of a partner. -/
def Calc.modPartner (n : Nat) (f : Partner → Partner) (c : Calc) : Calc :=
  { c with ord := { c.ord with air := { c.ord.air with partners := put n (f (partnerAt c.ord n)) c.ord.air.partners } } }

/-- The dynamic registry fields of a partner. -/
def regOf (o : Ordered) (n : Nat) : RegDyn := lookD n {} o.registry

/-- Change the registry fields of a partner. -/
def Calc.modReg (n : Nat) (f : RegDyn → RegDyn) (c : Calc) : Calc := { c with ord := { c.ord with registry := put n (f (regOf c.ord n)) c.ord.registry } }

/-- The placement of a partner, as bytes. -/
def placed (o : Ordered) (n : Nat) : List Byte := (placementOf o n).getD []

/-- The radio control frames to a partner go out on: its radio in use, or its primary. -/
def radioFor (o : Ordered) (n : Nat) : Nat := if (regOf o n).radio ≤ 3 then (regOf o n).radio else plPrimary (placed o n)

/-! ### Frames read (R287, R296 to R298, R301) -/

/-- A frame of a partner as the AIR_FRAME entries of a waybill give it: place in the waybill, radio, slot, mini-slot, RSSI,
LQI, SFD offset, reception tick, partner, frame counter, MAC payload, and whether a relay brought it. -/
structure Heard where
  place : Nat
  radio : Nat
  slot : Nat
  mini : Nat
  rssi : Int := -128
  lqi : Nat := 0
  sfd : Int := 0
  tick : Nat
  partner : Option Nat
  counter : Nat := 0
  payload : List Byte
  relayed : Bool := false
  deriving DecidableEq, Repr

/-- Big-endian bytes. -/
def be (n v : Nat) : List Byte := (le n v).reverse

/-- The partner key of a partner for an air slot (R374). -/
def partnerKey (keys : List KeySlot) (segment slot eui : Nat) : List Byte :=
  fit 16 (Config.deriveKey (((keys[slot]?).map (·.key)).getD []) (be 8 segment ++ [0x4C, 0x4D, 0x52, 0x33, 0x2D, 0x50, 0x4B] ++ be 8 eui))

/-- The broadcast key of an air slot (R374). -/
def broadcastKey (keys : List KeySlot) (segment slot : Nat) : List Byte :=
  fit 16 (Config.deriveKey (((keys[slot]?).map (·.key)).getD []) (be 8 segment ++ [0x4C, 0x4D, 0x52, 0x33, 0x2D, 0x42, 0x4B]))

/-- The inner frame of a relay frame, verified as a frame of its origin (R301): header 11 octets, level, counter. -/
def innerFrame (c : Calc) (h : Heard) : Option Heard :=
  let b := h.payload.drop 1
  let n := fld b 3 2
  let level := fld b 5 1 % 8
  let mic := if level == 6 then 8 else 4
  let len := b.length - (11 + mic + 4)
  let slot := (cfgAt c.ord h.radio h.tick).key
  match placementOf c.ord n with
  | none => none
  | some pl =>
    let key := partnerKey c.keys c.segment slot (plEui pl)
    let nonce := be 8 (plEui pl) ++ be 4 (fld b 6 4) ++ le 1 level
    let plain := Config.ccmCrypt key nonce ((b.drop 11).take len)
    if 15 + mic < b.length + 1 && fld b (11 + len) mic == Config.ccmMic key (b.take 11 ++ plain) % 256 ^ mic && (partnerAt c.ord n).counter < fld b 6 4 then
      some { h with partner := some n, counter := fld b 6 4, payload := plain, relayed := true }
    else none

/-- The AIR_FRAME entries of the waybill (Table 9 of ch. 13), with the inner frames of relay frames after them. -/
def Calc.heard (c : Calc) : List Heard :=
  (c.entries.zipIdx.map (fun (x : Entry × Nat) =>
    match x.1.body with
    | .raw b =>
      if x.1.kind == 0x0901 && x.1.cls == 2 then
        let h : Heard := { place := x.2, radio := fld b 0 1, slot := fld b 1 1, mini := fld b 2 1, rssi := fldS b 5 1, lqi := fld b 6 1, sfd := fldS b 8 4, tick := fld b 12 8, partner := partnerOfEui c.ord (fld b 20 8), counter := fld b 28 4, payload := (b.drop 40).take (fld b 32 2) }
        h :: (if fld h.payload 0 1 == 0x38 then (innerFrame c h).toList else [])
      else []
    | _ => [])).flatten

/-- The frame's kind, when its version is 3 and its kind is one partners send (R287). -/
def Heard.kind (h : Heard) : Option Nat :=
  let k := fld h.payload 0 1
  if k / 16 == 3 && [3, 4, 5, 7, 8].contains (k % 16) then some (k % 16) else none

/-- The presence events of the waybill (R164, R297). -/
def Calc.readPresence (c : Calc) : Calc :=
  let events := (c.heard.map (fun h =>
    match h.kind, h.partner with
    | some 4, some n =>
      let pl := placed c.ord n
      let start : Int := slotStartUs h.tick h.slot + (if h.mini ≤ 3 then 3125 * h.mini else 0)
      (List.range ((h.payload.length - 1) / 4)).map (fun i =>
        let w := fld h.payload (1 + 4 * i) 2
        let fwd := !bit (plFlags pl) 2
        let dir := match w / 16384 with | 1 => some fwd | 2 => some (!fwd) | _ => none
        (h.place, n, ({ link := plLink pl, chainage := plChainage pl, instant := start - 1000 * (w % 16384), dir, speed := fld h.payload (3 + 4 * i) 2 } : Presence)))
    | _, _ => [])).flatten
  { c with presence := c.presence ++ events }

/-- What the air and PARTNER_STATE entries of the waybill say of lanterns (R137, R146, R302), before the groups compute: a
lantern's light-out and derate while its GROUP channel reads them, and its absence. -/
def Calc.airFacts (c : Calc) : Calc :=
  let reads : Nat → Bool := fun n => match (look n c.ord.members).bind (chanOf c.ord) with
    | some ch => decide (ch.state = .running ∨ ch.state = .held ∨ ch.state = .faulted)
    | none => false
  let c := c.heard.foldl (fun c h =>
    match h.kind, h.partner with
    | some 3, some n => if reads n then c.modLantern n (fun l => { l with lightOut := bit (fld h.payload 12 4) 0, derate := if bit (fld h.payload 1 1) 2 then min 1000 (fld h.payload 10 2) else 1000 }) else c
    | some 5, some n => if reads n then c.modLantern n (fun l => { l with lightOut := bit (fld h.payload 2 4) 0, derate := if bit (fld h.payload 1 1) 2 then min 1000 (fld h.payload 6 2) else 1000 }) else c
    | _, _ => c) c
  c.entries.foldl (fun c e => match e.body with
    | .raw b => if e.kind == 0x0A01 && fld b 0 2 ≤ 8191 then c.modLantern (fld b 0 2) (fun l => { l with absent := fld b 2 1 == 3 }) else c
    | _ => c) c

/-! ### Assignments and allocation (R300, R301) -/

/-- An assignment occurs in a tick (R300). -/
def Assign.occurs (a : Assign) (t : Nat) : Bool := a.start ≤ t && t % max 1 a.period == a.phase

/-- An assignment occupies its occurrence (R300). -/
def Assign.occupies (a : Assign) : Bool := a.role == 1 || a.role == 2 || a.role == 4 || a.role == 5

/-- The assignments of a partner, with those sent ahead of a slot plan change. -/
def Partner.all (p : Partner) : List Assign := p.assigns ++ (match p.next with | some (_, l) => l | none => [])

/-- The ASSIGN body (Table 7). -/
def Assign.bytes (a : Assign) : List Byte :=
  le 1 a.index ++ le 1 a.role ++ le 1 a.radio ++ le 1 a.slot ++ le 1 a.mini ++ zeros 1 ++ le 2 a.period ++ le 2 a.phase ++ le 4 a.start

/-- The occupying assignments of a radio: those of `who` only where `keep` says so. -/
def occupied_ (o : Ordered) (r who : Nat) (keep : Assign → Bool) : List Assign :=
  ((o.air.partners.map (fun x => if x.1 == who then x.2.all.filter keep else x.2.all)).flatten).filter (fun a => a.radio == r && a.occupies)

/-- A candidate occurrence is free of the assignments (R301). -/
def freeOccurrence (occ : List Assign) (slot mini period phase : Nat) : Bool :=
  occ.all (fun a => !(a.slot == slot && a.mini == mini && phase % Nat.gcd period a.period == a.phase % Nat.gcd period a.period))

/-- The slot is of a kind in every leg of the phase's class, in the plan in force in a tick (R300). -/
def kindThroughout (o : Ordered) (r at_ slot period phase kind : Nat) : Bool :=
  let g := Nat.gcd period 4
  let p := planAt o r at_
  (List.range 4).all (fun l => l % g != phase % g || (p.kinds[15 * l + (slot - 3)]?).getD 0 == kind)

/-- The first free candidate in ascending order of phase, slot and mini-slot (R301). -/
def findCandidate (o : Ordered) (occ : List Assign) (r role period at_ : Nat) : Option (Nat × Nat × Nat) :=
  let minis := if role == 2 then [0, 1, 2, 3] else [0xFF]
  (List.range period).findSome? (fun phase =>
    (List.range 15).findSome? (fun i =>
      if kindThroughout o r at_ (i + 3) period phase (if role == 2 then 2 else 1) then
        (minis.find? (fun m => freeOccurrence occ (i + 3) m period phase)).map (fun m => (i + 3, m, phase))
      else none))

/-- The report cycle, in ticks, of a partner's event frames: the lowest among the ESCORT zones it stands in (R301). -/
def reportCycle (o : Ordered) (n : Nat) : Nat :=
  let l := plLink (placed o n)
  let cs := o.channels.filterMap (fun ch => match ch.body with | .escort e => if e.links.contains l then some e.cycle else none | _ => none)
  (cs.foldl (fun m x => match m with | some y => some (min x y) | none => some x) none).getD 4000 / 250

/-- The roles automatic allocation gives a partner, with their periods (R301). -/
def autoRoles (o : Ordered) (n : Nat) : List (Nat × Nat) :=
  let pl := placed o n
  let mini := (2, max 1 (reportCycle o n))
  if plKind pl == 2 then [mini] else (1, 4 * (partnerAt o n).period) :: (if bit (plFlags pl) 1 then [mini] else [])

/-- The lowest assignment index not in use. -/
def freeIndex (l : List Assign) : Nat := ((List.range 4).find? (fun i => l.all (fun a => a.index != i))).getD 3

/-- Allocate roles to a partner on a radio from a tick, beside the assignments it keeps (R301): all of them, or none. -/
def allocate (o : Ordered) (n r from_ : Nat) (kept : List Assign) (roles : List (Nat × Nat)) : Option (List Assign) :=
  roles.foldl (fun acc (x : Nat × Nat) => match acc with
    | none => none
    | some l =>
      let occ := occupied_ o r n (fun a => kept.any (fun k => k.index == a.index)) ++ l
      match findCandidate o occ r x.1 x.2 from_ with
      | none => none
      | some (slot, mini, phase) => some (l ++ [{ index := freeIndex (kept ++ l), role := x.1, radio := r, slot, mini, period := x.2, phase, start := from_ }])) (some [])

/-! ### Control frames (R299, R307) -/

/-- An element: type, length, body; with the index of the assignment an ASSIGN carries. -/
def element (t : Nat) (body : List Byte) (assign : Option Nat := none) : List Byte × Option Nat := (le 1 t ++ le 1 body.length ++ body, assign)

/-- Elements packed into frames of at most `cap` octets; none is split (R299). -/
def packElements (cap : Nat) (els : List (List Byte × Option Nat)) : List (List (List Byte × Option Nat)) :=
  els.foldl (fun fs e =>
    match fs.getLast? with
    | some f => if sumBy (fun (x : List Byte × Option Nat) => x.1.length) f + e.1.length ≤ cap then fs.dropLast ++ [f ++ [e]] else fs ++ [[e]]
    | none => [[e]]) []

/-- A downlink frame leaves the partner step (R284, R307); its reference is answered. -/
def Calc.sendDown (n r : Nat) (ext : Bool) (payload : List Byte) (c : Calc) : Calc × Nat :=
  let ref := c.tick % 2 ^ 48 + c.ord.air.formed * 2 ^ 48
  let f : DownFrame := { ref, partner := n, payload, extended := ext }
  ({ c with ord := { c.ord with air := { c.ord.air with formed := c.ord.air.formed + 1, refs := c.ord.air.refs ++ [(ref, n)] } }, res := { c.res with down := c.res.down ++ [(r, f)] } }, ref)

/-- Send control elements to a partner on a radio; the reference of the last frame is answered. -/
def Calc.sendControl (n r : Nat) (els : List (List Byte × Option Nat)) (c : Calc) : Calc × Nat :=
  let ext := (regOf c.ord n).airState == 4
  let cfg := cfgAt c.ord r c.tick
  let cap := maxPsdu cfg 1 - ((if ext then 17 else 11) + (if cfg.level == 6 then 8 else 4) + 4 + 1)
  (packElements cap els).foldl (fun (acc : Calc × Nat) f =>
    let x := acc.1.sendDown n r ext (le 1 0x36 ++ (f.map Prod.fst).flatten)
    let marked := f.filterMap Prod.snd
    let c := x.1.modPartner n (fun p =>
      let mark := fun a : Assign => if marked.contains a.index then { a with ref := some x.2, acked := none } else a
      { p with assigns := p.assigns.map mark, next := p.next.map (fun (y : Nat × List Assign) => (y.1, y.2.map mark)), awaits := if marked.isEmpty then p.awaits else some x.2 })
    (c, x.2)) (c, 0)

/-- IDENTITY and FALLBACK (Table 7). -/
def identity (o : Ordered) (n period : Nat) : List Byte × Option Nat := element 1 (le 2 n ++ le 1 (plPrimary (placed o n)) ++ le 1 (plAlternate (placed o n)) ++ le 2 period)
@[inherit_doc identity] def fallbackElement (o : Ordered) (n : Nat) : List Byte × Option Nat :=
  let f := fallbackOf o n
  element 2 (le 2 f.level ++ le 2 f.delay ++ le 1 f.code ++ le 1 f.mode)

/-- BROADCAST_KEY of an air slot (R374, Table 7). -/
def keyElement (c : Calc) (slot : Nat) : List Byte × Option Nat := element 7 (le 1 (2 + slot % 2) ++ broadcastKey c.keys c.segment slot)

/-- The ASSIGNs of assignments. -/
def assignElements (l : List Assign) : List (List Byte × Option Nat) := l.map (fun a => element 3 a.bytes (some a.index))

/-- The elements of Table 9: IDENTITY, FALLBACK, BROADCAST_KEY where it belongs, and the present ASSIGNs. -/
def introduction (c : Calc) (n r : Nat) (key : Bool) : List (List Byte × Option Nat) :=
  let p := partnerAt c.ord n
  [identity c.ord n p.period, fallbackElement c.ord n] ++ (if key then [keyElement c (cfgAt c.ord r c.tick).key] else []) ++ assignElements p.assigns

/-- Send the introduction; without an assignment, its last frame is the one that ends RESCUED (Table 9). -/
def Calc.introduce (n r : Nat) (key : Bool) (c : Calc) : Calc :=
  let x := c.sendControl n r (introduction c n r key)
  if (partnerAt x.1.ord n).assigns.isEmpty then x.1.modPartner n (fun p => { p with awaits := some x.2 }) else x.1

/-- A MOVE sent on a radio (R306, Table 9); its reference is answered. -/
def Calc.move (n r target : Nat) (c : Calc) : Calc × Nat :=
  let x := c.sendControl n r [element 5 (le 1 target)]
  (x.1.count 0x167 1, x.2)

/-! ### Fault records (R308, R309) -/

/-- The registry's fault flags with the marks of an open LIGHT_OUT record (R309). -/
def Calc.showFaults (n : Nat) (c : Calc) : Calc :=
  let out := c.ord.air.faults.find? (fun f => f.partner == n && f.bit == 0 && f.open_)
  let marks := match out with | some f => 2 ^ 17 * b2n f.inconsistent + 2 ^ 18 * b2n f.confirmed | none => 0
  c.modReg n (fun d => { d with faults := d.faults % 2 ^ 17 + marks })

/-- Closed and acknowledged records leave the list (R309). -/
def pruneFaults (l : List FaultRec) : List FaultRec := l.filter (fun f => f.open_ || !f.acked)

/-- Change the fault list. -/
def Calc.modFaults (f : List FaultRec → List FaultRec) (c : Calc) : Calc :=
  { c with ord := { c.ord with air := { c.ord.air with faults := pruneFaults (f c.ord.air.faults) } } }

/-- A flag changes from 0 to 1: a new record, if the list has room or a closed record makes room (R309). -/
def Calc.openFault (n bit_ onset : Nat) (c : Calc) : Calc :=
  let l := c.ord.air.faults
  let closed := l.find? (fun f => !f.open_)
  if 4096 ≤ l.length && closed.isNone then (c.count 0x16C 1).derive 0x0E06 0xFF (le 2 n ++ le 1 bit_)
  else
    let l := if 4096 ≤ l.length then (match closed with | some x => l.filter (fun f => f.num != x.num) | none => l) else l
    let rec_ : FaultRec := { num := c.ord.air.nextFault, partner := n, bit := bit_, first := onset, last := onset, untested := if bit_ == 0 then some c.tick else none }
    let c := { c with ord := { c.ord with air := { c.ord.air with nextFault := c.ord.air.nextFault + 1, faults := l ++ [rec_] } } }
    c.count 0x168 1

/-- One flag of a frame or of the partner step's own: opens, repeats or closes a record (R309). -/
def Calc.noteFlag (n bit_ : Nat) (was now : Bool) (onset : Nat) (c : Calc) : Calc :=
  let mine := fun f : FaultRec => f.partner == n && f.bit == bit_ && f.open_
  if now then
    if c.ord.air.faults.any mine then (c.modFaults (fun l => l.map (fun f => if mine f then { f with repeats := f.repeats + 1, last := onset } else f))).count 0x169 1
    else if was then c else c.openFault n bit_ onset
  else c.modFaults (fun l => l.map (fun f => if mine f then { f with open_ := false } else f))

/-- The flags of a frame: bits 0 to 15 of the registry, and records for bits 0 to 7 (R308, R309). -/
def Calc.noteFlags (n flags onset : Nat) (c : Calc) : Calc :=
  let old := (regOf c.ord n).faults
  let c := c.modReg n (fun d => { d with faults := d.faults / 2 ^ 16 * 2 ^ 16 + flags % 2 ^ 16 })
  let c := (List.range 8).foldl (fun c k => c.noteFlag n k (bit old k) (bit flags k) onset) c
  c.showFaults n

/-- ABSENT is set or cleared (R302, R309). -/
def Calc.noteAbsent (n : Nat) (now : Bool) (onset : Nat) (c : Calc) : Calc :=
  let old := (regOf c.ord n).faults
  let c := c.modReg n (fun d => { d with faults := d.faults % 2 ^ 16 + d.faults / 2 ^ 17 * 2 ^ 17 + 2 ^ 16 * b2n now })
  c.noteFlag n 16 (bit old 16) now onset

/-! ### Partner states (R302, Table 9) -/

/-- A partner's air state and radio in use. -/
def Calc.setAir (n st radio : Nat) (c : Calc) : Calc := c.modReg n (fun d => { d with airState := st, radio })

/-- A PARTNER_STATE entry (Table 12) and kind 0x0E01: a partner becomes ABSENT or PRESENT again. -/
def Calc.stateEntry (n st cause : Nat) (c : Calc) : Calc :=
  let r := (regOf c.ord n).radio
  let c := { c with res := { c.res with clerk := c.res.clerk ++ [(0x0A01, le 2 n ++ le 1 st ++ le 1 r ++ le 1 cause ++ zeros 3)] } }
  c.derive 0x0E01 0xFF (le 2 n ++ le 1 r)

/-- A rescue frame on a radio (Table 9). -/
def Calc.rescue (n r : Nat) (c : Calc) : Calc :=
  let d := regOf c.ord n
  let pl := placed c.ord n
  let known := d.airState == 1 || d.airState == 2 || d.airState == 4
  if known && r == d.radio then
    let key := if d.airState == 4 then (partnerAt c.ord n).withKey else false
    let c := if d.airState == 4 then c else c.modPartner n (fun p => { p with wasAbsent := false, withKey := false })
    (c.setAir n 4 r).introduce n r key
  else if r == plPrimary pl || r == plAlternate pl then
    let new := allocate c.ord n r (c.tick + 8) [] (autoRoles c.ord n)
    let key := !(d.airState == 1 || d.airState == 2)
    let c := if new.isNone then c.count 0x16F 1 else c
    let c := c.modPartner n (fun p => { p with assigns := new.getD [], next := none, misses := 0, again := new.isNone, withKey := key, wasAbsent := d.airState == 3 || (d.airState == 4 && p.wasAbsent) })
    let c := if d.airState == 3 then c.noteAbsent n false c.tick else c
    (c.setAir n 4 r).introduce n r key
  else (c.move n r (if (radioOrd c.ord (plPrimary pl)).failed then plAlternate pl else plPrimary pl)).1

/-- The instant, in thirds of a µs from the start of slot 0, of the expected SFD of a frame (R304, log entry 22). -/
def expectedSfd (cfg : RadioCfg) (slot mini : Nat) : Nat :=
  let start := 12500 * slot + (if mini ≤ 3 then 3125 * mini else 0)
  3 * start + (if cfg.family == 1 then (cfg.preamble + 2) * octetTime cfg.rate else airTime cfg 0)

/-- The drift estimate D of R304: the floor of (3 × D + the floor of o × 10^8 ÷ e) ÷ 4, with `e3` three times e. -/
def driftOf (old o : Int) (e3 : Nat) : Int := (3 * old + o * 300000000 / (e3 : Int)) / 4

/-- A frame received in an owned occurrence (R302 to R304). -/
def Calc.ownFrame (n : Nat) (h : Heard) (c : Calc) : Calc :=
  let cfg := cfgAt c.ord h.radio h.tick
  let c := c.modPartner n (fun p => { p with heard := p.heard ++ [(h.tick, h.radio, if h.relayed then 99 else h.slot, h.mini)] })
  let d := regOf c.ord n
  let c := if d.airState == 2 then c.setAir n 1 d.radio else c
  let c := if d.airState == 1 || d.airState == 2 then c.modPartner n (fun p => { p with misses := 0 }) else c
  if h.relayed then c
  else
    let c := c.modReg n (fun d => { d with drift := clampI (-32768) 32767 (driftOf d.drift h.sfd (expectedSfd cfg h.slot h.mini)) })
    if cfg.guard < 2 * h.sfd.natAbs then c.count 0x166 1 else c

/-- The frame lies in an occurrence its sender occupies. -/
def ownsOccurrence (o : Ordered) (n : Nat) (h : Heard) : Bool :=
  h.relayed || ((partnerAt o n).all.any (fun a => a.occupies && a.radio == h.radio && a.slot == h.slot && a.mini == h.mini && a.occurs h.tick))

/-- What a report frame tells the registry, metering and sessions (Table 6). -/
def Calc.report (n : Nat) (h : Heard) (c : Calc) : Calc :=
  let b := h.payload
  let lantern := n ≤ 8191
  let c := c.modReg n (fun d => { d with lastReport := h.tick, temp := fldS b 9 1, firmware := fld b 24 4, energy := if lantern then fld b 16 8 else d.energy })
  let c := if lantern then c.addReading n h.tick (fld b 16 8) else c
  let num := fld b 30 1 % 16
  let st := fld b 30 1 / 16
  let upd := fun ch : Channel => match ch.body with
    | .session x => if x.num == num && x.targets.contains n then { ch with body := .session { x with reports := put n st x.reports } } else ch
    | _ => ch
  { c with ord := { c.ord with channels := c.ord.channels.map upd } }

/-- One frame read by the partner step. -/
def Calc.readFrame (h : Heard) (c : Calc) : Calc :=
  let c := c.count 0x160 1
  match h.kind, h.partner with
  | none, _ => c.count 0x161 1
  | some _, none => c
  | some k, some n =>
    let c := c.modPartner n (fun p => { p with counter := max p.counter h.counter })
    let c := c.modReg n (fun d => { d with rssi := h.rssi, lqi := h.lqi, lastHeard := h.tick, firstHeard := if d.firstHeard == 0 then h.tick else d.firstHeard })
    let c := if k == 7 then ((c.count 0x162 1).modPartner n (fun p => { p with rescue := h.tick })).rescue n h.radio
      else if ownsOccurrence c.ord n h then c.ownFrame n h else c
    match k with
    | 3 => (c.report n h).noteFlags n (fld h.payload 12 4) h.tick
    | 5 => c.noteFlags n (fld h.payload 2 4) h.tick
    | 7 => c.noteFlags n (fld h.payload 4 4) h.tick
    | _ => c

/-- The outcome of a downlink frame (R302, R303, R306): partner number, reference, result, tick of the last attempt. -/
def Calc.readResult (b : List Byte) (c : Calc) : Calc :=
  let result := fld b 1 1
  let ref := fld b 8 8
  let last := fld b 16 8
  let join := c.ord.air.joins.find? (fun j => j.1 == ref)
  let mine := look ref c.ord.air.refs
  let c := { c with ord := { c.ord with air := { c.ord.air with joins := c.ord.air.joins.filter (fun j => j.1 != ref), refs := del ref c.ord.air.refs } } }
  let c := match join with
    | some (_, slot, n) =>
      if result != 0 then c
      else
        let c := c.count 0x16E 1
        { c with ord := { c.ord with channels := c.ord.channels.map (fun ch => match ch.body with
            | .session x => if hSlot ch.handle == slot then { ch with body := .session { x with joined := x.joined ++ [n] } } else ch
            | _ => ch) } }
    | none => c
  match mine with
  | none => c
  | some n =>
    if (placementOf c.ord n).isNone then c
    else if result != 0 then c.modPartner n (fun p => if p.home == some ref then { p with home := none } else p)
    else
      let fresh := ((partnerAt c.ord n).all.filter (fun a => a.ref == some ref && a.acked.isNone)).length
      let ack := fun a : Assign => if a.ref == some ref then { a with acked := some last } else a
      let c := c.modPartner n (fun p => { p with assigns := p.assigns.map ack, next := p.next.map (fun (y : Nat × List Assign) => (y.1, y.2.map ack)) })
      let c := if fresh == 0 then c else c.count 0x165 fresh
      let d := regOf c.ord n
      let p := partnerAt c.ord n
      if d.airState == 4 && p.awaits == some ref then
        let c := (c.setAir n 1 d.radio).modPartner n (fun p => { p with misses := 0, wasAbsent := false, awaits := none })
        if p.wasAbsent then c.stateEntry n 1 1 else c
      else c

/-- A partner becomes ABSENT (Table 9). -/
def Calc.goAbsent (n : Nat) (c : Calc) : Calc :=
  let c := c.setAir n 3 (regOf c.ord n).radio
  let c := c.modPartner n (fun p => { p with assigns := [], next := none, again := false })
  ((c.stateEntry n 3 0).count 0x164 1).noteAbsent n true c.tick

/-- One occurrence counts as missed when nothing of the partner was read for it (R303). -/
def Calc.miss (n : Nat) (a : Assign) (t : Nat) (c : Calc) : Calc :=
  let p := partnerAt c.ord n
  let d := regOf c.ord n
  let heard := p.heard.any (fun x => x.1 == t && (x.2.2.1 == 99 || (x.2.1 == a.radio && x.2.2.1 == a.slot && x.2.2.2 == a.mini)))
  let due := (a.role == 1 || a.role == 2) && a.occurs t && (match a.acked with | some k => decide (k < t) | none => false)
  if !due || heard || p.missed.contains (t, a.index) || (d.airState != 1 && d.airState != 2) then c
  else
    let c := (c.count 0x163 1).modPartner n (fun p => { p with missed := p.missed ++ [(t, a.index)], misses := if d.airState == 1 then 1 else p.misses + 1 })
    if d.airState == 1 then c.setAir n 2 d.radio
    else if 3 ≤ (partnerAt c.ord n).misses then c.goAbsent n else c

/-- The occurrences of a tick that were missed, in ascending partner number and index (R303). -/
def Calc.misses (t : Nat) (c : Calc) : Calc :=
  c.ord.air.partners.foldl (fun c x => (sortBy (·.index) x.2.assigns).foldl (fun c a => c.miss x.1 a t) c) c

/-! ### Changes of slot plan and air slot, retries and MOVEs (R301, R305, R306, R376) -/

/-- The slots whose kind a change of plan alters (Table 4 of ch. 14). -/
def changedSlots (a b : SlotPlan) : List Nat :=
  ((List.range 15).filter (fun i => (List.range 4).any (fun l => (a.kinds[15 * l + i]?).getD 0 != (b.kinds[15 * l + i]?).getD 0))).map (· + 3)

/-- Changes whose instant has come: the configuration stands in force, and assignments in changed slots are released, those
sent ahead taking their place (R278, R305). -/
def Calc.adoptChanges (c : Calc) : Calc :=
  let due := (List.range 4).filterMap (fun r => match (radioOrd c.ord r).nextPlan with
    | some (m, x) => if m ≤ c.tick then some (r, changedSlots ((radioOrd c.ord r).plan.getD defaultPlan) x) else none
    | none => none)
  let gone := fun a : Assign => due.any (fun d => d.1 == a.radio && d.2.contains a.slot)
  let upd := fun p : Partner =>
    let keep := p.assigns.filter (fun a => !gone a)
    match p.next with
    | some (m, l) => if m ≤ c.tick then { p with assigns := keep ++ l, next := none } else { p with assigns := keep }
    | none => { p with assigns := keep }
  let air := c.ord.air.settle c.tick
  { c with ord := { c.ord with air := { air with partners := air.partners.map (fun x => (x.1, upd x.2)) } } }

/-- Allocation that found no candidate is tried again (R301). -/
def Calc.retryAllocation (c : Calc) : Calc :=
  c.ord.air.partners.foldl (fun c x =>
    let d := regOf c.ord x.1
    if !x.2.again || d.airState == 0 || d.airState == 3 || (placementOf c.ord x.1).isNone then c
    else match allocate c.ord x.1 d.radio (c.tick + 8) [] (autoRoles c.ord x.1) with
      | none => c
      | some l => ((c.modPartner x.1 (fun p => { p with assigns := l, again := false })).sendControl x.1 d.radio (assignElements l)).1) c

/-- Ahead of a slot plan change: partners with assignments in its slots are sent new ASSIGNs from the change instant, at most
16 per radio in a tick (R305). -/
def Calc.sendAhead (c : Calc) : Calc :=
  (List.range 4).foldl (fun c r =>
    match (radioOrd c.ord r).nextPlan with
    | none => c
    | some (inst, plan) =>
      let ch := changedSlots (planAt c.ord r c.tick) plan
      let due := c.ord.air.partners.filter (fun (x : Nat × Partner) => (placementOf c.ord x.1).isSome && x.2.next.map Prod.fst != some inst && x.2.assigns.any (fun a => a.radio == r && ch.contains a.slot))
      (due.take 16).foldl (fun (c : Calc) (x : Nat × Partner) =>
        let hit := x.2.assigns.filter (fun a => a.radio == r && ch.contains a.slot)
        let occ0 := ((c.ord.air.partners.map (fun (y : Nat × Partner) => y.2.assigns.filter (fun a => !(a.radio == r && ch.contains a.slot)) ++ (match y.2.next with | some (_, l) => l | none => []))).flatten).filter (fun a => a.radio == r && a.occupies)
        let new := hit.foldl (fun (l : List Assign) a =>
          match findCandidate c.ord (occ0 ++ l) r (if a.role == 2 then 2 else 1) a.period inst with
          | some (slot, mini, phase) => l ++ [{ a with slot, mini, phase, start := inst, ref := none, acked := none }]
          | none => l) []
        let c := c.modPartner x.1 (fun p => { p with next := some (inst, new) })
        if new.isEmpty then c else (c.sendControl x.1 (radioFor c.ord x.1) (assignElements new)).1) c) c

/-- Between the ordering of a change of air slot and its instant, the partners of the radio are sent the new broadcast key, at
most 16 per radio in a tick (R376). -/
def Calc.rekey (c : Calc) : Calc :=
  (List.range 4).foldl (fun c r =>
    match (radioOrd c.ord r).nextCfg, (radioOrd c.ord r).cfg with
    | some (inst, new), some old =>
      if new.key == old.key || inst ≤ c.tick then c
      else
        let due := c.ord.plan.plan.placements.filter (fun x => (regOf c.ord x.1).radio == r && (partnerAt c.ord x.1).rekeyed != some inst)
        (due.take 16).foldl (fun c x => (((c.sendControl x.1 r [keyElement c new.key]).1).modPartner x.1 (fun p => { p with rekeyed := some inst })).count 0x1C9 1) c
    | _, _ => c) c

/-- How long radios have been on without failure (R306). -/
def Calc.trackRadios (c : Calc) : Calc :=
  let c := c.entries.foldl (fun c e => match e.body with
    | .raw b => if e.kind == 0x0903 && e.cls == 2 then c.modRadio (fld b 0 1) (fun x => { x with failed := fld b 1 1 == 2 || fld b 1 1 == 3 }) else c
    | _ => c) c
  (List.range 4).foldl (fun c r =>
    let up := (cfgAt c.ord r c.tick).on && !(radioOrd c.ord r).failed
    c.modRadio r (fun x => { x with onSince := if up then some (x.onSince.getD c.tick) else none })) c

/-- The partner's MOVE back to its primary radio is due (R306). -/
def returnDue (o : Ordered) (tick n : Nat) : Bool :=
  let d := regOf o n
  let pl := placed o n
  (d.airState == 1 || d.airState == 2) && d.radio == plAlternate pl && (partnerAt o n).home.isNone &&
    (match (radioOrd o (plPrimary pl)).onSince with | some t => decide (t + 2400 ≤ tick) | none => false)

/-- One MOVE back to the primary radio (R306). -/
def Calc.returnMove (n : Nat) (c : Calc) : Calc :=
  if returnDue c.ord c.tick n then
    let x := c.move n (radioFor c.ord n) (plPrimary (placed c.ord n))
    x.1.modPartner n (fun p => { p with home := some x.2 })
  else c

/-- MOVEs back to the primary radio, at most 8 per radio in a tick, in ascending partner number (R306). -/
def Calc.returnMoves (c : Calc) : Calc :=
  let c : Calc := { c with ord := { c.ord with air := { c.ord.air with partners := c.ord.air.partners.map (fun (x : Nat × Partner) =>
    (x.1, if (regOf c.ord x.1).radio == plAlternate (placed c.ord x.1) then x.2 else { x.2 with home := none })) } } }
  (List.range 4).foldl (fun c r =>
    let due := c.ord.air.partners.filter (fun x => (regOf c.ord x.1).radio == r && returnDue c.ord c.tick x.1)
    (due.take 8).foldl (fun c x => c.returnMove x.1) c) c

/-! ### The plan switch (R132, R302, R306) -/

/-- The new number of a partner whose EUI-64 stays placed. -/
def renumber (old new : Plan) (n : Nat) : Option Nat :=
  (look n old.placements).bind (fun pl => (new.placements.find? (fun x => plEui x.2 == plEui pl)).map Prod.fst)

/-- Keys of a list renamed; those that leave go. -/
def renameKeys {α : Type} (f : Nat → Option Nat) (l : List (Nat × α)) : List (Nat × α) :=
  sortBy Prod.fst (l.filterMap (fun x => (f x.1).map (fun n => (n, x.2))))

/-- What the partner step does with a new generation: partners keep what is kept of them under their new numbers; those who
leave lose their assignments and sessions, and their fault records close; a radio in use that is no longer primary or alternate gets a
MOVE (R302, R306). -/
def Calc.partnerSwitch (old : Plan) (c : Calc) : Calc :=
  let f := renumber old c.ord.plan.plan
  let a := c.ord.air
  let faults := a.faults.map (fun x => match f x.partner with | some n => { x with partner := n } | none => { x with open_ := false })
  let inSession := fun ch : Channel => match ch.body with
    | .session x => { ch with body := .session { x with targets := x.targets.filterMap f, toJoin := x.toJoin.filterMap f, joined := x.joined.filterMap f, reports := renameKeys f x.reports } }
    | _ => ch
  let o : Ordered := { c.ord with channels := c.ord.channels.map inSession, lanterns := renameKeys f c.ord.lanterns, air := { a with partners := renameKeys f a.partners, faults := pruneFaults faults, refs := a.refs.filterMap (fun x => (f x.2).map (fun n => (x.1, n))), joins := a.joins.filterMap (fun x => (f x.2.2).map (fun n => (x.1, x.2.1, n))), levels := a.levels.map (fun (x : Nat × List (Nat × Nat)) => (x.1, renameKeys f x.2)) } }
  let c : Calc := { c with ord := { o with metering := { o.metering with readings := renameKeys f o.metering.readings } } }
  c.ord.plan.plan.placements.foldl (fun (c : Calc) (x : Nat × List Byte) =>
    let r := (regOf c.ord x.1).radio
    if r ≤ 3 && r != plPrimary x.2 && r != plAlternate x.2 then (c.move x.1 r (plPrimary x.2)).1 else c) c

/-! ### Metering (R310) -/

/-- The power history of R310. -/
def Calc.keepPower (c : Calc) : Calc :=
  let pts := (List.range 8).filterMap (fun k => (circuitEntry c.entries k).map (fun b =>
    ({ tick := c.tick - 1, circuit := k, power := fld b 12 4, gap := bit (fld b 2 2) 5 } : PowerPoint)))
  { c with ord := { c.ord with air := { c.ord.air with power := c.ord.air.power.filter (fun x => c.tick < x.tick + 260) ++ pts } } }

/-- The recorded levels at the boundary that ends the tick (R310). -/
def Calc.keepLevels (c : Calc) : Calc :=
  let now := (c.tick + 1, c.ord.lanterns.filterMap (fun x => x.2.record.map (fun r => (x.1, r.p))))
  { c with ord := { c.ord with air := { c.ord.air with levels := c.ord.air.levels.filter (fun x => c.tick < x.1 + 260) ++ [now] } } }

/-- The recorded P of a lantern at the boundary that opened a tick; 0 when there was none. -/
def levelAt (o : Ordered) (t n : Nat) : Nat := lookD n 0 (lookD t [] o.air.levels)

/-- A circuit's powers over four ticks, when none is missing or carries GAP. -/
def fourPowers (o : Ordered) (k first : Nat) : Option Nat :=
  (List.range 4).foldl (fun acc i => match acc with
    | none => none
    | some s => (o.air.power.find? (fun x => x.tick == first + i && x.circuit == k && !x.gap)).map (fun x => s + x.power)) (some 0)

/-- The test of a LIGHT_OUT record against its circuit (R310), in units of 1/20,480,000 W. -/
def Calc.meterTest (num : Nat) (c : Calc) : Calc :=
  match c.ord.air.faults.find? (fun f => f.num == num) with
  | none => c
  | some f => match f.untested with
    | none => c
    | some frame =>
      let o := f.first
      if c.tick < o + 8 || c.tick < frame then c
      else
        let c0 := c.modFaults (fun l => l.map (fun x => if x.num == num then { x with untested := none } else x))
        let pl := placed c.ord f.partner
        let k := plCircuit pl
        let live := c.ord.channels.any (fun ch => match ch.body with | .circuit x => x.num == some k | _ => false)
        if !live || 7 < k || o + 240 < frame then c0
        else match fourPowers c.ord k (o - 8), fourPowers c.ord k (o + 4) with
          | some before, some after =>
            let w : Int := plRated pl * levelAt c.ord o f.partner * 8
            let dm : Int := ((before : Int) - after) * 78125
            let others := c.ord.plan.plan.placements.filter (fun x => x.1 ≤ 8191 && x.1 != f.partner && plCircuit x.2 == k)
            let de : Int := others.foldl (fun s x => s + (plRated x.2 : Int) * ((levelAt c.ord (o - 5) x.1 : Int) - levelAt c.ord (o + 4) x.1) * 8) 0
            let r := dm - de
            if w < 20 * 20480000 || w * 1000 < 5 * ((before : Int) * 78125) then c0
            else if w ≤ 2 * r then ((c0.modFaults (fun l => l.map (fun x => if x.num == num then { x with confirmed := true } else x))).count 0x16B 1).showFaults f.partner
            else
              let c1 := (c0.modFaults (fun l => l.map (fun x => if x.num == num then { x with inconsistent := true } else x))).count 0x16A 1
              (c1.derive 0x0E03 0xFF (le 2 f.partner ++ le 1 k ++ leS 4 (w / 20480000) ++ leS 4 (r / 20480000))).showFaults f.partner
          | _, _ => c0

/-! ### The partner step (R302) -/

/-- The partner step of a tick; sessions' JOINs come with `Calc.sendJoins`. -/
def Calc.partnerStep (c : Calc) : Calc :=
  let c := c.adoptChanges.trackRadios.keepPower
  let c := c.heard.foldl (fun c h => c.readFrame h) c
  let c := c.entries.foldl (fun c e => match e.body with | .raw b => if e.kind == 0x0902 && e.cls == 2 then c.readResult b else c | _ => c) c
  let c := if 4 ≤ c.tick then c.misses (c.tick - 4) else c
  let c := c.retryAllocation.sendAhead.rekey.returnMoves
  let c := c.ord.air.faults.foldl (fun c f => c.meterTest f.num) c
  { c with ord := { c.ord with air := { c.ord.air with partners := c.ord.air.partners.map (fun (x : Nat × Partner) =>
      (x.1, { x.2 with heard := x.2.heard.filter (fun h => c.tick < h.1 + 8), missed := x.2.missed.filter (fun h => c.tick < h.1 + 8) })) } } }

/-! ### Commands -/

/-- PARTNER_STATUS, as of the latest released tick. -/
def cmdPartnerStatus (p : Packet) (s : State) : State × Ans :=
  let n := fld p.payload 0 2
  if 10239 < n then (s, { status := .badParam })
  else if (placementOf s.rel n).isNone then (s, { status := .range })
  else
    let x := partnerAt s.rel n
    let d := regOf s.rel n
    let as_ := sortBy (·.index) x.assigns
    (s, { status := if s.rel.devTaint.contains 1 then .tainted else .ok
          payload := le 8 s.relTick ++ le 1 d.airState ++ le 1 d.radio ++ le 1 x.misses ++ le 1 as_.length ++ le 8 x.rescue ++ le 4 x.counter ++ zeros 4 ++ (as_.map Assign.bytes).flatten })

/-- PARTNER_SLOT_ASSIGN. -/
def ordPartnerSlotAssign : Handler := fun m p c =>
  let b := p.payload
  let n := fld b 0 2
  let op := fld b 2 1
  let per := fld b 4 2
  let a : Assign := { index := fld b 8 1, role := fld b 9 1, radio := fld b 10 1, slot := fld b 11 1, mini := fld b 12 1, period := fld b 14 2, phase := fld b 16 2, start := c.tick + 8 }
  let miniOk := match a.role with | 2 => decide (a.mini ≤ 3) | 3 => a.mini ≤ 3 || a.mini == 0xFF | _ => a.mini == 0xFF
  let badBody := op == 1 && (3 < a.index || a.role == 0 || 6 < a.role || 3 < a.radio || a.slot < 3 || 17 < a.slot || !miniOk || a.period == 0 || a.period ≤ a.phase)
  if 10239 < n || 3 < op || badBody || (op == 3 && (per < 60 || 3600 < per)) then (c, { status := .badParam })
  else if (placementOf c.ord n).isNone then (c, { status := .range })
  else
    let r := radioFor c.ord n
    let x := partnerAt c.ord n
    let done := fun (c : Calc) (els : List (List Byte × Option Nat)) =>
      let c := (c.sendControl n r els).1
      let as_ := sortBy (·.index) (partnerAt c.ord n).assigns
      (c.derive 0x0E02 m (le 2 n ++ le 1 op), ({ payload := le 1 as_.length ++ zeros 7 ++ (as_.map Assign.bytes).flatten } : Ans))
    match op with
    | 0 =>
      let kept := x.assigns.filter (fun y => 3 ≤ y.role)
      let gone := x.assigns.filter (fun y => y.role ≤ 2)
      match allocate c.ord n r (c.tick + 8) kept (autoRoles c.ord n) with
      | none => (c, { status := .noResource })
      | some l =>
        if 4 < kept.length + l.length then (c, { status := .noResource })
        else done (c.modPartner n (fun y => { y with assigns := kept ++ l, next := none, again := false }))
          (gone.map (fun y => element 4 (le 1 y.index)) ++ assignElements l)
    | 1 =>
      let kind := if a.role == 2 || (a.role == 3 && a.mini ≤ 3) then 2 else 1
      let kept := x.assigns.filter (fun y => y.index != a.index)
      if !kindThroughout c.ord a.radio (c.tick + 8) a.slot a.period a.phase kind then (c, { status := .range })
      else if 4 ≤ x.assigns.length || (a.occupies && !freeOccurrence (occupied_ c.ord a.radio n (fun y => y.index != a.index)) a.slot a.mini a.period a.phase) then (c, { status := .noResource })
      else done (c.modPartner n (fun y => { y with assigns := kept ++ [a] })) (assignElements [a])
    | 2 => done (c.modPartner n (fun y => { y with assigns := [], next := none })) [element 4 (le 1 0xFF)]
    | _ =>
      let old := x.assigns.find? (fun y => y.role == 1)
      match old with
      | some u =>
        if n ≤ 8191 then
          let kept := x.assigns.filter (fun y => y.index != u.index)
          match allocate c.ord n r (c.tick + 8) kept [(1, 4 * per)] with
          | none => (c, { status := .noResource })
          | some l =>
            let l := l.map (fun y => { y with index := u.index })
            done (c.modPartner n (fun y => { y with assigns := kept ++ l, period := per })) (identity c.ord n per :: assignElements l)
        else done (c.modPartner n (fun y => { y with period := per })) [identity c.ord n per]
      | none => done (c.modPartner n (fun y => { y with period := per })) [identity c.ord n per]

/-- FAULT_LIST, as of the latest released tick. -/
def cmdFaultList (p : Packet) (s : State) : State × Ans :=
  let b := p.payload
  let first := fld b 0 4
  let most := fld b 4 1
  let fl := fld b 5 1
  if most == 0 || 100 < most || 3 < fl then (s, { status := .badParam })
  else
    let all := (sortBy (·.num) s.rel.air.faults).filter (fun f => first ≤ f.num && (!bit fl 0 || f.open_) && (!bit fl 1 || !f.acked))
    let item := fun f : FaultRec => le 4 f.num ++ le 2 f.partner ++ le 1 f.bit ++ le 1 (b2n f.open_ + 2 * b2n f.acked + 4 * b2n f.inconsistent + 8 * b2n f.confirmed) ++
      le 2 (min f.repeats 0xFFFF) ++ zeros 6 ++ le 8 f.first ++ le 8 f.last
    let got := all.take most
    (s, { status := if s.rel.devTaint.contains 1 then .tainted else .ok
          payload := le 8 s.relTick ++ le 1 got.length ++ zeros 3 ++ le 4 (((all.drop most).head?.map (·.num)).getD 0) ++ (got.map item).flatten })

/-- FAULT_ACK. -/
def ordFaultAck : Handler := fun m p c =>
  let n := fld p.payload 0 1
  if n == 0 then (c, { status := .badParam })
  else
    let nums := (List.range n).map (fun i => fld p.payload (4 + 4 * i) 4)
    let hit := fun f : FaultRec => !f.acked && (nums.contains f.num || nums.contains 0xFFFFFFFF)
    let done := (c.ord.air.faults.filter hit).length
    let c := c.modFaults (fun l => l.map (fun f => if hit f then { f with acked := true } else f))
    (c.derive 0x0E04 m (le 2 done ++ le 1 m), { payload := le 2 done ++ zeros 6 })

/-! ### Rows -/

/-- OCCURRENCE_MISSED (R303): an occurrence of the tick four before the open one that nothing was heard of. -/
def execOccurrenceMissed (partner index : Nat) (s : State) : Host.Outcome State Fault Refusal :=
  match (partnerAt s.ord partner).assigns.find? (fun a => a.index == index) with
  | some a => .next (if 4 ≤ s.clerk.tick then openCalc (fun c => c.miss partner a (c.tick - 4)) s else s)
  | none => .next s

/-- PRIMARY_RETURN_MOVE (R306). -/
def execPrimaryReturnMove (partner : Nat) (s : State) : Host.Outcome State Fault Refusal := .next (openCalc (fun c => c.returnMove partner) s)

/-- FAULT_METER_TEST (R310). -/
def execFaultMeterTest (record : Nat) (s : State) : Host.Outcome State Fault Refusal := .next (openCalc (fun c => c.meterTest record) s)

@[inherit_doc cmdPartnerStatus] def execPartnerStatus (p : Packet) (s : State) : Host.Outcome State Fault Refusal := .next (submit 0x0A01 cmdPartnerStatus p s)
/-- PARTNER_SLOT_ASSIGN (R301): ordered; `ordPartnerSlotAssign` is its effect. -/
def execPartnerSlotAssign (p : Packet) (s : State) : Host.Outcome State Fault Refusal := .next (submitW 0x0A02 p s)
@[inherit_doc cmdFaultList] def execFaultList (p : Packet) (s : State) : Host.Outcome State Fault Refusal := .next (submit 0x0A03 cmdFaultList p s)
/-- FAULT_ACK (R309): ordered; `ordFaultAck` is its effect. -/
def execFaultAck (p : Packet) (s : State) : Host.Outcome State Fault Refusal := .next (submitW 0x0A04 p s)

end Sys2Proof.Machine
end

