-- ==== Sys2Proof/Machine/Session.lean ====
section
/-!
DEFINITION. Machine/Session.lean: lantern firmware sessions (ch. 14).
-/
namespace Sys2Proof.Machine

/-- The session of a handle. -/
def sessionOf (o : Ordered) (h : Handle) : Option Session :=
  match chanOf o h with | some { body := .session x, .. } => some x | _ => none

/-- Change the session of a channel. -/
def Calc.modSession (h : Handle) (f : Session → Session) (c : Calc) : Calc :=
  c.modChan h (fun ch => match ch.body with | .session x => { ch with body := .session (f x) } | _ => ch)

/-- The hardware types a manifest names (Table 11). -/
def manifestTypes (b : List Byte) : List Nat := (List.range (fld b 12 1)).map (fun i => fld b (16 + 2 * i) 2)

/-- A SESSION_IMAGE entry, read at its place in the waybill (R311). -/
def Calc.readImage (b : List Byte) (c : Calc) : Calc :=
  c.modSession (BitVec.ofNat 32 (fld b 0 4)) (fun x => { x with image := some { length := fld b 4 4, manifest := (b.drop 8).take 64, digest := (b.drop 72).take 32 } })

/-- The radios of a mask. -/
def maskRadios (mask : Nat) : List Nat := (List.range 4).filter (fun r => bit mask r)

/-- The symbol size of a session (R312). -/
def symbolSize (o : Ordered) (tick mask : Nat) : Nat :=
  let m := (maskRadios mask).foldl (fun m r => min m (maxPsdu (cfgAt o r tick) 3)) 2047
  min 756 (4 * ((m - 23) / 4))

/-- SESSION_CONFIG (R311, R312). -/
def ordSessionConfig : Handler := fun m p c =>
  let b := p.payload
  let hw := fld b 0 2
  let mask := fld b 2 1
  let byGroup := bit (fld b 3 1) 0
  let target := fld b 4 4
  let extra := fld b 8 2
  let dur := fld b 10 4
  let g : Handle := BitVec.ofNat 32 target
  let first := target % 65536
  let last := target / 65536
  if mask == 0 || 15 < mask || 1 < fld b 3 1 || 10000 < extra || dur < 60 || 604800 < dur || (!byGroup && (last < first || 10239 < last)) then (c, { status := .badParam })
  else match (if byGroup then handleCheck c.ord (.channel 1) g else none) with
    | some st => (c, { status := st })
    | none => match chanOf c.ord p.handle, sessionOf c.ord p.handle with
      | some ch, some x =>
        let t := symbolSize c.ord c.tick mask
        let noBulk := (maskRadios mask).any (fun r => !((planAt c.ord r c.tick).kinds.contains 3))
        match x.image with
        | none => (c, { status := if ch.judged = .running ∨ ch.judged = .held then .wrongState else .incompatible })
        | some img =>
          let k := if t == 0 then 0 else (img.length + t - 1) / t
          if ch.judged = .running ∨ ch.judged = .held then (c, { status := .wrongState })
          else if !(manifestTypes img.manifest).contains hw then (c, { status := .incompatible })
          else if noBulk || t == 0 || 56403 < k then (c, { status := .range })
          else
            let all := if byGroup then membersOf c.ord.members g else (placedIn c.ord first last).map Prod.fst
            let ts := all.filter (fun n => plHw (placed c.ord n) == hw)
            let c := c.modSession p.handle (fun x => { x with hw, mask, byGroup, target, overhead := extra, duration := dur, k, t, targets := ts, excluded := all.length - ts.length, phase := 0, cause := 0, toJoin := [], joined := [], reports := [], sent := 0 })
            ((c.complete p.handle).derive 0x0E05 m (le 4 p.handle.toNat ++ le 1 0), { payload := le 2 ts.length ++ le 2 (all.length - ts.length) ++ le 2 k ++ le 2 t })
      | _, _ => (c, { status := .staleHandle })

/-- CHANNEL_START of a session: JOINING begins (R313). -/
def Calc.startSession (h : Handle) (c : Calc) : Calc :=
  c.modSession h (fun x => { x with phase := 1, cause := 0, toJoin := x.targets, joined := [], reports := [], sent := 0, start := c.tick })

/-- A session ends (R313): kind 0x0E05 with its cause. -/
def Calc.endSession (h : Handle) (phase cause : Nat) (c : Calc) : Calc :=
  (c.modSession h (fun x => { x with phase, cause })).derive 0x0E05 0xFF (le 4 h.toNat ++ le 1 cause)

/-- SESSION_ABORT. -/
def ordSessionAbort : Handler := fun _ p c =>
  match chanOf c.ord p.handle, sessionOf c.ord p.handle with
  | some ch, some x =>
    if ch.state ≠ .running || 3 ≤ x.phase || x.phase == 0 then (c, { status := .wrongState })
    else (c.endSession p.handle 4 4, {})
  | _, _ => (c, { status := .staleHandle })

/-- The cause for which a session's sending ends in a tick, if any (R313). -/
def Session.ending (x : Session) (tick : Nat) (joinsOut : Bool) : Option Nat :=
  let reported := fun n => 2 ≤ lookD n 0 x.reports && lookD n 0 x.reports ≤ 4
  if x.phase == 2 && !joinsOut && !x.joined.isEmpty && x.joined.all reported then some 1
  else if x.phase == 2 && x.k + (x.k * x.overhead + 999) / 1000 ≤ x.sent then some 2
  else if (x.phase == 1 || x.phase == 2) && x.start + 4 * x.duration ≤ tick then some 3
  else none

/-- The computation of a SESSION channel: SESSION_PROGRESS is read in every state; a RUNNING or HELD session ends when its
conditions hold (R313, Table 5 of ch. 3). -/
def Calc.session (ch : Channel) (c : Calc) : Calc :=
  let c := c.entries.foldl (fun c e => match e.body with
    | .raw b => if e.kind == 0x0A03 && fld b 0 4 == ch.handle.toNat then c.modSession ch.handle (fun x => { x with sent := fld b 12 4 }) else c
    | _ => c) c
  match sessionOf c.ord ch.handle with
  | none => c
  | some x =>
    if ch.state = .running ∨ ch.state = .held then
      match x.ending c.tick (c.ord.air.joins.any (fun j => j.2.1 == hSlot ch.handle)) with
      | some cause => c.endSession ch.handle 3 cause
      | none => c
    else c

/-- JOINs of the sessions in JOINING, at most 16 per radio in a tick (R313). -/
def Calc.sendJoins (c : Calc) : Calc :=
  (c.ord.channels.foldl (fun (acc : Calc × List Nat) ch =>
    match ch.body with
    | .session x0 =>
      if ch.state ≠ .running || x0.phase != 1 then acc
      else
        let x := (sessionOf acc.1.ord ch.handle).getD x0
        let img := x.image.getD { length := 0, manifest := [], digest := [] }
        let body := fun (_ : Nat) => le 1 x.num ++ zeros 1 ++ le 2 x.hw ++ le 4 (fld img.manifest 8 4) ++ le 4 img.length ++ le 2 x.t
        let r := x.toJoin.foldl (fun (a : Calc × List Nat) n =>
          let radio := radioFor a.1.ord n
          if 16 ≤ (a.2.filter (· == radio)).length then a
          else
            let y := a.1.sendDown n radio ((regOf a.1.ord n).airState == 4) (le 1 0x36 ++ (element 6 (body n)).1)
            let c := { y.1 with ord := { y.1.ord with air := { y.1.ord.air with joins := y.1.ord.air.joins ++ [(y.2, hSlot ch.handle, n)] } } }
            let c := c.modSession ch.handle (fun x => { x with toJoin := x.toJoin.filter (· != n) })
            (c, a.2 ++ [radio])) acc
        let done := (sessionOf r.1.ord ch.handle).any (fun x => x.toJoin.isEmpty)
        (if done then r.1.modSession ch.handle (fun x => { x with phase := 2 }) else r.1, r.2)
    | _ => acc) (c, [])).1

/-- The streamer of a session's slot. -/
def streamerOf (s : State) (slot : Nat) : Streamer := (s.air.streamers.find? (fun x => x.slot == slot)).getD { slot }

/-- ESIs begin at 0 with every start of the session (R312). -/
def Streamer.begun (start : Nat) (y : Streamer) : Streamer := if y.run == start then y else { y with run := start, esi := 0, inTick := 0 }

/-- Put a streamer back. -/
def setStreamer (x : Streamer) (s : State) : State :=
  { s with air := { s.air with streamers := s.air.streamers.filter (fun y => y.slot != x.slot) ++ [x] } }

/-- SESSION_IMAGE_LOAD (R311): the last chunk places the SESSION_IMAGE entry. -/
def cmdSessionImageLoad (p : Packet) (s : State) : State × Ans :=
  let b := p.payload
  let off := fld b 0 4
  let total := fld b 4 4
  let last := bit (fld b 8 1) 0
  let data := b.drop 12
  let x0 := streamerOf s (hSlot p.handle)
  let x : Streamer := if off == 0 && x0.placed then { slot := x0.slot } else x0
  let held := x.bytes.length + data.length
  match chanOf s.ord p.handle with
  | none => (s, { status := .staleHandle })
  | some ch =>
    if total < 64 || 8388608 < total || 1 < fld b 8 1 || off != x.bytes.length || (0 < x.bytes.length && total != x.total) || total < held || last != (held == total) then (s, { status := .badParam })
    else if ch.state = .running ∨ ch.state = .held then (s, { status := .wrongState })
    else
      let bytes := x.bytes ++ data
      let x : Streamer := { x with bytes, total }
      if !last then (setStreamer x s, { payload := le 4 held ++ zeros 4 })
      else if bytes.take 4 != [0x4C, 0x4D, 0x46, 0x33] || fld bytes 4 4 != total || fld bytes 12 1 == 0 || 8 < fld bytes 12 1 then
        (setStreamer { slot := x.slot } s, { status := .incompatible })
      else
        let entry := le 4 p.handle.toNat ++ le 4 total ++ bytes.take 64 ++ digestBytes (Config.sha256 bytes)
        let s := setStreamer { x with placed := true } s
        ({ s with clerk := { s.clerk with intake := s.clerk.intake ++ [{ cls := 6, index := 0, kind := 0x0A02, body := .raw entry }] } }, { payload := le 4 held ++ zeros 4 })

/-- SESSION_STATUS, as of the latest released tick. -/
def cmdSessionStatus (p : Packet) (s : State) : State × Ans :=
  match chanOf s.rel p.handle, sessionOf s.rel p.handle with
  | some ch, some x =>
    let n := fun k => (x.reports.filter (fun y => y.2 == k)).length
    (s, { status := if ch.tainted then .tainted else .ok
          payload := le 8 s.relTick ++ le 1 x.phase ++ le 1 x.cause ++ zeros 2 ++ le 2 x.k ++ le 2 x.t ++ le 2 x.targets.length ++ le 2 x.joined.length ++
            le 2 (n 1) ++ le 2 (n 2) ++ le 2 (n 3) ++ le 2 (n 4) ++ le 4 x.sent ++ le 8 x.start ++ zeros 8 })
  | _, _ => (s, { payload := le 8 s.relTick ++ zeros 40 })

/-- The progress entries of the sessions in SENDING at the end of a tick (R313): handle, radio mask, symbols, next ESI. -/
def sessionProgress (s : State) : State :=
  s.ord.channels.foldl (fun s ch => match ch.body with
    | .session x =>
      if x.phase != 2 then s
      else
        let y := (streamerOf s (hSlot ch.handle)).begun x.start
        let b := le 4 ch.handle.toNat ++ le 1 x.mask ++ zeros 3 ++ le 4 y.inTick ++ le 4 y.esi
        let s := setStreamer { y with inTick := 0 } s
        { s with clerk := { s.clerk with intake := s.clerk.intake ++ [{ cls := 6, index := 0, kind := 0x0A03, body := .raw b }] } }
    | _ => s) s

/-- SESSION_DURATION_EXPIRY (R313). -/
def execSessionDurationExpiry (session : Handle) (s : State) : Host.Outcome State Fault Refusal :=
  match chanOf s.ord session, sessionOf s.ord session with
  | some ch, some x =>
    if (ch.state = .running ∨ ch.state = .held) ∧ (x.phase = 1 ∨ x.phase = 2) ∧ x.start + 4 * x.duration ≤ s.clerk.tick then
      .next (openCalc (fun c => c.endSession session 3 3) s)
    else .next s
  | _, _ => .next s

/-- SESSION_CONFIG (R311): ordered; `ordSessionConfig` is its effect. -/
def execSessionConfig (p : Packet) (s : State) : Host.Outcome State Fault Refusal := .next (submitW 0x0A10 p s)
@[inherit_doc cmdSessionImageLoad] def execSessionImageLoad (p : Packet) (s : State) : Host.Outcome State Fault Refusal := .next (submit 0x0A11 cmdSessionImageLoad p s)
@[inherit_doc cmdSessionStatus] def execSessionStatus (p : Packet) (s : State) : Host.Outcome State Fault Refusal := .next (submit 0x0A12 cmdSessionStatus p s)
/-- SESSION_ABORT (R313): ordered; `ordSessionAbort` is its effect. -/
def execSessionAbort (p : Packet) (s : State) : Host.Outcome State Fault Refusal := .next (submitW 0x0A13 p s)

end Sys2Proof.Machine
end

