-- ==== Sys2Proof/Machine/Air.lean ====
section
/-!
DEFINITION. Machine/Air.lean: the air sequencers (ch. 13): slots, transmissions and their accounting, beacons and field frames
(ch. 14), received frames and acknowledgements, downlink frames, changes and failures of radios.
-/
namespace Sys2Proof.Machine

/-- The event source of a radio (Table 12). -/
def radioSource (r e : Nat) : Nat := 0x120 + 16 * r + e

/-- An entry on its way to the clerk through a radio's intake stile (R283). -/
def airEntry (r kind : Nat) (b : List Byte) (s : State) : State :=
  { s with clerk := { s.clerk with intake := s.clerk.intake ++ [{ cls := 2, index := r, kind := kind, body := .raw b }] } }

/-! ### Transmitting (R279, R281, R285, R289) -/

/-- A fixed transmission that would exceed its limit is not sent (R281). -/
def refuseFixed (r slot : Nat) (s : State) : State :=
  let n := s.clerk.tick
  let q := seqOf s r
  let due := match q.rec5 with | some t => decide (t + 240 ≤ n) | none => true
  let s := modSeq r (fun q => { q with refusals := q.refusals + 1, refusedAt := some n, alert := true, rec5 := if due then some n else q.rec5 }) (count (radioSource r 10) s)
  if due then gbk 0x0D05 0xFF (le 1 r ++ le 1 slot ++ le 1 (channelAt s.ord r n)) s else s

/-- Put a frame on the air at the start of a slot: its PSDU octets, key index, power and MAC payload; the counter of the radio
advances by 4 and is saved every 65,536 frames (R271, R279, R289). -/
def putOnAir (r slot : Nat) (fixed : Bool) (psdu key : Nat) (power : Int) (payload : List Byte) (s : State) : State :=
  let n := s.clerk.tick
  let t := airTime (cfgAt s.ord r n) psdu
  let now := slotStartUs n slot
  let tx : AirTx := { tick := n, start := now, channel := channelAt s.ord r n, time := t, fixed }
  let h := hopAt s.ord n
  let s := modSeq r (fun q =>
    let k := q.counter + 4
    { q with used := inWindow h now q.used ++ [tx], counter := k, saved := if q.saved + 262144 ≤ k then k else q.saved, onAir := q.onAir.filter (fun x => x.tick == n) ++ [{ tick := n, slot, channel := channelAt s.ord r n, power := derated s r power, key, counter := q.counter, payload }] }) s
  countN (radioSource r 14) (t / 3) s

/-- A fixed transmission of the slot plan: sent within its account's limit, or refused (R281, R444); `e` is its counter event. -/
def sendFixed (r slot psdu key : Nat) (power : Int) (payload : List Byte) (e : Nat) (s : State) : State × Bool :=
  let n := s.clerk.tick
  let now := slotStartUs n slot
  let t := airTime (cfgAt s.ord r n) psdu
  if vrfUnder s then (refuseFixed r slot (count 0x1FB s), false)
  else if accountLimit (hopAt s.ord n) < sumBy (·.time) (accountUse s r (channelAt s.ord r n) now) + t then (refuseFixed r slot s, false)
  else (count e (putOnAir r slot true psdu key power payload s), true)

/-! ### Beacons (R290, R291) -/

/-- Pages 0x00 to 0x05 of a configuration (Table 4). -/
def configPages (c : RadioCfg) (p : SlotPlan) (h : HopPlan) (r : Nat) : List (Nat × List Byte) :=
  let n := h.channels.length
  [(0, le 1 c.family ++ le 1 c.rate ++ le 1 c.option ++ le 1 c.flags ++ le 1 c.preamble ++ le 1 c.level ++ le 2 c.guard ++ le 1 p.field ++ zeros 7),
   (1, le 4 h.f0 ++ le 2 h.spacing ++ le 1 n ++ le 1 ((h.phases[r]?).getD 0) ++ zeros 8)] ++
    (List.range ((n + 15) / 16)).map (fun i => (2 + i, (List.range 16).map (fun j => BitVec.ofNat 8 ((h.channels[16 * i + j]?).getD 0xFF))))

/-- The rotation of a radio's beacon pages in a tick, and whether a change is pending (R291). -/
def beaconPages (s : State) (r tick : Nat) : List (Nat × List Byte) × Bool :=
  let o := s.ord
  let x := radioOrd o r
  let after := fun m : Nat => decide (tick < m)
  let due : List (Nat × Nat) := ((x.nextCfg.map (fun (y : Nat × RadioCfg) => (y.1, 1))).toList ++ (x.nextPlan.map (fun (y : Nat × SlotPlan) => (y.1, 2))).toList ++ (o.air.nextHop.map (fun (y : Nat × HopPlan) => (y.1, 4))).toList).filter (fun (y : Nat × Nat) => after y.1)
  let now := configPages (cfgAt o r tick) (planAt o r tick) (hopAt o tick) r
  let sessions := o.channels.filterMap (fun ch => match ch.body with
    | .session y => if ch.state = .running && y.phase == 2 && bit y.mask r then
        (let img := y.image.getD { length := 0, manifest := [], digest := [] }
         some (0x10, le 1 y.num ++ zeros 1 ++ le 2 y.hw ++ le 4 img.length ++ le 2 y.t ++ le 2 y.k ++ le 4 (fld img.manifest 8 4))) else none
    | _ => none)
  match (sortBy Prod.fst due).head? with
  | none => (now ++ sessions, false)
  | some (inst, _) =>
    let what := sumBy Prod.snd (due.filter (fun y => y.1 == inst))
    let mask := sumBy (fun k => 2 ^ (k - 3)) (changedSlots (planAt o r tick) (planAt o r inst))
    let next := configPages (cfgAt o r inst) (planAt o r inst) (hopAt o inst) r
    (now ++ [(6, le 8 inst ++ le 1 what ++ zeros 1 ++ le 2 mask ++ zeros 4)] ++ next.map (fun y => (0x80 + y.1, y.2)) ++ sessions, true)

/-- The MAC payload of a beacon (Table 3); `sfdNs` is the SFD time that R331 inserts. -/
def beaconPayload (s : State) (r sfdNs : Nat) : List Byte :=
  let n := s.clerk.tick
  let pg := beaconPages s r n
  let page := (pg.1[n % max 1 pg.1.length]?).getD (0, zeros 16)
  le 1 0x31 ++ le 1 (r + 4 * b2n pg.2) ++ le 2 Config.segmentEui ++ le 8 n ++ le 4 sfdNs ++ le 1 page.1 ++ zeros 1 ++ fit 16 page.2

/-! ### Field frames (R292) -/

/-- The gap before each entry in the cyclic order of partner numbers. -/
def gapsOf (es : List (Nat × Nat × Nat)) : List Nat :=
  es.zipIdx.map (fun x =>
    let prev := ((es[(x.2 + es.length - 1) % max 1 es.length]?).map Prod.fst).getD 0
    let g := (x.1.1 + 8192 - prev) % 8192
    if g == 0 then 8192 else g)

/-- A leg's entries in cyclic order, beginning after the largest gap, the lowest number when gaps are equal (R292). -/
def cyclicOrder (es : List (Nat × Nat × Nat)) : List (Nat × Nat × Nat) :=
  let l := sortBy Prod.fst es
  let gs := gapsOf l
  let big := gs.foldl max 0
  let at_ := (gs.zipIdx.find? (fun x => x.1 == big)).map Prod.snd
  l.drop (at_.getD 0) ++ l.take (at_.getD 0)

/-- The 32-bit word of an entry (R292). -/
def entryWord (delta target code : Nat) : List Byte := le 4 (delta % 4096 + target % 1024 * 4096 + code % 64 * 4194304)

/-- The MAC payload of a field frame over its entries in order (R292). -/
def fieldPayload (es : List (Nat × Nat × Nat)) : List Byte :=
  let base := (es.head?.map Prod.fst).getD 0
  le 1 0x32 ++ le 2 base ++ (es.foldl (fun (acc : List Byte × Nat) e => (acc.1 ++ entryWord ((e.1 + 8192 - acc.2) % 8192) e.2.1 e.2.2, e.1)) ([], base)).1

/-- A field frame of a leg: frame 1 always, frame 2 when entries are left over (R292). -/
def sendField (r slot : Nat) (s : State) : State :=
  let n := s.clerk.tick
  let cap := entriesPer (cfgAt s.ord r n)
  let es := lookD n [] (seqOf s r).field
  let mine := if slot == 1 then es.take cap else (es.drop cap).take cap
  if slot == 2 && (mine.isEmpty || (planAt s.ord r n).field != 2) then s
  else (sendFixed r slot (20 + 4 * mine.length) (2 + (cfgAt s.ord r n).key % 2) (seqOf s r).bcast (fieldPayload mine) (radioSource r 1) s).1

/-! ### Data, bulk and mini-slots (R271, R284, R299, R312) -/

/-- An assignment occupies an occurrence of a radio's slot in a tick. -/
def occupant (o : Ordered) (r slot tick : Nat) (mini : Nat) : Option (Nat × Assign) :=
  o.air.partners.findSome? (fun x => (x.2.all.find? (fun a => a.occupies && a.radio == r && a.slot == slot && a.mini == mini && a.occurs tick)).map (fun a => (x.1, a)))

/-- A partner listens in the down-pool occurrences of a radio in a tick (R295, R299). -/
def listens (s : State) (n r tick : Nat) : Bool :=
  let d := regOf s.ord n
  s.air.rescued.any (fun x => x.1 == n && x.2.1 == r && tick ≤ x.2.2 + 120) ||
    (if n ≤ 8191 then (if d.radio ≤ 3 then d.radio else plPrimary (placed s.ord n)) == r
     else s.air.heard.any (fun x => x.1 == n && x.2.1 == r && x.2.2 < tick && tick ≤ x.2.2 + 2))

/-- A downlink frame goes out in a down-pool occurrence, or is deferred by the variable budget (R281, R284); VRF under suppresses it as a refused fixed transmission (R444). -/
def sendDownlink (r slot : Nat) (s : State) : State :=
  let n := s.clerk.tick
  let cfg := cfgAt s.ord r n
  match ((seqOf s r).down.take 256).find? (fun f => listens s f.partner r n) with
  | none => s
  | some f =>
    let psdu := (if f.extended then 17 else 11) + f.payload.length + (if cfg.level == 6 then 8 else 4) + 4
    if vrfUnder s then refuseFixed r slot (count 0x1FB s)
    else if variableLeft s r (channelAt s.ord r n) (slotStartUs n slot) < airTime cfg psdu then
      count (radioSource r 9) (modSeq r (fun q => { q with deferrals := q.deferrals + 1 }) s)
    else
      let s := putOnAir r slot false psdu 1 (seqOf s r).ucast f.payload s
      modSeq r (fun q => { q with sentDown := q.sentDown + 1, awaitAck := some f.ref, down := q.down.map (fun x => if x.ref == f.ref then { x with attempts := x.attempts + 1, last := n } else x) }) s

/-- The next symbol of a session in SENDING goes out in a bulk slot; sessions take turns by slot index (R312). -/
def sendBulk (r slot : Nat) (s : State) : State :=
  let live := s.ord.channels.filterMap (fun ch => match ch.body with
    | .session x => if ch.state = .running && x.phase == 2 && bit x.mask r && !(streamerOf s (hSlot ch.handle)).poisoned then some (hSlot ch.handle, x) else none
    | _ => none)
  match (live.find? (fun y => decide (s.air.turn < y.1))).or live.head? with
  | none => s
  | some (slotIx, x) =>
    let y := (streamerOf s slotIx).begun x.start
    if y.faded then setStreamer { y with poisoned := true } (logReadFails (.image slotIx) s)
    else
    let payload := le 1 0x39 ++ le 1 x.num ++ zeros 1 ++ be 3 y.esi ++ fit x.t (Config.raptorq y.bytes x.t y.esi)
    let sent := sendFixed r slot (17 + payload.length) (2 + (cfgAt s.ord r s.clerk.tick).key % 2) (seqOf s r).bcast payload 0x16D s
    if sent.2 then setStreamer { y with esi := y.esi + 1, inTick := y.inTick + 1 } { sent.1 with air := { sent.1.air with turn := slotIx } } else sent.1

/-- The receive windows of a slot (R274, R275): the occurrences some partner owns, and the rescue slot. -/
def windowsOf (s : State) (r slot : Nat) : List (Nat × Nat) :=
  let n := s.clerk.tick
  if slot == 18 then [(18, 0xFF)]
  else if slotKind s.ord r n slot == 1 then (match occupant s.ord r slot n 0xFF with | some (_, a) => if a.role == 5 then [] else [(slot, 0xFF)] | none => [])
  else if slotKind s.ord r n slot == 2 then ((List.range 4).filter (fun m => (occupant s.ord r slot n m).isSome)).map (fun m => (slot, m))
  else []

/-- A standby listens in slot 0 of every leg on every radio that has not failed; by the end of slot 0 the leg is silent when no
beacon has been heard (R396). -/
def standbySlot (r slot : Nat) (s : State) : State :=
  let n := s.clerk.tick
  if slot == 0 then (if radioState s r ≤ 1 then modSeq r (fun q => { q with windows := [(0, 0xFF)], awaitAck := none }) s else s)
  else if slot == 1 && s.twin.leg != some n then
    let heard := s.twin.beacon
    let s := { s with twin := { s.twin with leg := some n, beacon := false, silent := if heard then 0 else s.twin.silent + 1 } }
    modSeq r (fun q => { q with windows := [] }) (if heard then s else count 0x1E5 s)
  else modSeq r (fun q => { q with windows := [] }) s

/-- A beacon that verifies under the segment EUI-64 is heard outside ACTIVE and ALONE (R396, Table 2 of ch. 20). -/
def hearBeacon (f : AirFrame) (s : State) : State :=
  if f.fcs && f.mic && fld f.payload 0 1 == 0x31 then { s with twin := { s.twin with beacon := true, foreign := s.twin.foreign || s.twin.role == 2 } } else s

/-- SLOT_START (R271): what a radio does at the start of a slot. Windows still open from earlier slots have closed. -/
def execSlotStart (radio slot : Nat) (sfdNs : Nat) (s : State) : Host.Outcome State Fault Refusal :=
  let n := s.clerk.tick
  if 3 < radio || 19 < slot || (cfgAt? s.ord radio n).isNone || !s.clerk.running || s.clerk.long then .next s
  else if slot == 18 && (radioState s radio == 0 || radioState s radio == 1) then .next (modSeq radio (fun q => { q with windows := windowsOf s radio slot, awaitAck := none }) s)
  else if s.mode.role == 2 then .next (standbySlot radio slot s)
  else if !transmitting s radio then .next s
  else
    let s := modSeq radio (fun q => { q with windows := if 3 ≤ slot then windowsOf s radio slot else [], awaitAck := none }) s
    match slot with
    | 0 =>
      let b := sendFixed radio 0 51 (2 + (cfgAt s.ord radio n).key % 2) (seqOf s radio).bcast (beaconPayload s radio sfdNs) (radioSource radio 0) s
      let s := b.1
      let s := if b.2 && s.boot.beaconMs == 0 then { s with boot := { s.boot with beaconMs := s.uptime - s.boot.released } } else s
      .next (if b.2 then count 0x187 s else s)
    | 1 | 2 => .next (sendField radio slot s)
    | 18 | 19 => .next s
    | _ =>
      match slotKind s.ord radio n slot with
      | 1 => .next (if (occupant s.ord radio slot n 0xFF).isNone then sendDownlink radio slot s else s)
      | 3 => .next (sendBulk radio slot s)
      | _ => .next s

/-! ### Receiving (R270, R275, R276, R283) -/

/-- The AIR_TX_RESULT of a frame that leaves the downlink queue (R284). -/
def finishDown (r result : Nat) (f : DownFrame) (s : State) : State :=
  let s := modSeq r (fun q => { q with down := q.down.filter (fun x => x.ref != f.ref), awaitAck := none }) s
  airEntry r 0x0902 (le 1 r ++ le 1 result ++ le 1 f.attempts ++ zeros 1 ++ le 2 f.partner ++ zeros 2 ++ le 8 f.ref ++ le 8 f.last) s

/-- An attempt went unacknowledged: after the fourth, the frame ends with result 1 (R284). -/
def missAck (r ref : Nat) (s : State) : State :=
  let s := count (radioSource r 13) (modSeq r (fun q => { q with awaitAck := none }) s)
  match (seqOf s r).down.find? (fun f => f.ref == ref) with
  | some f => if 4 ≤ f.attempts then finishDown r 1 f s else s
  | none => s

/-- A dropped frame is counted (R270). -/
def dropFrame (r e : Nat) (s : State) : State := count (radioSource r e) (modSeq r (fun q => { q with dropped := q.dropped + 1 }) s)

/-- The Enh-Ack of a frame, with NACK or without, unless the account has no room for it (R276, R281). -/
def sendAck (r slot : Nat) (nack : Bool) (f : AirFrame) (s : State) : State × Bool :=
  let cfg := cfgAt s.ord r s.clerk.tick
  let corr := clampI (-2047) 2047 (-f.sfd)
  let x := sendFixed r slot (ackOctets cfg) 1 (seqOf s r).ucast (leS 2 corr ++ le 1 (b2n nack)) (radioSource r 3) s
  if x.2 then
    let s := modSeq r (fun q => { q with acks := q.acks + 1, nacks := q.nacks + b2n nack }) x.1
    (if nack then count (radioSource r 4) s else s, true)
  else (x.1, false)

/-- The receive queue of a radio is full: 64 frames wait ahead of the clerk (R283). -/
def rxFull (s : State) (r : Nat) : Bool := 64 ≤ (s.clerk.intake.filter (fun w => w.cls == 2 && w.index == r && w.kind == 0x0901)).length

/-- A frame that finds the receive queue full (R283). -/
def rxOverflow (r slot : Nat) (ack : Bool) (f : AirFrame) (s : State) : State :=
  let n := s.clerk.tick
  let q := seqOf s r
  let due := match q.rec6 with | some t => decide (t + 240 ≤ n) | none => true
  let s := modSeq r (fun q => { q with fullAt := some n, fullCount := if due then 0 else q.fullCount + 1, rec6 := if due then some n else q.rec6 }) (count (radioSource r 11) s)
  let s := if due then gbk 0x0D06 0xFF (le 1 r ++ le 2 (q.fullCount + 1)) s else s
  if ack then (sendAck r slot true f s).1 else s

/-- A verified frame is accepted: counter kept, acknowledged on request, and passed on as AIR_FRAME (R276, R283, R289). -/
def acceptFrame (r slot mini : Nat) (ack : Bool) (f : AirFrame) (s : State) : State :=
  let n := s.clerk.tick
  let atFloor := radioState s r == 0
  let a := if ack then sendAck r slot false f s else (s, false)
  let s := a.1
  let who := (partnerOfEui s.ord f.eui).getD 0xFFFF
  let s := { s with air := { s.air with counters := put f.eui f.counter s.air.counters, heard := s.air.heard.filter (fun x => !(x.1 == who && x.2.1 == r)) ++ [(who, r, n)], rescued := if slot == 18 && a.2 then s.air.rescued.filter (fun x => x.1 != who) ++ [(who, r, n)] else s.air.rescued } }
  let s := modSeq r (fun q => { q with accepted := q.accepted + 1 }) (count (radioSource r 2) s)
  let s := if slot == 18 then count (radioSource r 15) s else s
  airEntry r 0x0901 (le 1 r ++ le 1 slot ++ le 1 mini ++ le 1 (b2n a.2 + 4 * b2n (slot == 18) + 8 * b2n atFloor) ++ le 1 (channelAt s.ord r n) ++ leS 1 f.rssi ++ le 1 f.lqi ++ zeros 1 ++
    leS 4 f.sfd ++ le 8 n ++ le 8 f.eui ++ le 4 f.counter ++ le 2 f.payload.length ++ zeros 6 ++ f.payload) s

/-- FRAME_RECEIVE (R270, R276, R283): a frame that began in an open window of a radio has ended. -/
def execFrameReceive (radio slot mini : Nat) (f : AirFrame) (s : State) : Host.Outcome State Fault Refusal :=
  let n := s.clerk.tick
  let cfg := cfgAt s.ord radio n
  let q := seqOf s radio
  if 3 < radio || (cfgAt? s.ord radio n).isNone || 1 < radioState s radio then .next s
  else if s.mode.role == 2 then .next (if slot == 0 then hearBeacon f s else s)
  else match q.awaitAck with
  | some ref =>
    if f.type != 2 then .next s
    else if !f.fcs || !f.mic then .next (missAck radio ref (dropFrame radio (if f.fcs then 6 else 5) s))
    else if f.nack then .next (missAck radio ref s)
    else match q.down.find? (fun x => x.ref == ref) with
      | some x => .next (finishDown radio 0 x (count (radioSource radio 12) s))
      | none => .next s
  | none =>
    if !q.windows.contains (slot, mini) then .next s
    else
      let s := modSeq radio (fun q => { q with windows := q.windows.filter (· != (slot, mini)) }) s
      let kind := if mini ≤ 3 then 2 else 1
      let ack := f.ackReq && 3 < mini && radioState s radio == 1
      if !f.fcs || f.version != 2 || f.type != 1 || f.pan != cfg.pan || f.level != cfg.level then .next (dropFrame radio 5 s)
      else if slot != 18 && maxPsdu cfg kind < f.psdu then .next (dropFrame radio 7 s)
      else if !f.mic || (partnerOfEui s.ord f.eui).isNone || f.counter ≤ lookD f.eui 0 s.air.counters then .next (dropFrame radio 6 s)
      else if rxFull s radio then .next (rxOverflow radio slot ack f s)
      else .next (acceptFrame radio slot mini ack f s)

/-- RECEIVE_WINDOW_TIMEOUT (R275, R284): an empty window closes; an acknowledgement that does not come leaves its attempt
unacknowledged. -/
def execReceiveWindowTimeout (radio slot mini : Nat) (s : State) : Host.Outcome State Fault Refusal :=
  let q := seqOf s radio
  if q.windows.contains (slot, mini) then
    .next (count (radioSource radio 8) (modSeq radio (fun q => { q with windows := q.windows.filter (· != (slot, mini)) }) s))
  else match q.awaitAck with
    | some ref => .next (missAck radio ref s)
    | none => .next s

/-- DOWNLINK_AGE_TIMEOUT (R284): a frame that has waited 120 s ends with result 2. -/
def execDownlinkAgeTimeout (radio ref : Nat) (s : State) : Host.Outcome State Fault Refusal :=
  match (seqOf s radio).down.find? (fun f => f.ref == ref) with
  | some f => if f.queued + 480 ≤ s.clerk.tick then .next (finishDown radio 2 f s) else .next s
  | none => .next s

/-- RADIO_ALERT_EXPIRY (R281): 60 s after the last refused fixed transmission, its alert ends. -/
def execRadioAlertExpiry (radio : Nat) (s : State) : Host.Outcome State Fault Refusal :=
  match (seqOf s radio).refusedAt with
  | some t => .next (if t + 240 ≤ s.clerk.tick then modSeq radio (fun q => { q with alert := false }) s else s)
  | none => .next s

/-! ### Changes and failures (R278, R286) -/

/-- A RADIO_STATE entry (Table 9). -/
def radioStateEntry (r st cause : Nat) (s : State) : State := airEntry r 0x0903 (le 1 r ++ le 1 st ++ le 1 cause ++ zeros 5 ++ le 8 s.clerk.tick) s

/-- CHANGE_INSTANT (R278, R286): a pending RADIO_CONFIG, slot plan or channel plan of a radio takes effect: windows and
waits of the old one end; a RADIO_CONFIG with enable 1 ends a failure; a change between floor and on is entered. -/
def execChangeInstant (radio : Nat) (s : State) : Host.Outcome State Fault Refusal :=
  let n := s.clerk.tick
  let x := radioOrd s.ord radio
  let atNow := fun o : Option Nat => o == some n
  if 3 < radio || !(atNow (x.nextCfg.map (·.1)) || atNow (x.nextPlan.map (·.1)) || atNow (s.ord.air.nextHop.map (·.1))) then .next s
  else
    let s := modSeq radio (fun q => { q with windows := [], awaitAck := none }) s
    match x.nextCfg with
    | some (m, c) =>
      if m != n then .next s
      else
        let was := (x.cfg.map (·.on)).getD false && !(c.on && (seqOf s radio).failed)
        let s := if c.on then modSeq radio (fun q => { q with failed := false, restarted := none }) s else s
        .next (if was == c.on then s else radioStateEntry radio (b2n c.on) 0 s)
    | none => .next s

/-- A restart of a radio group's domain begins (R286; Table 5 of ch. 21): both radios stop; the receive queue is lost, each
downlink frame ends with result 1. -/
def restartGroup (g : Nat) (s : State) : State :=
  [2 * g, 2 * g + 1].foldl (fun s r =>
    let lost := (s.clerk.intake.filter (fun w => w.cls == 2 && w.index == r && w.kind == 0x0901)).length
    let s := if lost == 0 then s else countN (radioSource r 11) lost s
    let s := { s with clerk := { s.clerk with intake := s.clerk.intake.filter (fun w => !(w.cls == 2 && w.index == r && w.kind == 0x0901)) } }
    let s := (seqOf s r).down.foldl (fun s f => finishDown r 1 f s) s
    modSeq r (fun q => { q with restarting := true, windows := [], awaitAck := none }) s) s

/-- The restart of a radio group is complete (R286): both radios beacon again, each with a RADIO_STATE entry of cause 4;
one that failed within 600 s of an earlier restart stays failed. -/
def groupRestarted (g : Nat) (s : State) : State :=
  [2 * g, 2 * g + 1].foldl (fun s r =>
    let s := modSeq r (fun q => { q with restarting := false, failed := q.failed && q.restarted.isSome, restarted := if q.failed && q.restarted.isNone then some s.uptime else q.restarted }) s
    gbk 0x0D07 0xFF (le 1 r ++ le 1 4) (radioStateEntry r (radioState s r) 4 s)) s

/-- RADIO_FAIL (R286): a radio that is on fails, with cause 1 lock loss, 2 power amplifier or 3 self-check; unless it has
failed again within 600 s of a restart, its group restarts. -/
def execRadioFail (radio cause : Nat) (s : State) : Host.Outcome State Fault Refusal :=
  let q := seqOf s radio
  if 3 < radio || radioState s radio != 1 then .next s
  else
    let again := match q.restarted with | some t => decide (s.uptime < t + 600000) | none => false
    let s := modSeq radio (fun q => { q with failed := true, restarted := if again then q.restarted else none, windows := [], awaitAck := none }) s
    let s := gbk 0x0D07 0xFF (le 1 radio ++ le 1 cause) (radioStateEntry radio 2 cause s)
    .next (if again then s else restartGroup (radio / 2) s)

/-- The RADIO alert (R281, R286). -/
def radioAlert (s : State) : Bool := s.air.radios.any (fun q => q.failed || q.alert)

/-- Thermal derating of the radios (R285): from the reference-point temperature in 0.1 °C, begun above 110 °C, lifted below
108 °C; kind 0x0D08 at each start and end. -/
def radioThermal (temp : Int) (s : State) : State :=
  let above : Nat := if 1110 ≤ temp then ((temp - 1100) / 10).toNat else 0
  (List.range 4).foldl (fun s r =>
    let q := seqOf s r
    let hot := decide (1100 < temp) || (q.hot && decide (1080 ≤ temp))
    let s := modSeq r (fun q => { q with hot, derating := if 1100 < temp then above else if hot then q.derating else 0 }) s
    if hot != q.hot then gbk 0x0D08 0xFF (le 1 r ++ leS 2 temp) s else s) s

end Sys2Proof.Machine
end

