-- ==== Sys2Proof/Machine/Packets.lean ====
section
/-!
DEFINITION. Machine/Packets.lean: the device and session commands of ch. 5, contradictory orders (R105 to R107), the remote
path (R108 to R112) and commands without an answer (R83, R114).
-/
namespace Sys2Proof.Machine

/-! ### Identity (ch. 4) -/

/-- DEV_ID: part 0x9640, band 1 or 2, stepping 1. -/
def bandCode : Nat := if Config.isN1 then 2 else 1
@[inherit_doc bandCode] def devId : Nat := 0x9640 + bandCode * 2 ^ 16 + 2 ^ 20

/-- FW_SET: the version of the set that runs; 0 in coppice mode. -/
def fwSet (s : State) : Nat :=
  if s.mode.coppice then 0
  else match s.firmware.running with
    | none => 0
    | some k => ((s.firmware.slots[k]?).map (·.version)).getD 0

/-- DEVICE_INFO. -/
def cmdDeviceInfo (_ : Packet) (s : State) : State × Ans :=
  (s, { payload := le 2 0x9640 ++ le 1 bandCode ++ le 1 1 ++ le 8 Config.unitSerial.toNat ++ le 1 (bits (fwSet s) 16 8) ++ le 1 (bits (fwSet s) 8 8) ++ le 1 (bits (fwSet s) 0 8) ++ le 1 s.mode.lifecycle ++ le 1 s.mode.role ++ le 1 (b2n s.host.hostsel) ++ zeros 6 })

/-- ECHO. -/
def cmdEcho (p : Packet) (s : State) : State × Ans := (s, { payload := p.payload })

/-! ### Rank (R107) -/

/-- RANK_GET. -/
def cmdRankGet (_ : Packet) (s : State) : State × Ans :=
  (s, { payload := (s.ord.rank.map (le 1)).flatten ++ zeros 3 ++ le 8 s.ord.rankTick })

/-- RANK_SET: the new order applies from waybill n + 1 (R107). -/
def ordRankSet : Handler := fun m p c =>
  let r := (List.range 5).map (fun k => fld p.payload k 1)
  if !((List.range 5).all (fun x => r.contains x)) then (c, { status := .badParam })
  else (({ c with ord := { c.ord with rank := r, rankTick := c.tick + 1 } } : Calc).derive 0x0406 m (p.payload.take 5), {})

/-! ### Mailbox binding (R84) -/

/-- The binding table as 32 bytes: MASTER_A and MASTER_B of mailboxes 0 to 15. -/
def bindTable (s : State) : List Byte := (s.host.mailboxes.map (fun m => le 1 m.masterA ++ le 1 m.masterB)).flatten

/-- MAILBOX_BIND_GET. -/
def cmdMailboxBindGet (_ : Packet) (s : State) : State × Ans :=
  (s, { payload := bindTable s ++ le 1 (b2n s.host.bindWaiting) ++ zeros 7 ++ (if s.host.bindWaiting then s.host.bindRecord.getD (zeros 32) else zeros 32) })

/-- MAILBOX_BIND_SET. -/
def cmdMailboxBindSet (p : Packet) (s : State) : State × Ans :=
  let b := p.payload
  let bad := (List.range (b.length / 2)).any (fun m => !([0, 1, 4].contains (fld b (2 * m) 1)) || !([5, 6, 7].contains (fld b (2 * m + 1) 1)))
  if bad then (s, { status := .badParam })
  else
    let h := if b.isEmpty then { s.host with bindRecord := none, bindWaiting := false } else { s.host with bindRecord := some b, bindWaiting := true }
    (gbk 0x0407 (masterOf s p.path) (le 1 (b2n (!b.isEmpty))) { s with host := h }, {})

/-! ### The remote path (R108 to R112) -/

/-- REMOTE_CFG_GET. -/
def cmdRemoteCfgGet (_ : Packet) (s : State) : State × Ans := (s, { payload := le 2 s.paths.udpPort ++ le 1 s.paths.portsEnabled ++ zeros 5 })

/-- REMOTE_CFG_SET. -/
def cmdRemoteCfgSet (p : Packet) (s : State) : State × Ans :=
  let port := fld p.payload 0 2
  let en := fld p.payload 2 1
  if 3 < en then (s, { status := .badParam })
  else if port < 1024 then (s, { status := .range })
  else (gbk 0x040A (masterOf s p.path) (le 2 port ++ le 1 en ++ le 1 (masterOf s p.path)) { s with paths := { s.paths with udpPort := port, portsEnabled := en } }, {})

/-- The 64-bit words that a command takes in an intake stile. -/
def stileWords (p : Packet) : Nat := (p.payload.length + 23) / 8

/-- A master's buffer ahead of its intake stile holds a command that has not yet entered the stile whole (R480): the words
that wait exceed the 256 of the stile. -/
def intakeFull (s : State) (m : Nat) : Bool :=
  256 < sumBy (fun (w : Waiting) => if w.cls == 1 && w.index == m then (match w.body with | .command p => stileWords p | .raw b => (b.length + 7) / 8) else 0) s.clerk.intake

/-- A remote datagram fails (R110). -/
def remoteFail (src slot : Nat) (s : State) : State :=
  count src { s with paths := { s.paths with failures := put slot (lookD slot 0 s.paths.failures + 1) s.paths.failures } }

/-- The records of the failures of a minute (R110). -/
def recordFailures (s : State) : State :=
  s.paths.failures.foldl (fun s f => gbk 0x0405 3 (le 1 f.1 ++ le 4 f.2) s) { s with paths := { s.paths with failures := [] } }

/-- A replay counter is accepted (R109). -/
def counterFresh (w : Window) (c : Nat) : Bool := w.high < c || (w.high ≤ c + 63 && c < w.high && !w.seen.contains c)

/-- The window after an accepted counter (R109). -/
def Window.accept (w : Window) (c : Nat) : Window :=
  if w.high < c then { w with high := c, seen := (w.high :: w.seen).filter (fun x => c ≤ x + 63) } else { w with seen := c :: w.seen }

/-- The key slot authenticates remote commands (R108, R110). -/
def remoteKey (s : State) (slot : Nat) : Option KeySlot :=
  match s.vault.slots[slot]? with
  | some k => if k.attr % 256 == 2 && !k.bad then some k else none
  | none => none

/-- A slot has been used once more (R368). -/
def useSlot (slot : Nat) (s : State) : State :=
  { s with vault := { s.vault with slots := modAt s.vault.slots slot (fun k => { k with uses := k.uses + 1 }) } }

/-- A packet of the remote path has passed its authentication: the intake checks, then the intake or the queue of 32 (R112). -/
def remotePacket (p : Packet) (s : State) : State :=
  if !taking s then s
  else match intakeCheck s p with
    | some st => refuse p st s
    | none =>
      if intakeFull s 3 || !s.paths.remoteQueue.isEmpty then
        if s.paths.remoteQueue.length < 32 then takeTag p { s with paths := { s.paths with remoteQueue := s.paths.remoteQueue ++ [waitingOf s p] } }
        else refuse p .deferred s
      else enqueue p s

/-- REMOTE_DATAGRAM (R108 to R110): datagram of port BH0 or BH1, from an address and UDP port, to the module's UDP port. -/
def execRemoteDatagram (port addr udp dest : Nat) (b : List Byte) (s : State) : Host.Outcome State Fault Refusal :=
  .next (
    let slot := fld b 2 1
    let body := b.take (b.length - 8)
    let c := fld b 8 8
    if 1 < port || !bit s.paths.portsEnabled port || !linkUp s port || dest ≠ s.paths.udpPort || s.mode.coppice then s
    else if b.length < 40 || 4120 < b.length || fld b 0 1 != 0x47 || fld b 1 1 != 0x43 || b.length != fld b 22 2 + 40 then remoteFail 0x077 slot s
    else match remoteKey s slot with
      | none => remoteFail 0x077 slot s
      | some k =>
        let s := useSlot slot s
        let w := (s.paths.windows.find? (fun w => w.slot == slot)).getD { slot }
        if (Config.cmac k.key body).toNat != fld b (b.length - 8) 8 then remoteFail 0x075 slot s
        else if c == 0 || !counterFresh w c then remoteFail 0x076 slot s
        else
          let windows := s.paths.windows.filter (fun x => x.slot != slot) ++ [w.accept c]
          let s := count 0x074 { s with paths := { s.paths with windows, accepted := modAt s.paths.accepted port (satAdd 32 · 1) } }
          remotePacket (parsePacket (.remote port slot addr udp) (body.drop 16)) s)

/-- The queue of the network block moves on into the intake while there is room (R112). -/
def drainRemote (s : State) : State :=
  match s.paths.remoteQueue with
  | [] => s
  | w :: r => if intakeFull s 3 then s else { s with paths := { s.paths with remoteQueue := r }, clerk := { s.clerk with intake := s.clerk.intake ++ [w] } }

/-! ### Commands without an answer -/

/-- A tag whose command has had its one final reply: no later answer matches it (R99). -/
def closeFlight (path : Path) (tag : Nat) (s : State) : State :=
  let close := fun (f : Flight) => if sameLane f.path path && f.tag == tag then { f with opcode := 2 ^ 16 } else f
  { s with paths := { s.paths with flights := s.paths.flights.map close } }

/-- INTAKE_TIMEOUT (R83, R114): the command with that tag has been read by the clerk and has neither ACCEPTED nor a final
status. -/
def execIntakeTimeout (path : Path) (tag : Nat) (s : State) : Host.Outcome State Fault Refusal :=
  .next (
    let waits := fun (p : Packet) => sameLane p.path path && p.tag == tag
    let unread := (s.clerk.intake ++ s.paths.remoteQueue).any (fun w => match w.body with | .command p => waits p | .raw _ => false)
    let host := match path with | .ring .. | .mailbox _ => true | _ => false
    let remote := match path with | .remote .. => true | _ => false
    let place := match path with | .ring r .. => r | .mailbox m => 0x80 + m | .remote p .. => 0x40 + p | _ => 0xFF
    match s.paths.flights.find? (fun f => sameLane f.path path && f.tag == tag && !f.answered) with
    | none => s
    | some f =>
      if unread || !(host || remote) then s
      else
        let s := gbk 0x0404 (masterOf s f.path) (le 1 (masterOf s f.path) ++ le 1 place ++ le 1 tag) s
        let s := if host then count 0x06B s else s
        sendReply { path := f.path, flags := f.flags % 4, opcode := f.opcode, tag, status := Status.timeout.code, handle := f.handle, tick := tickNow s % 2 ^ 32 } (closeFlight f.path tag (markAnswered f.path tag s)))

/-! ### Contradictory orders (R105, R106) -/

/-- The opcodes their chapters declare cumulative (R105). -/
def cumulative (op : Nat) : Bool := [0x0101, 0x0202, 0x0402, 0x0504, 0x0602, 0x0603, 0x0706, 0x0A04].contains op

/-- The key fields that the owning chapters name beside the handle. -/
def keyFields (p : Packet) : List Nat :=
  let b := p.payload
  match p.opcode with
  | 0x0420 | 0x0421 | 0x0502 | 0x0601 | 0x0604 | 0x0605 | 0x0607 | 0x0608 | 0x0702 | 0x0703 | 0x0823 | 0x0824 | 0x0901 | 0x0902 | 0x0906 => [fld b 0 1]
  | 0x0503 | 0x0A02 => [fld b 0 2]
  | 0x0802 => [fld b 0 1, fld b 1 1]
  | 0x0805 => [fld b 1 1, fld b 2 1, fld b 3 1]
  | _ => []

/-- The opcode family (R105, R148). -/
def family (op : Nat) : Nat := if op == 0x0421 then 0x0420 else op

/-- A cancel of all override slots (R148). -/
def cancelsAll (p : Packet) : Bool := p.opcode == 0x0421 && fld p.payload 0 1 == 0xFF

/-- Two commands contradict (R105, R148). -/
def contradicts (p q : Packet) : Bool :=
  !cumulative p.opcode && family p.opcode == family q.opcode && p.handle == q.handle &&
    (keyFields p == keyFields q || cancelsAll p || cancelsAll q)

/-- An ordered command of a waybill: its entry sequence, its master and its packet. -/
structure Contender where
  entry : Nat
  master : Nat
  packet : Packet
  deriving DecidableEq, Repr

/-- The place of a master in the rank; internal masters stand below (R107). -/
def rankOf (rank : List Nat) (m : Nat) : Nat := if m < 5 then rank.idxOf m else m

/-- The precedence of a command as a number, lower first (R106): EMERGENCY, rank, later acceptance. -/
def precedence (rank : List Nat) (x : Contender) : Nat :=
  (if x.packet.emergency then 0 else 2 ^ 20) + rankOf rank x.master * 2 ^ 16 + (65535 - x.entry)

/-- Settle the commands of a waybill: winners, and losers each with the winner of highest precedence it contradicts (R106). -/
def settle (rank : List Nat) (xs : List Contender) : List Contender × List (Contender × Contender) :=
  (sortBy (precedence rank) xs).foldl (fun acc x =>
    match acc.1.find? (fun w => contradicts w.packet x.packet) with
    | some w => (acc.1, acc.2 ++ [(x, w)])
    | none => (acc.1 ++ [x], acc.2)) ([], [])

/-- The payload of a SUPERSEDED reply (R106). -/
def supersededPayload (w : Contender) : List Byte := le 1 w.master ++ le 1 (b2n w.packet.emergency) ++ le 2 w.entry

@[inherit_doc cmdDeviceInfo] def execDeviceInfo (p : Packet) (s : State) : Host.Outcome State Fault Refusal := .next (submit 0x0001 cmdDeviceInfo p s)
@[inherit_doc cmdEcho] def execEcho (p : Packet) (s : State) : Host.Outcome State Fault Refusal := .next (submit 0x0002 cmdEcho p s)
@[inherit_doc cmdRankGet] def execRankGet (p : Packet) (s : State) : Host.Outcome State Fault Refusal := .next (submit 0x0010 cmdRankGet p s)
@[inherit_doc ordRankSet] def execRankSet (p : Packet) (s : State) : Host.Outcome State Fault Refusal := .next (submitW 0x0011 p s)
@[inherit_doc cmdMailboxBindGet] def execMailboxBindGet (p : Packet) (s : State) : Host.Outcome State Fault Refusal := .next (submit 0x0018 cmdMailboxBindGet p s)
@[inherit_doc cmdMailboxBindSet] def execMailboxBindSet (p : Packet) (s : State) : Host.Outcome State Fault Refusal := .next (submit 0x0019 cmdMailboxBindSet p s)
@[inherit_doc cmdRemoteCfgGet] def execRemoteCfgGet (p : Packet) (s : State) : Host.Outcome State Fault Refusal := .next (submit 0x0020 cmdRemoteCfgGet p s)
@[inherit_doc cmdRemoteCfgSet] def execRemoteCfgSet (p : Packet) (s : State) : Host.Outcome State Fault Refusal := .next (submit 0x0021 cmdRemoteCfgSet p s)

end Sys2Proof.Machine
end

