-- ==== Sys2Proof/Machine/Streams.lean ====
section
/-!
DEFINITION. Machine/Streams.lean: STREAM channels (R115 to R119).
-/
namespace Sys2Proof.Machine

/-! ### Items -/

/-- The content selectors of the module (R115). -/
def selectorKnown (code : Nat) : Bool := [0x0201, 0x0202, 0x0301, 0x0302, 0x0801, 0x0802, 0x0803].contains code

/-- A stream's selector takes an item of that selector and key: every item of 0x0201, 0x0202 and 0x0301, the items of its
mask of 0x0302, and those of its circuits of 0x0801 to 0x0803 (R249). -/
def Selector.takes (x : Selector) (code key : Nat) : Bool :=
  x.code == code && (code < 0x0302 || (code == 0x0302 && x.filter == key) || (0x0801 ≤ code && x.filter &&& key != 0))

/-- The bytes of data that wait in the working-store queue, and in the spill area (R118). -/
def StreamRun.queued (r : StreamRun) : Nat := sumBy (fun (i : StreamItem) => if i.spilled || i.gap then 0 else i.data.length - i.sent) r.waiting
@[inherit_doc StreamRun.queued] def StreamRun.spilled (r : StreamRun) : Nat := sumBy (fun (i : StreamItem) => if i.spilled then i.data.length - i.sent else 0) r.waiting

/-- The gap item that stands for a run of dropped items (R118). -/
def gapItem (num tick last lastTick n : Nat) : StreamItem :=
  { num, tick, selector := 0, gap := true, data := le 8 last ++ le 8 lastTick ++ le 8 n }

/-- Put a dropped item's gap where the item stood: runs join (R118). -/
def dropAt (f : StreamItem → Bool) : List StreamItem → List StreamItem
  | [] => []
  | i :: r =>
    if i.gap then
      match r with
      | j :: r' =>
        if f j && !j.gap && j.sent == 0 && i.sent == 0 then gapItem i.num i.tick j.num j.tick (fld i.data 16 8 + 1) :: r'
        else i :: dropAt f r
      | [] => [i]
    else if f i && i.sent == 0 then gapItem i.num i.tick i.num i.tick 1 :: r
    else i :: dropAt f r

/-- The oldest waiting item of which no fragment has been sent (R118). -/
def oldestUnsent (is : List StreamItem) : Option StreamItem := is.find? (fun i => !i.gap && i.sent == 0)

/-- Make room: spill the oldest waiting items, or drop the oldest unsent one (R118). The answer counts items spilled and
dropped. -/
def makeRoom (queue spill : Nat) : Nat → StreamRun × Nat × Nat → StreamRun × Nat × Nat
  | 0, x => x
  | fuel + 1, (r, sp, dr) =>
    if r.queued ≤ queue then (r, sp, dr)
    else match r.waiting.find? (fun i => !i.gap && !i.spilled) with
      | none => (r, sp, dr)
      | some i =>
        if r.spilled + (i.data.length - i.sent) ≤ spill then
          let mark := fun (x : StreamItem) => if !x.gap && x.num == i.num then { x with spilled := true } else x
          makeRoom queue spill fuel ({ r with waiting := r.waiting.map mark }, sp + 1, dr)
        else match oldestUnsent r.waiting with
          | none => (r, sp, dr)
          | some d => makeRoom queue spill fuel ({ r with waiting := dropAt (fun x => x.num == d.num) r.waiting, dropped := r.dropped + 1 }, sp, dr + 1)

/-- An item joins a stream (R115, R118). -/
def StreamRun.add (cfg : StreamCfg) (tick sel : Nat) (b : List Byte) (r : StreamRun) : StreamRun × Nat × Nat :=
  let r := { r with nextItem := r.nextItem + 1, waiting := r.waiting ++ [{ num := r.nextItem, tick, selector := sel, data := b }] }
  makeRoom (cfg.queueKiB * 1024) (cfg.spillMiB * 1048576) (2 * r.waiting.length + 2) (r, 0, 0)

/-- One item for one stream, with its events counted. -/
def addItem (cfg : StreamCfg) (slot tick sel : Nat) (b : List Byte) (s : State) : State :=
  match s.streams.find? (fun r => r.slot == slot) with
  | none => s
  | some r =>
    let x := r.add cfg tick sel b
    countN 0x07B x.2.2 (countN 0x07A x.2.1 (modStream slot (fun _ => x.1) s))

/-- A channel produces items: it has been started (R115, R119, Table 5 of ch. 3). -/
def Channel.producing (c : Channel) : Bool := c.judged == .running || c.judged == .held

/-- The items of one tick for one stream, in the order of its selectors; a snapshot asked for is taken now (R115, R133). -/
def produceFor (o : Ordered) (tick : Nat) (items : List (Nat × Nat × List Byte)) (ch : Channel) (s : State) : State :=
  match ch.body with
  | .stream cfg =>
    if ch.producing then
      let slot := hSlot ch.handle
      let one := fun (s : State) (x : Selector) =>
        if x.code == 0x0301 then
          match (s.streams.find? (fun r => r.slot == slot)).bind (·.snapshot) with
          | none => s
          | some (a, b) =>
            (registryItems o 10240 (placedIn o a b)).foldl (fun s i => addItem cfg slot tick 0x0301 i s) (modStream slot (fun r => { r with snapshot := none }) s)
        else (items.filter (fun i => x.takes i.1 i.2.1)).foldl (fun s i => addItem cfg slot tick x.code i.2.2 s) s
      cfg.selectors.foldl one s
    else s
  | _ => s

/-- The items of a tick are produced for every stream (R115). -/
def produce (o : Ordered) (tick : Nat) (items : List (Nat × Nat × List Byte)) (s : State) : State :=
  o.channels.foldl (fun s ch => produceFor o tick items ch s) s

/-- A waiting item that the store has lost is dropped, with a gap item (R118, Table 7 of ch. 17). -/
def dropStreamItem (h : Handle) (num : Nat) (s : State) : State :=
  match s.streams.find? (fun r => r.slot == hSlot h) with
  | none => s
  | some r =>
    if r.waiting.any (fun i => i.num == num && !i.gap) then
      let cut := r.waiting.map (fun i => if i.num == num && !i.gap then { i with sent := 0 } else i)
      count 0x07B (modStream (hSlot h) (fun r => { r with waiting := dropAt (fun i => i.num == num) cut, dropped := r.dropped + 1 }) s)
    else s

/-- The delivery sides follow the channels: a stream started in the tick begins at message 1 and item 1; one that is gone has
none (R115). -/
def syncStreams (old new : Ordered) (s : State) : State :=
  let live := new.channels.filter (fun c => hType c.handle == 8 && c.producing)
  let one := fun (c : Channel) =>
    let was := match chanOf old c.handle with | some o => o.producing | none => false
    match was, s.streams.find? (fun r => r.slot == hSlot c.handle), c.body with
    | true, some r, _ => r
    | _, _, .stream cfg => { slot := hSlot c.handle, window := cfg.window }
    | _, _, _ => { slot := hSlot c.handle }
  { s with streams := live.map one }

/-! ### Messages (R116, R117) -/

/-- One fragment (Table 7). -/
def fragment (i : StreamItem) (n : Nat) : List Byte :=
  le 8 i.num ++ le 8 i.tick ++ le 2 i.selector ++
    le 2 (b2n (i.sent == 0) + 2 * b2n (i.sent + n == i.data.length) + 4 * b2n i.gap) ++ le 4 n ++ le 4 i.data.length ++ le 4 i.sent ++
    pad8 ((i.data.drop i.sent).take n)

/-- The fragments that fit a message: their bytes, how many, what still waits, and the gap items whose last fragment is
among them. -/
def takeFragments : List StreamItem → Nat → Nat → List Byte × Nat × List StreamItem × List StreamItem
  | [], _, _ => ([], 0, [], [])
  | i :: r, space, left =>
    if left == 0 || space < 40 then ([], 0, i :: r, [])
    else
      let n := min (i.data.length - i.sent) ((space - 32) / 8 * 8)
      let f := fragment i n
      if i.sent + n < i.data.length then (f, 1, { i with sent := i.sent + n } :: r, [])
      else
        let x := takeFragments r (space - f.length) (left - 1)
        (f ++ x.1, x.2.1 + 1, x.2.2.1, if i.gap then i :: x.2.2.2 else x.2.2.2)

/-- The payload of message `n` (Table 7). -/
def messagePayload (n frags : Nat) (gap : Bool) (b : List Byte) : List Byte := le 8 n ++ le 2 frags ++ le 2 (b2n gap) ++ zeros 4 ++ b

/-- The items that a message of what waits would read. -/
def StreamRun.reads (r : StreamRun) : List StreamItem :=
  let rest := (takeFragments r.waiting 4064 127).2.2.1
  r.waiting.filter (fun i => !rest.contains i)

/-- Spilled items that a message would read from blocks that fail are dropped, with a gap item (R118, R365); the fuel is how many wait. -/
def readSpill (h : Handle) : Nat → StreamRun → State → StreamRun × State
  | 0, r, s => (r, s)
  | n + 1, r, s => match r.reads.find? (fun i => i.faded && i.spilled && !i.gap) with
    | none => (r, s)
    | some i =>
      let cut := r.waiting.map (fun x => if x == i then { x with sent := 0 } else x)
      readSpill h n { r with waiting := dropAt (fun x => x.num == i.num) cut, dropped := r.dropped + 1 } (count 0x07B (logReadFails (.spill h i.num) s))

/-- The next message is formed from the items that wait; each gap item writes kind 0x0408 (R116, R118). -/
def formMessage (h : Handle) (r : StreamRun) (s : State) : State × StreamMsg :=
  let y := readSpill h r.waiting.length r s
  let x := takeFragments y.1.waiting 4064 127
  let m : StreamMsg := { num := r.lastSent + 1, payload := messagePayload (r.lastSent + 1) x.2.1 (!x.2.2.2.isEmpty) x.1 }
  let s := modStream (hSlot h) (fun r => { r with lastSent := m.num, waiting := x.2.2.1, unacked := r.unacked ++ [m], gaps := r.gaps + x.2.2.2.length, dropped := y.1.dropped }) y.2
  let rec_ := fun (s : State) (g : StreamItem) => gbk 0x0408 0xFF (le 4 h.toNat ++ le 8 g.num ++ le 8 (fld g.data 0 8) ++ le 4 (fld g.data 16 8)) s
  (count 0x078 (x.2.2.2.foldl rec_ s), m)

/-- A stream message as it leaves: a reply header with opcode STREAM_DATA (R116). -/
def messageBytes (h : Handle) (tick : Nat) (m : StreamMsg) : List Byte :=
  Reply.bytes { path := .internal 0, opcode := 0x0044, status := 0, handle := h, tick := tick % 2 ^ 32, payload := m.payload }

/-- A message pushed to master 3 leaves on a port that is enabled and up: BH0 first (log entry 26). -/
def pushMessage (h : Handle) (cfg : StreamCfg) (m : StreamMsg) (s : State) : State :=
  let port := if bit s.paths.portsEnabled 0 && linkUp s 0 then 0 else 1
  sendRemote port cfg.keySlot cfg.addr cfg.udp (messageBytes h (tickNow s) m) s

/-- STREAM_MESSAGE_SEND (R117): a RUNNING push stream with items waiting and room in its window sends its next message. -/
def execStreamMessageSend (stream : Handle) (s : State) : Host.Outcome State Fault Refusal :=
  .next (match chanOf s.ord stream, streamOf s.ord stream, s.streams.find? (fun r => r.slot == hSlot stream) with
    | some ch, some cfg, some r =>
      if ch.state = .running && cfg.master == 3 && !r.waiting.isEmpty && r.lastSent < r.ack + r.window then
        pushMessage stream cfg (formMessage stream r s).2 (formMessage stream r s).1
      else s
    | _, _, _ => s)

/-- STREAM_RESEND (R117): a pushed message not acknowledged in its time is sent again. -/
def execStreamResend (stream : Handle) (message : Nat) (s : State) : Host.Outcome State Fault Refusal :=
  .next (match chanOf s.ord stream, streamOf s.ord stream, s.streams.find? (fun r => r.slot == hSlot stream) with
    | some ch, some cfg, some r =>
      match r.unacked.find? (fun m => m.num == message) with
      | some m =>
        if ch.state = .running && cfg.master == 3 then
          let mark := fun (x : StreamMsg) => if x.num == message then { x with resends := x.resends + 1 } else x
          count 0x079 (pushMessage stream cfg m (modStream (hSlot stream) (fun r => { r with unacked := r.unacked.map mark }) s))
        else s
      | none => s
    | _, _, _ => s)

/-! ### Commands -/

/-- STREAM_CONFIG. -/
def ordStreamConfig : Handler := fun _ p c =>
  let b := p.payload
  let n := fld b 1 1
  let sels := (List.range n).map (fun i => (⟨fld b (32 + 8 * i) 2, fld b (36 + 8 * i) 4⟩ : Selector))
  let dest := fld b 0 1
  let spill := fld b 8 2
  let others := sumBy (fun (x : Channel) => if x.handle == p.handle then 0 else match x.body with | .stream q => q.spillMiB | _ => 0) c.ord.channels
  match chanOf c.ord p.handle with
  | none => (c, { status := .staleHandle })
  | some ch =>
    if 3 < dest || sels.any (fun x => !selectorKnown x.code) then (c, { status := .badParam })
    else if n == 0 || 8 < n || (dest == 3 && (fld b 2 1 == 0 || 64 < fld b 2 1 || 63 < fld b 10 1)) || fld b 4 4 < 256 || 8192 < fld b 4 4 || 512 < spill ||
        sels.any (fun x => x.code == 0x0301 && x.filter != 0) then (c, { status := .range })
    else if 512 < others + spill then (c, { status := .noResource })
    else if ch.judged == .running then (c, { status := .wrongState })
    else
      let cfg : StreamCfg := { master := dest, window := if dest == 3 then fld b 2 1 else 1, queueKiB := fld b 4 4, spillMiB := spill, keySlot := fld b 10 1, udp := fld b 12 2, addr := fld b 16 16, selectors := sels, configured := true }
      (c.modChan p.handle (fun x => ({ x with body := .stream cfg } : Channel).complete c.tick), {})

/-- The acknowledged-through number moves to `a`. -/
def StreamRun.acked (a : Nat) (r : StreamRun) : StreamRun := { r with ack := a, unacked := r.unacked.filter (fun m => a < m.num) }

/-- STREAM_CREDIT (R117). -/
def cmdStreamCredit (p : Packet) (s : State) : State × Ans :=
  let a := fld p.payload 0 8
  let w := fld p.payload 8 1
  let slot := hSlot p.handle
  match streamOf s.ord p.handle with
  | none => (s, { status := .staleHandle })
  | some cfg =>
    let r := (s.streams.find? (fun r => r.slot == slot)).getD { slot }
    if r.lastSent < a || 64 < w then (s, { status := .badParam })
    else if !cfg.configured || cfg.master ≠ masterOf s p.path then (s, { status := .notPermitted })
    else if cfg.master ≠ 3 then (s, { status := .wrongState })
    else (modStream slot (fun r => { r.acked a with window := w }) s, {})

/-- STREAM_READ (R117, R119): message A + 1, sent again or formed now; a message without fragments and without a number of its
own when nothing is sent. -/
def cmdStreamRead (p : Packet) (s : State) : State × Ans :=
  let a := fld p.payload 0 8
  let slot := hSlot p.handle
  match chanOf s.ord p.handle, streamOf s.ord p.handle with
  | some ch, some cfg =>
    let r := (s.streams.find? (fun r => r.slot == slot)).getD { slot }
    if r.lastSent < a || a < r.ack then (s, { status := .badParam })
    else if !cfg.configured || cfg.master ≠ masterOf s p.path then (s, { status := .notPermitted })
    else if cfg.master == 3 then (s, { status := .wrongState })
    else
      let s := modStream slot (StreamRun.acked a) s
      let r := r.acked a
      if ch.state ≠ .running then (s, { payload := messagePayload 0 0 false [] })
      else match r.unacked.find? (fun m => m.num == a + 1) with
        | some m => (count 0x079 s, { payload := m.payload })
        | none =>
          if r.waiting.isEmpty then (s, { payload := messagePayload 0 0 false [] })
          else ((formMessage p.handle r s).1, { payload := (formMessage p.handle r s).2.payload })
  | _, _ => (s, { status := .staleHandle })

/-- STREAM_STATUS. -/
def cmdStreamStatus (p : Packet) (s : State) : State × Ans :=
  let r := (s.streams.find? (fun r => r.slot == hSlot p.handle)).getD { slot := hSlot p.handle, window := 0 }
  (s, { payload := le 8 r.lastSent ++ le 8 r.ack ++ le 4 r.queued ++ le 8 r.spilled ++ le 8 r.dropped ++ le 4 r.gaps ++ le 1 r.window ++ zeros 7 })

@[inherit_doc ordStreamConfig] def execStreamConfig (p : Packet) (s : State) : Host.Outcome State Fault Refusal := .next (submitW 0x0040 p s)
@[inherit_doc cmdStreamCredit] def execStreamCredit (p : Packet) (s : State) : Host.Outcome State Fault Refusal := .next (submit 0x0041 cmdStreamCredit p s)
@[inherit_doc cmdStreamRead] def execStreamRead (p : Packet) (s : State) : Host.Outcome State Fault Refusal := .next (submit 0x0042 cmdStreamRead p s)
@[inherit_doc cmdStreamStatus] def execStreamStatus (p : Packet) (s : State) : Host.Outcome State Fault Refusal := .next (submit 0x0043 cmdStreamStatus p s)

end Sys2Proof.Machine
end

