-- ==== Sys2Proof/Machine/Store.lean ====
section
/-!
DEFINITION. Machine/Store.lean: the stores of D5 (ch. 17): regions, findings, evacuations, the Pruner and the daily scrub.
-/
namespace Sys2Proof.Machine

/-! ### Regions -/

/-- Minutes of uptime. -/
def minuteNow (s : State) : Nat := s.uptime / 60000

/-- The events of the last sixty minute buckets (R356). -/
def recentCount (now : Nat) (l : List (Nat × Nat)) : Nat := sumBy (fun (x : Nat × Nat) => if now < x.1 + 60 then x.2 else 0) l

/-- Count in the bucket of a minute; buckets older than sixty minutes go. -/
def addRecent (now n : Nat) (l : List (Nat × Nat)) : List (Nat × Nat) := put now (lookD now 0 l + n) (l.filter (fun x => now < x.1 + 60))

/-- Change a region. -/
def modRegion (r : Nat) (f : Region → Region) (s : State) : State := { s with store := { s.store with regions := modAt s.store.regions r f } }

/-- The lowest region that satisfies a condition. -/
def findRegion (s : State) (f : Region → Bool) : Option Nat := (List.range 128).find? (fun k => (s.store.regions[k]?).any f)

/-- The store areas as boot divides the regions that are not retired (R348, R357): ring, checkpoints, firmware, pool, spare. -/
def divideRegions (retired : List Nat) : List Region :=
  ((List.range 128).foldl (fun (acc : List Region × Nat) k =>
    if retired.contains k then (acc.1 ++ [{ state := 3, area := 3 }], acc.2)
    else
      let n := acc.2
      let r : Region := if n < 32 then { state := 1, area := 0, strong := some true } else if n < 56 then { state := 1, area := 1, strong := some true } else if n < 60 then { state := 1, area := 2, strong := some true } else if n < 120 then { state := 0, area := 3 } else { state := 4, area := 4 }
      (acc.1 ++ [r], n + 1)) ([], 0)).1

/-- A region for a channel's state: a STRONG pool region with room, else the lowest free pool region (log entry 28). -/
def allocRegion (h : Handle) (s : State) : State × List Nat :=
  match findRegion s (fun r => r.state == 1 && r.area == 3 && r.strong == some true && r.owners.length < 128) with
  | some k => (modRegion k (fun r => { r with owners := r.owners ++ [h] }) s, [k])
  | none => match findRegion s (fun r => r.state == 0 && r.area == 3) with
    | some k => (modRegion k (fun r => { r with state := 1, strong := some true, owners := [h] }) s, [k])
    | none => (s, [])

/-- A channel's regions are freed: a pool region without owners is free, and its poison stays (R361). -/
def freeRegions (h : Handle) (s : State) : State :=
  let drop := fun (r : Region) =>
    if r.owners.contains h then
      let r := { r with owners := r.owners.filter (· != h) }
      if r.owners.isEmpty && r.area == 3 && r.state == 1 then { r with state := 0, strong := none } else r
    else r
  { s with store := { s.store with regions := s.store.regions.map drop } }

/-- Store flags (R366 Table 8). -/
def storeFlags (s : State) : Nat := s.store.latched % 4 + 4 * b2n s.store.spareOut + 8 * b2n s.store.overdue + s.store.latched / 16 % 16 * 16

/-- Latch a store flag. -/
def latchStore (k : Nat) (s : State) : State := { s with store := { s.store with latched := s.store.latched ||| 2 ^ k } }

/-! ### Findings (R361) -/

/-- Queue an evacuation unless the region already leaves or has left (R356, R357). -/
def queueEvacuation (r cause : Nat) (s : State) : State :=
  let out := match s.store.regions[r]? with | some x => x.state == 3 || x.state == 2 | none => true
  if out || s.store.queue.any (fun q => q.1 == r) || s.store.running.any (fun q => q.1 == r) then s
  else { s with store := { s.store with queue := s.store.queue ++ [(r, cause)] } }

/-- A reply with the mark (R36). -/
def CmdResult.taint (a : CmdResult) : CmdResult := { a with tainted := true, status := if a.status == Status.ok.code then Status.tainted.code else a.status }

/-- The outputs of a device computation that is running carry TAINTED (R361 step 3). -/
def taintComp (k : Nat) (r : TickResult) : TickResult :=
  { r with devTaint := r.devTaint ++ [k], replies := r.replies.map (fun a => if compOf a.packet == some k then a.taint else a)
           recordsTainted := r.recordsTainted || r.recordOwners.any (fun x => x == compOwner k || (k == 2 && hType x == 4)) }

/-- The outputs of a channel's running computation carry TAINTED: its items, its replies and the records it derived. -/
def taintChan (h : Handle) (made : List Item) (r : TickResult) : TickResult :=
  { r with items := r.items.map (fun i => if made.contains i then { i with tainted := true } else i)
           replies := r.replies.map (fun a => if a.packet.handle == h then a.taint else a), recordsTainted := r.recordsTainted || r.recordOwners.contains h }

/-- A channel and its posts carry the mark (R36). -/
def markChan (h : Handle) (o : Ordered) : Ordered :=
  { o.modChan h (fun c => { c with tainted := true }) with posts := o.posts.map (fun p => if p.src == h then { p with tainted := true } else p) }

/-- The outputs that an owner releases next carry TAINTED (R361 step 3): those of its computation that is running, and else of its next.
The issue step runs from the end of the group computations to its own. -/
def taintOwner (h : Handle) (s : State) : State :=
  let next := if s.store.taint.contains h then s else { s with store := { s.store with taint := s.store.taint ++ [h] } }
  match s.computed.getLast? with
  | none => next
  | some (r, o) =>
    if hType h == 15 then
      let k := hSlot h
      if k == 0 && r.issued then next
      else { s with computed := s.computed.dropLast ++ [(taintComp k r, { o with devTaint := o.devTaint ++ [k] })] }
    else
      match chanOf o h with
      | none => next
      | some ch =>
        let s := { s with computed := s.computed.dropLast ++ [(taintChan h ch.lastItems r, markChan h o)], ord := markChan h s.ord }
        if ch.tainted then s else gbk 0x0506 0xFF (le 4 h.toNat ++ le 8 r.tick) { s with clerk := { s.clerk with taint := true } }

/-- A rebuild is due for an owner, unless one is running or waiting. -/
def queueRebuild (h : Handle) (s : State) : State :=
  if s.inn.rebuilds.any (fun r => r.handle == h) || s.inn.waiting.any (fun r => r.handle == h) then s
  else { s with inn := { s.inn with waiting := s.inn.waiting ++ [{ handle := h, finding := true }] } }

/-- The owning handle of Table 7. -/
def ownerHandle : StoreOwner → Handle
  | .channel h => h
  | .post dst => dst
  | .stream h _ => h
  | .free => 0
  | _ => deviceHandle

/-- What is done with the owner of a finding (Table 7). -/
def ownerAction (o : StoreOwner) (s : State) : State :=
  match o with
  | .channel h => queueRebuild h (taintOwner h s)
  | .device k => queueRebuild (compOwner k) (taintOwner (compOwner k) s)
  | .post dst => { s with store := { s.store with postTaint := s.store.postTaint ++ [dst] } }
  | .waybill tick off => { s with store := { s.store with badWaybills := s.store.badWaybills ++ [(tick, off)] } }
  | .checkpoint tick => { s with ckpts := s.ckpts.filter (fun c => c.tick != tick) }
  | .stream h item => dropStreamItem h item s
  | .firmware | .free => s

/-- Steps 1 and 2 of R361: poison, counts and kind 0x1101. -/
def findingRecord (region word finder : Nat) (o : StoreOwner) (s : State) : State :=
  let s := gbk 0x1101 0xFF (le 1 0 ++ le 1 region ++ le 4 word ++ le 4 (ownerHandle o).toNat ++ le 1 finder) s
  let s := modRegion region (fun r => { r with uncorrectable := r.uncorrectable + 1, poison := r.poison ++ [word] }) s
  latchStore 0 { s with store := { s.store with uncorrectable := satAdd 32 s.store.uncorrectable 1 } }

/-- A new uncorrectable word in the working store (R353, R361). -/
def finding (region word finder : Nat) (o : StoreOwner) (s : State) : State :=
  queueEvacuation region 1 (ownerAction o (findingRecord region word finder o s))

/-- A corrected word of a region (R352, R356). -/
def correctedWord (region : Nat) (s : State) : State :=
  let now := minuteNow s
  let s := modRegion region (fun r => { r with corrected := satAdd 32 r.corrected 1, recent := addRecent now 1 r.recent }) s
  let s := { s with store := { s.store with corrected := satAdd 32 s.store.corrected 1 } }
  match s.store.regions[region]? with
  | some r => if s.store.threshold ≤ recentCount now r.recent then queueEvacuation region 0 s else s
  | none => s

/-! ### Accesses of the computations (R352 to R354) -/

/-- A computation that starts now has met a word it cannot read (Table 5 of ch. 17): it carries TAINTED. -/
def readerTainted (o : StoreOwner) (s : State) : State :=
  match o with
  | .channel h => { s with store := { s.store with taint := s.store.taint ++ [h] } }
  | .device k => { s with store := { s.store with taint := s.store.taint ++ [compOwner k] } }
  | .post dst => { s with store := { s.store with postTaint := s.store.postTaint ++ [dst] } }
  | _ => s

/-- A finding by a computation that starts now: its own outputs carry TAINTED (R353, R361 step 3). -/
def readFinding (region word finder : Nat) (o : StoreOwner) (s : State) : State :=
  let s := readerTainted o (findingRecord region word finder o s)
  let s := match o with
    | .channel h => queueRebuild h s
    | .device k => queueRebuild (compOwner k) s
    | .post _ => s
    | o => ownerAction o s
  queueEvacuation region 1 s

/-- A block of the log store verifies no longer (R365): what it holds cannot be read from now on. -/
def logFault (x : LogPart) (s : State) : State :=
  match x with
  | .spill h n => modStream (hSlot h) (fun r => { r with waiting := r.waiting.map (fun i => if i.num == n && i.spilled && !i.gap then { i with faded := true } else i) }) s
  | .image k => { s with air := { s.air with streamers := s.air.streamers.map (fun y => if y.slot == k && y.placed then { y with faded := true } else y) } }
  | x => { s with store := { s.store with logBad := s.store.logBad ++ [x] } }

/-- What the stores show to the computations of a tick. -/
def storeEvent (e : StoreEvent) (s : State) : State :=
  match e with
  | .read r _ 1 _ => correctedWord r (count 0x1A0 s)
  | .read r w 2 o => readFinding r w 0 o (count 0x1A2 s)
  | .read _ _ 3 o => readerTainted o (count 0x1A4 s)
  | .merge r _ 1 _ => correctedWord r (count 0x1A5 s)
  | .merge r w 2 o => readFinding r w 2 o (count 0x1A6 s)
  | .merge _ _ 3 o => readerTainted o (count 0x1A6 s)
  | .overwrite r w => if (s.store.regions[r]?).any (fun x => x.poison.contains w) then modRegion r (fun x => { x with poison := x.poison.filter (· != w) }) (count 0x1A7 s) else s
  | .logFault x => logFault x s
  | _ => s

/-! ### The Pruner (R360, R363) -/

/-- The next region in service after `r`, or none: the lap has ended. -/
def nextRegion (s : State) (r : Nat) : Option Nat := (List.range 128).find? (fun k => r < k && (s.store.regions[k]?).any (fun x => x.state != 3))

/-- The Pruner's place after a burst (R360). -/
def prunerAdvance (s : State) : State :=
  if s.store.offset + 8 < 262144 then { s with store := { s.store with offset := s.store.offset + 8 } }
  else match nextRegion s s.store.region with
    | some k => { s with store := { s.store with region := k, offset := 0 } }
    | none => count 0x1A9 { s with store := { s.store with region := 0, offset := 0, lastLap := (s.uptime - s.store.lapStart) / 1000, lapStart := s.uptime, laps := satAdd 32 s.store.laps 1, overdue := false } }

/-- What the Pruner does with one word: 0 no error, 1 corrected, 2 new uncorrectable, 3 poison (R351 to R353). -/
def prunerWord (region word code : Nat) (o : StoreOwner) (s : State) : State :=
  match code with
  | 1 => correctedWord region (count 0x1A1 s)
  | 2 => finding region word 1 o (count 0x1A3 s)
  | 3 => count 0x1A4 s
  | _ => s

/-- PRUNER_BURST (R360): eight words at the Pruner's place, each with what its code finds; the words belong to one owner. -/
def execPrunerBurst (words : List Nat) (owner : StoreOwner) (s : State) : Host.Outcome State Fault Refusal :=
  .next (
    let r := s.store.region
    let off := s.store.offset
    let s := count 0x1A8 s
    prunerAdvance ((words.take 8).zipIdx.foldl (fun s w => prunerWord r (off + w.2) w.1 owner s) s))

/-- PRUNER_OVERDUE (R363): the lap has lasted longer than the limit; kind 0x1105 once per lap. -/
def execPrunerOverdue (s : State) : Host.Outcome State Fault Refusal :=
  .next (
    let lap := (s.uptime - s.store.lapStart) / 1000
    if s.store.limit < lap && !s.store.overdue then gbk 0x1105 0xFF (le 4 lap) { s with store := { s.store with overdue := true } } else s)

/-! ### Evacuation (R357, R358) -/

/-- EVACUATION_START: the next region in the queue, when none runs; the target is the lowest spare region, else the lowest free
pool region; without one the evacuation waits (R358). -/
def execEvacuationStart (s : State) : Host.Outcome State Fault Refusal :=
  .next (match s.store.running, s.store.queue with
    | none, (r, cause) :: rest =>
      match (findRegion s (fun x => x.state == 4)).or (findRegion s (fun x => x.state == 0 && x.area == 3)), s.store.regions[r]? with
      | some t, some x =>
        let s := gbk 0x1102 0xFF (le 1 r ++ le 1 cause ++ le 4 (recentCount (minuteNow s) x.recent)) (count 0x1AA s)
        let s := modRegion t (fun y => { y with state := 1, area := if x.area == 4 then 3 else x.area, strong := x.strong }) (modRegion r (fun y => { y with state := 2 }) s)
        let lodges := s.inn.lodges.map (fun (l : Lodge) => if l.regions.contains r then { l with moving := some (r, t) } else l)
        { s with store := { s.store with queue := rest, running := some (r, t), spareOut := false }, inn := { s.inn with lodges } }
      | _, _ => if s.store.spareOut then s else gbk 0x1106 0xFF (le 1 0) { s with store := { s.store with spareOut := true } }
    | _, _ => s)

/-- A channel's data is now in its new region (R56, R357). -/
def switchLodge (l : Lodge) (s : State) : State :=
  match l.moving with
  | none => s
  | some (a, b) =>
    let owner := (chanAt s.ord l.slot).map (·.handle)
    let out := fun (r : Region) => { r with owners := r.owners.filter (fun h => some h != owner) }
    let into := fun (r : Region) => match owner with | some h => { r with owners := r.owners ++ [h] } | none => r
    let moved := fun (x : Lodge) => if x.slot == l.slot then { x with moving := none, regions := x.regions.map (fun k => if k == a then b else k) } else x
    let s := modRegion b into (modRegion a out s)
    count 0x022 { s with inn := { s.inn with lodges := s.inn.lodges.map moved } }

/-- DATA_MOVE_COMPLETE (R55, R56): the switch at the end of a move; `damaged` are the source words that the copy found
uncorrectable: they are poisoned and travel on (R355). -/
def execDataMoveComplete (slot : Nat) (damaged : List Nat) (s : State) : Host.Outcome State Fault Refusal :=
  .next (match s.inn.lodges.find? (fun l => l.slot == slot && l.moving.isSome) with
    | none => s
    | some l =>
      let a := (l.moving.map Prod.fst).getD 0
      let h := ((chanAt s.ord slot).map (·.handle)).getD 0
      switchLodge l (damaged.foldl (fun s w => finding a w 3 (.channel h) s) s))

/-- EVACUATION_COMPLETE (R357): every owner's data has left the region, poison with it (R355); it is retired. -/
def execEvacuationComplete (s : State) : Host.Outcome State Fault Refusal :=
  .next (match s.store.running with
    | none => s
    | some (r, t) =>
      if s.inn.lodges.any (fun l => l.moving.any (fun m => m.1 == r)) then s
      else
        let rest := ((s.store.regions[r]?).map (·.owners)).getD []
        let poison := ((s.store.regions[r]?).map (·.poison)).getD []
        let s := modRegion t (fun x => { x with poison, owners := x.owners ++ rest.filter (fun h => !x.owners.contains h) }) (modRegion r (fun x => { x with state := 3, owners := [], strong := none }) s)
        let s := latchStore 1 { s with store := { s.store with running := none }, inn := { s.inn with review := true } }
        gbk 0x1103 0xFF (le 1 r ++ le 1 (s.store.regions.filter (fun x => x.state == 4)).length) (count 0x1AB s))

/-- REGION_TEST_COMPLETE (R359): the pattern test of a retired region has ended. -/
def execRegionTestComplete (region : Nat) (error : Bool) (s : State) : Host.Outcome State Fault Refusal :=
  .next (match s.store.tests.find? (fun t => t.1 == region) with
    | none => s
    | some t =>
      let s := { s with store := { s.store with tests := s.store.tests.filter (fun x => x.1 != region) } }
      if error then answer t.2 { status := .aborted } s
      else
        let s := modRegion region (fun x => { x with state := 4, area := 4, strong := none, owners := [], poison := [] }) s
        answer t.2 { payload := le 4 0 ++ zeros 4 } (gbk 0x1104 (masterOf s t.2.path) (le 1 region ++ le 1 (masterOf s t.2.path)) s))

/-! ### The persistent store (R364) -/

/-- A damaged key slot (R370). -/
def badSlot (slot cause : Nat) (s : State) : State :=
  let s := { s with vault := { s.vault with slots := modAt s.vault.slots slot (fun k => { k with bad := true }) } }
  gbk 0x1203 0xFF (le 1 slot ++ le 1 cause) (count 0x1C4 s)

/-- What the owner of an uncorrectable MRAM word does. -/
def mramAction (a : MramArea) (s : State) : State :=
  match a with
  | .commit k => { s with plan := { s.plan with records := modAt s.plan.records k (fun r => { r with bad := true }) } }
  | .calibration => { s with metro := { s.metro with storeGood := false } }
  | .checkpoint tick => { s with saved := s.saved.filter (fun c => c.tick != tick) }
  | .keySlot k => badSlot k 1 s
  | .guestbook seq w => { s with gbk := { s.gbk with stored := s.gbk.stored.map (fun (r : GbkRec) => if r.seq == seq then { r with damage := r.damage ||| 2 ^ (w % 8) } else r) } }
  | .other => s

/-- The code of an MRAM area in kind 0x1107. -/
def mramCode : MramArea → Nat
  | .commit _ => 0 | .checkpoint _ => 1 | .guestbook .. => 2 | .calibration => 3 | .keySlot _ => 4 | .other => 5

/-- One damaged word (R364). -/
def mramError (e : MramError) (s : State) : State :=
  if e.hard then
    let s := gbk 0x1107 0xFF (le 4 e.addr ++ le 1 1 ++ le 1 (mramCode e.area)) (count 0x1AD s)
    mramAction e.area (latchStore 4 { s with store := { s.store with mramUncorrectable := satAdd 32 s.store.mramUncorrectable 1 } })
  else count 0x1AC { s with store := { s.store with mramCorrected := satAdd 32 s.store.mramCorrected 1 } }

/-- MRAM_SCRUB (R364): every word is read; those with an error, in ascending address. -/
def execMramScrub (errors : List MramError) (s : State) : Host.Outcome State Fault Refusal := .next (errors.foldl (fun s e => mramError e s) s)

/-! ### Commands -/

/-- STORE_STATUS (Table 9). -/
def cmdStoreStatus (p : Packet) (s : State) : State × Ans :=
  let mask := fld p.payload 0 4
  let s := { s with store := { s.store with latched := s.store.latched &&& (0xFF - mask % 256) } }
  let n := fun (f : Region → Bool) => (s.store.regions.filter f).length
  let live := fun (r : Region) => r.state == 1 || r.state == 2
  (s, { payload := le 4 (storeFlags s) ++ le 1 (n (fun r => r.state ≤ 2)) ++ le 1 (n (fun r => r.state == 4)) ++ le 1 (n (fun r => r.state == 3)) ++ le 1 (s.store.queue.length + s.store.running.toList.length) ++ le 1 (n (fun r => live r && r.strong == some true)) ++ le 1 (n (fun r => live r && r.strong == some false)) ++ zeros 2 ++ le 4 s.store.corrected ++ le 4 s.store.uncorrectable ++ le 4 (sumBy (fun (r : Region) => r.poison.length) s.store.regions) ++ le 4 s.store.lastLap ++ le 4 ((s.uptime - s.store.lapStart) / 1000) ++ le 4 s.store.laps ++ le 4 s.store.limit ++ le 4 s.store.threshold ++ le 4 s.store.mramCorrected ++ le 4 s.store.mramUncorrectable ++ le 4 s.store.logFailed ++ zeros 8 })

/-- One item of REGION_LIST. -/
def regionItem (now k : Nat) (r : Region) : List Byte :=
  let low := (sortBy (fun (h : Handle) => hSlot h) r.owners).head?
  le 1 k ++ le 1 r.state ++ le 1 (match r.strong with | some true => 1 | some false => 0 | none => 0xFF) ++ le 1 r.area ++ le 2 (recentCount now r.recent) ++ le 2 r.uncorrectable ++
    le 4 r.corrected ++ le 4 r.poison.length ++ le 2 r.owners.length ++ zeros 2 ++ le 4 (low.getD 0).toNat

/-- REGION_LIST. -/
def cmdRegionList (p : Packet) (s : State) : State × Ans :=
  let first := fld p.payload 0 1
  let n := fld p.payload 1 1
  if 127 < first || n == 0 || 128 < n then (s, { status := .badParam })
  else
    let got := (s.store.regions.zipIdx.drop first).take n
    (s, { payload := le 1 got.length ++ zeros 7 ++ (got.map (fun x => regionItem (minuteNow s) x.2 x.1)).flatten })

/-- PRUNER_CONFIG (R363). -/
def cmdPrunerConfig (p : Packet) (s : State) : State × Ans :=
  let limit := fld p.payload 0 4
  let th := fld p.payload 4 2
  let m := masterOf s p.path
  if limit < 600 || 86400 < limit || th < 4 || 1024 < th then (s, { status := .badParam })
  else (gbk 0x110A m (le 4 limit ++ le 2 th ++ le 1 m) { s with store := { s.store with limit, threshold := th, overdue := s.store.overdue && decide (limit < (s.uptime - s.store.lapStart) / 1000) } }, {})

/-- REGION_RETIRE (R357, R359): operation 1 is answered when its test ends (log entry 28); the estimate is a free value. -/
def cmdRegionRetire (p : Packet) (s : State) : State × Ans :=
  let r := fld p.payload 0 1
  let op := fld p.payload 1 1
  let st := ((s.store.regions[r]?).map (·.state)).getD 3
  let leaving := st == 2 || s.store.queue.any (fun q => q.1 == r)
  if 127 < r || 1 < op then (s, { status := .badParam })
  else if op == 1 && masterOf s p.path != 2 then (s, { status := .notPermitted })
  else if op == 1 then
    if st != 3 || s.store.tests.any (fun t => t.1 == r) then (s, { status := .wrongState })
    else ({ s with store := { s.store with tests := s.store.tests ++ [(r, p)] } }, { later := true })
  else if st == 3 || leaving then (s, { status := .wrongState })
  else if (findRegion s (fun x => x.state == 4 || (x.state == 0 && x.area == 3))).isNone then (s, { status := .noResource })
  else
    let x := drawFree (queueEvacuation r 2 s)
    (x.2, { payload := le 4 x.1 ++ zeros 4 })

@[inherit_doc cmdStoreStatus] def execStoreStatus (p : Packet) (s : State) : Host.Outcome State Fault Refusal := .next (submit 0x0D01 cmdStoreStatus p s)
@[inherit_doc cmdRegionList] def execRegionList (p : Packet) (s : State) : Host.Outcome State Fault Refusal := .next (submit 0x0D02 cmdRegionList p s)
@[inherit_doc cmdPrunerConfig] def execPrunerConfig (p : Packet) (s : State) : Host.Outcome State Fault Refusal := .next (submit 0x0D03 cmdPrunerConfig p s)
@[inherit_doc cmdRegionRetire] def execRegionRetire (p : Packet) (s : State) : Host.Outcome State Fault Refusal := .next (submit 0x0D04 cmdRegionRetire p s)

end Sys2Proof.Machine
end

