-- ==== Sys2Proof/Machine/Vault.lean ====
section
/-!
DEFINITION. Machine/Vault.lean: keys, tokens, the lifecycle and attestation (ch. 18).
-/
namespace Sys2Proof.Machine

/-- A slot of the vault. -/
def slotAt (s : State) (k : Nat) : KeySlot := (s.vault.slots[k]?).getD {}

/-- The state of a slot: 0 empty, 1 valid, 2 BAD_SLOT (Table 5). -/
def KeySlot.state (k : KeySlot) : Nat := if k.bad then 2 else if k.attr == 0 then 0 else 1

/-- USAGE, ALG and LOCK of an attribute word (R368 Table 1). -/
def attrUsage (a : Nat) : Nat := bits a 0 8
@[inherit_doc attrUsage] def attrAlg (a : Nat) : Nat := bits a 8 4
@[inherit_doc attrUsage] def attrLock (a : Nat) : Bool := bit a 15

/-- The key field of a statement (R380). -/
def keyField (k : KeySlot) : List Byte :=
  if k.state != 1 then zeros 64
  else match attrAlg k.attr with
    | 1 | 2 => le 8 ((Config.cmac k.key (zeros 16)).toNat) ++ zeros 56
    | 3 => fit 64 (Config.ecdsaPublic k.key)
    | _ => fit 64 k.key

/-- Change a slot. -/
def modKeySlot (k : Nat) (f : KeySlot → KeySlot) (s : State) : State := { s with vault := { s.vault with slots := modAt s.vault.slots k f } }

/-- The vault serves a request at once: D11 is ungated for it (R371; log entry 30). -/
def vaultServed (s : State) : State :=
  let s := count 0x1C0 s
  if s.vault.gated then count 0x1C1 s else s

/-- Usages, algorithms and origins that KEY_IMPORT admits (R369 Table 2). -/
def importUsageOk (usage alg : Nat) : Bool :=
  match usage with
  | 0x01 => alg == 1 | 0x02 => alg == 1 || alg == 2 | 0x04 => alg == 4 | 0x10 => alg == 4 | 0x20 => alg == 2 | 0x40 => alg == 4 | _ => false

/-- The bytes of a key of an algorithm. -/
def keyLen (alg : Nat) : Nat := match alg with | 1 => 16 | 2 => 32 | 3 => 32 | _ => 64

/-- A slot may be filled: empty, or BAD_SLOT where R369 allows (R370). -/
def slotFree (s : State) (k : KeySlot) : Bool := k.attr == 0 || (k.bad && (!attrLock k.attr || s.mode.lifecycle == 1))

/-- A slot is filled (R372): kind 0x1201, event source 0x1C2. -/
def fillSlot (k attr m : Nat) (key : List Byte) (s : State) : State :=
  let s := modKeySlot k (fun x => { attr, key, fills := (x.fills + 1) % 2 ^ 32, uses := x.uses }) s
  gbk 0x1201 m (le 1 k ++ le 4 attr ++ le 4 (slotAt s k).fills ++ le 1 m) (count 0x1C2 s)

/-- KEY_GENERATE (R372). -/
def cmdKeyGenerate (p : Packet) (s : State) : State × Ans :=
  let k := fld p.payload 0 1
  let attr := 0x80 + 3 * 2 ^ 8 + 2 ^ 12 + 2 ^ 15 * b2n (bit (fld p.payload 1 1) 0)
  let s := vaultServed s
  if k < 2 || 63 < k then (s, { status := .badParam })
  else if !slotFree s (slotAt s k) then (s, { status := .wrongState })
  else
    let key := Config.vaultRandom s.vault.draws
    let s := fillSlot k attr (masterOf s p.path) key { s with vault := { s.vault with draws := s.vault.draws + 1 } }
    (s, { payload := le 1 k ++ zeros 3 ++ le 4 attr ++ le 4 (slotAt s k).fills ++ zeros 4 ++ fit 64 (Config.ecdsaPublic key) })

/-- The import of a key given in a payload: by its mode the key, or the status that refuses it (R372). -/
def importedKey (s : State) (mode slot alg attr k : Nat) (b : List Byte) : Except Status (List Byte) :=
  if mode != 1 then
    if alg == 4 && !Config.onCurve (b.drop 8) then .error .badParam else .ok (b.drop 8)
  else
    let x := slotAt s slot
    if x.bad then .error .badSlot
    else if attrUsage x.attr != 0x80 then .error .authFail
    else match Config.unwrapKey x.key (le 8 Config.unitSerial.toNat ++ [0x53, 0x50, 0x54, 0x2D, 0x4B, 0x57] ++ le 1 k ++ le 4 attr ++ b) with
      | none => .error .authFail
      | some key => .ok (fit (keyLen alg) key)

/-- KEY_IMPORT (R369, R372). -/
def cmdKeyImport (p : Packet) (s : State) : State × Ans :=
  let b := p.payload
  let k := fld b 0 1
  let mode := fld b 1 1
  let attr := fld b 4 4
  let alg := attrAlg attr
  let m := masterOf s p.path
  let s := vaultServed s
  let len := if mode == 1 then 100 + keyLen alg else 8 + keyLen alg
  if 63 < k || 2 < mode || 2 ^ 16 ≤ attr || bits attr 12 3 != 0 || !importUsageOk (attrUsage attr) alg || b.length != len || (mode == 1 && alg == 4) || (mode == 2 && alg != 4) || (mode == 1 && 63 < fld b 2 1) then (s, { status := .badParam })
  else if (mode == 0 && (s.mode.lifecycle != 1 || m != 2)) || (mode == 2 && (if s.mode.lifecycle == 1 then m != 2 else attrLock attr)) || (attrLock (slotAt s k).attr && s.mode.lifecycle != 1) then (s, { status := .notPermitted })
  else if !slotFree s (slotAt s k) then (s, { status := .wrongState })
  else match importedKey s mode (fld b 2 1) alg attr k b with
    | .error st => (if mode == 1 then count 0x1CA s else s, { status := st })
    | .ok key =>
      let s := if mode == 1 then useSlot (fld b 2 1) s else s
      (fillSlot k (attr + 2 * 2 ^ 12 + 2 ^ 14) m key s, {})

/-- KEY_INFO. -/
def cmdKeyInfo (p : Packet) (s : State) : State × Ans :=
  let k := fld p.payload 0 1
  let s := vaultServed s
  if 63 < k then (s, { status := .badParam })
  else
    let x := slotAt s k
    (s, { payload := le 1 k ++ le 1 x.state ++ zeros 2 ++ le 4 x.attr ++ le 4 x.fills ++ le 4 x.uses ++ keyField x })

/-- A slot is named by a radio configuration in force or pending, or by the twin configuration in force (R373). -/
def slotNamed (s : State) (k : Nat) : Bool :=
  s.ord.air.radios.any (fun r => r.cfg.any (fun c => c.key == k) || r.nextCfg.any (fun c => c.2.key == k)) ||
    (s.twin.cfg.enable && (s.twin.key == k || s.twin.cfg.key == k))

/-- KEY_DESTROY (R373). -/
def cmdKeyDestroy (p : Packet) (s : State) : State × Ans :=
  let k := fld p.payload 0 1
  let m := masterOf s p.path
  let s := vaultServed s
  let x := slotAt s k
  if k == 0 || 63 < k then (s, { status := .badParam })
  else if attrLock x.attr && s.mode.lifecycle != 1 then (s, { status := .notPermitted })
  else if (x.attr == 0 && !x.bad) || slotNamed s k then (s, { status := .wrongState })
  else (gbk 0x1202 m (le 1 k ++ le 1 m) (count 0x1C3 (modKeySlot k (fun x => { fills := x.fills, uses := x.uses }) s)), {})

/-! ### The lifecycle and the debug lock (R378, R379) -/

/-- The debug lock is open (R379). -/
def debugOpen (s : State) : Bool := s.mode.lifecycle == 1 || s.mode.lifecycle == 3 || (s.mode.lifecycle == 2 && s.vault.unlocked)

/-- The usage that a token's purpose requires (R377). -/
def purposeUsage (purpose : Nat) : Nat := if purpose == 3 then 0x10 else 0x40

/-- The number of the first check of R377 that a token fails, in their order; 0: it passes all. -/
def tokenFailure (s : State) (purpose : Nat) (b : List Byte) : Nat :=
  let x := slotAt s (fld b 3 1)
  if fld b 0 1 != 0x54 || fld b 1 1 != 0x4B then 1
  else if fld b 2 1 != purpose then 2
  else if fld b 8 8 != Config.unitSerial.toNat then 3
  else if fld b 3 1 < 2 || 63 < fld b 3 1 || attrUsage x.attr != purposeUsage purpose then 4
  else if !Config.ecdsaVerify x.key (digestBytes (Config.sha256 (b.take 32))) ((b.drop 32).take 64) then 5
  else if fld b 16 8 ≤ (s.vault.tokens[purpose - 1]?).getD 0 then 6
  else 0

/-- A token that master `m` sent is checked (R377): accepted, its counter is saved; refused, kind 0x1205. -/
def checkToken (purpose m : Nat) (b : List Byte) (s : State) : State × Option Status :=
  let slot := fld b 3 1
  if 2 ≤ slot && slot ≤ 63 && (slotAt s slot).bad then (s, some .badSlot)
  else
    let n := tokenFailure s purpose b
    if n == 0 then
      (count 0x1C7 (useSlot slot { s with vault := { s.vault with tokens := setAt s.vault.tokens (purpose - 1) (fld b 16 8) } }), none)
    else (gbk 0x1205 m (le 1 purpose ++ le 1 slot ++ le 1 n) (count 0x1C6 s), some .authFail)

/-- A lifecycle is entered (R378 Table 4): kind 0x1206. -/
def enterLifecycle (new m : Nat) (s : State) : State :=
  let old := s.mode.lifecycle
  let s := { s with mode := { s.mode with lifecycle := new } }
  let s := match new with
    | 2 => { s with vault := { s.vault with unlocked := false }, inn := { s.inn with lodges := s.inn.lodges.map (fun (l : Lodge) => { l with pinned := false }) } }
    | 4 => { s with vault := { s.vault with unlocked := false, slots := s.vault.slots.take 1 ++ (s.vault.slots.drop 1).map (fun (x : KeySlot) => { fills := x.fills }) } }
    | _ => s
  gbk 0x1206 m (le 1 old ++ le 1 new ++ le 1 m) s

/-- LIFECYCLE_SET. -/
def cmdLifecycleSet (p : Packet) (s : State) : State × Ans :=
  let t := fld p.payload 0 1
  let old := s.mode.lifecycle
  let m := masterOf s p.path
  let s := vaultServed s
  let go := fun (s : State) => (enterLifecycle t m s, ({ payload := le 1 t ++ zeros 7 } : Ans))
  if t < 2 || 4 < t then (s, { status := .badParam })
  else if t == 2 then if old == 1 || old == 3 then go s else (s, { status := .wrongState })
  else if t == 4 then go s
  else if old != 2 then (s, { status := .wrongState })
  else match checkToken 2 m (p.payload.drop 8) s with
    | (s, some st) => (s, { status := st })
    | (s, none) => go s

/-- DEBUG_UNLOCK (R379). -/
def cmdDebugUnlock (p : Packet) (s : State) : State × Ans :=
  let s := vaultServed s
  if s.mode.lifecycle != 2 || s.vault.unlocked then (s, { status := .wrongState })
  else match checkToken 1 (masterOf s p.path) p.payload s with
    | (s, some st) => (s, { status := st })
    | (s, none) => (gbk 0x1207 (masterOf s p.path) (le 8 (fld p.payload 16 8)) { s with vault := { s.vault with unlocked := true } }, {})

/-! ### Attestation (R380) -/

/-- The statement without its signature (Table 5). -/
def statementBody (s : State) (k : Nat) (nonce : List Byte) : List Byte :=
  let x := slotAt s k
  [0x41, 0x54, 0x54, 0x33] ++ le 1 k ++ le 1 x.state ++ le 1 s.mode.lifecycle ++ le 1 (b2n (debugOpen s)) ++ le 4 x.attr ++ le 4 x.fills ++
    le 8 Config.unitSerial.toNat ++ le 4 devId ++ le 4 (fwSet s) ++ le 8 (tickNow s) ++ fit 32 nonce ++ keyField x

/-- ATTEST. -/
def cmdAttest (p : Packet) (s : State) : State × Ans :=
  let k := fld p.payload 0 1
  let m := masterOf s p.path
  let s := vaultServed s
  if 63 < k then (s, { status := .badParam })
  else if (slotAt s 0).bad then (s, { status := .badSlot })
  else
    let body := statementBody s k (p.payload.drop 8)
    let sig := fit 64 (Config.ecdsaSign (slotAt s 0).key (digestBytes (Config.sha256 body)))
    let chain := Config.certChain.take 2048
    let tail := if bit (fld p.payload 1 1) 0 then le 2 chain.length ++ zeros 2 ++ chain else []
    (gbk 0x1204 m (le 1 k ++ le 1 m) (count 0x1C5 (useSlot 0 s)), { payload := body ++ sig ++ tail })

/-! ### Requests (R371, R375) -/

/-- VAULT_REQUEST (R371): the request at the head of stile 40 is served. Deriving the partner keys of a generation or of an air
slot loads the sequencers' key memory; the keys themselves follow from the slot and the EUI-64 (R374). -/
def execVaultRequest (s : State) : Host.Outcome State Fault Refusal :=
  .next (match s.vault.requests with
    | [] => { s with vault := { s.vault with gated := true } }
    | r :: rest =>
      let s := vaultServed s
      let s := match r with
        | .deriveForPlan _ | .deriveForSlot _ => countN 0x1C8 s.ord.plan.plan.placements.length s
        | .use k => useSlot k s
      { s with vault := { s.vault with requests := rest, gated := rest.isEmpty } })

@[inherit_doc cmdKeyGenerate] def execKeyGenerate (p : Packet) (s : State) : Host.Outcome State Fault Refusal := .next (submit 0x0E01 cmdKeyGenerate p s)
@[inherit_doc cmdKeyImport] def execKeyImport (p : Packet) (s : State) : Host.Outcome State Fault Refusal := .next (submit 0x0E02 cmdKeyImport p s)
@[inherit_doc cmdKeyInfo] def execKeyInfo (p : Packet) (s : State) : Host.Outcome State Fault Refusal := .next (submit 0x0E03 cmdKeyInfo p s)
@[inherit_doc cmdKeyDestroy] def execKeyDestroy (p : Packet) (s : State) : Host.Outcome State Fault Refusal := .next (submit 0x0E04 cmdKeyDestroy p s)
@[inherit_doc cmdAttest] def execAttest (p : Packet) (s : State) : Host.Outcome State Fault Refusal := .next (submit 0x0E05 cmdAttest p s)
@[inherit_doc cmdLifecycleSet] def execLifecycleSet (p : Packet) (s : State) : Host.Outcome State Fault Refusal := .next (submit 0x0E06 cmdLifecycleSet p s)
@[inherit_doc cmdDebugUnlock] def execDebugUnlock (p : Packet) (s : State) : Host.Outcome State Fault Refusal := .next (submit 0x0E07 cmdDebugUnlock p s)

end Sys2Proof.Machine
end

