-- ==== Sys2Proof/Machine/Counters.lean ====
section
/-!
DEFINITION. Machine/Counters.lean: event counters, the test multiplexer and the test access port (ch. 23).
-/
namespace Sys2Proof.Machine

/-- Change the counter block. -/
def modCnt (f : CountersTest → CountersTest) (s : State) : State := { s with cnt := f s.cnt }

/-- A snapshot with its cause (R433): all counters, CNT_OVF, the tick and its offset. -/
def takeSnapshot (cause : Nat) (s : State) : State :=
  modCnt (fun c => { c with snap := { values := c.counters.map (fun (x : Counter) => (x.source, x.count)), ovf := c.ovf, tick := tickNow s, offset := s.clerk.offset, cause, valid := true } }) s

/-- Every enabled counter is cleared (R433). -/
def clearEnabled (s : State) : State :=
  modCnt (fun c => { c with counters := c.counters.map (fun (x : Counter) => if x.en then { x with count := 0 } else x) }) s

/-- The bits of CNT_CTL that stay. -/
def setCntCtl (value : Nat) (s : State) : State := modCnt (fun c => { c with auto := bit value 2, view := bit value 3 }) s

/-- CNT_CTL_SNAP (R433): a write of CNT_CTL. -/
def execCntCtlSnap (value : Nat) (s : State) : Host.Outcome State Fault Refusal :=
  let s := setCntCtl value s
  .next (if bit value 0 then takeSnapshot 0 s else s)

/-- CNT_CTL_SNAP_CLEAR (R433): a write of CNT_CTL. -/
def execCntCtlSnapClear (value : Nat) (s : State) : Host.Outcome State Fault Refusal :=
  let s := setCntCtl value s
  .next (if bit value 1 then clearEnabled (takeSnapshot 0 s) else if bit value 0 then takeSnapshot 0 s else s)

/-- CNT_CFG(c) is written (R432): a change of source clears the counter and its CNT_OVF bit; CLEAR clears the counter. -/
def writeCntCfg (k value : Nat) (s : State) : State :=
  let src := bits value 0 9
  let changed := (s.cnt.counters[k]?).any (fun (x : Counter) => x.source != src)
  modCnt (fun c => { c with
    counters := modAt c.counters k (fun (x : Counter) => { source := src, en := bit value 9, count := if changed || bit value 10 then 0 else x.count })
    ovf := if changed && bit c.ovf k then c.ovf - 2 ^ k else c.ovf }) s

/-- CNT_CFG_WRITE (R432). -/
def execCntCfgWrite (counter value : Nat) (s : State) : Host.Outcome State Fault Refusal := .next (if counter < 32 then writeCntCfg counter value s else s)

/-- COUNTER_CLEAR (R432): a write of CNT_CFG(c) with CLEAR. -/
def execCounterClear (counter value : Nat) (s : State) : Host.Outcome State Fault Refusal :=
  .next (if counter < 32 then writeCntCfg counter (value ||| 2 ^ 10) s else s)

/-- COUNTER_CONFIG. -/
def cmdCounterConfig (p : Packet) (s : State) : State × Ans :=
  let k := fld p.payload 0 1
  let src := fld p.payload 2 2
  let flags := fld p.payload 4 1
  if 31 < k || 0x1FF < src then (s, { status := .badParam })
  else (writeCntCfg k (src + 2 ^ 9 * (flags % 4)) s, {})

@[inherit_doc cmdCounterConfig] def execCounterConfig (p : Packet) (s : State) : Host.Outcome State Fault Refusal := .next (submit 0x1201 cmdCounterConfig p s)

/-- COUNTER_SNAPSHOT (R433). -/
def cmdCounterSnapshot (p : Packet) (s : State) : State × Ans :=
  let s := takeSnapshot 2 s
  let x := s.cnt.snap
  (if bit (fld p.payload 0 1) 0 then clearEnabled s else s,
    { payload := le 8 x.tick ++ le 4 x.offset ++ le 4 x.ovf ++ (x.values.map (fun (v : Nat × Nat) => le 2 v.1 ++ le 6 v.2)).flatten })

@[inherit_doc cmdCounterSnapshot] def execCounterSnapshot (p : Packet) (s : State) : Host.Outcome State Fault Refusal := .next (submit 0x1202 cmdCounterSnapshot p s)

/-! ### Test multiplexer (R436) -/

/-- The multiplexer is open without a lease: MANUFACTURE or TEST. -/
def muxFree (s : State) : Bool := s.mode.lifecycle == 1 || s.mode.lifecycle == 3

/-- The multiplexer is open by lease: FIELD, the debug lock open, a lease in force. -/
def muxLeased (s : State) : Bool := s.mode.lifecycle == 2 && debugOpen s && s.cnt.lease.isSome

/-- Seconds of lease remaining. -/
def leaseLeft (s : State) : Nat := match s.cnt.lease with | some e => (e - s.uptime + 999) / 1000 | none => 0

/-- A lease in force ends: 0 expiry, 1 command, 2 reset. -/
def endLease (cause m : Nat) (s : State) : State :=
  if s.cnt.lease.isSome then gbk 0x1208 m (le 4 s.cnt.leaseSecs ++ le 1 m ++ le 1 cause) (modCnt (fun c => { c with lease := none, leaseSecs := 0 }) s)
  else s

/-- TMUX_UNLOCK. -/
def cmdTmuxUnlock (p : Packet) (s : State) : State × Ans :=
  let l := fld p.payload 0 4
  let m := masterOf s p.path
  if l != 0 && (l < 60 || 86400 < l) then (s, { status := .badParam })
  else if muxFree s then (s, { payload := le 4 0xFFFFFFFF ++ zeros 4 })
  else if !debugOpen s then (s, { status := .wrongState })
  else if l == 0 then (endLease 1 m s, { payload := zeros 8 })
  else (gbk 0x1208 m (le 4 l ++ le 1 m ++ zeros 1) (modCnt (fun c => { c with lease := some (s.uptime + 1000 * l), leaseSecs := l }) s), { payload := le 4 l ++ zeros 4 })

@[inherit_doc cmdTmuxUnlock] def execTmuxUnlock (p : Packet) (s : State) : Host.Outcome State Fault Refusal := .next (submit 0x1203 cmdTmuxUnlock p s)

/-- TMUX_LEASE_EXPIRY (R436). -/
def execTmuxLeaseExpiry (s : State) : Host.Outcome State Fault Refusal := .next (endLease 0 0xFF s)

/-! ### Boundary scan (R438, R439) -/

/-- The intrusive instructions. -/
def tapIntrusive (code : Nat) : Bool := code == 0x00 || code == 0x04 || code == 0x05

/-- The instruction that takes effect (R439): codes not listed, and intrusive ones outside their conditions, act as BYPASS. -/
def tapEffect (s : State) : Nat :=
  let code := s.cnt.tapInstr
  if tapIntrusive code then (if s.boot.rst && !s.boot.porst && (s.boot.life == 1 || s.boot.life == 3) then code else 0x1F)
  else if code == 0x01 || code == 0x02 then code else 0x1F

/-- BOUNDARY_SCAN_INSTRUCTION (R438): the 5 bits of the instruction register. -/
def execBoundaryScanInstruction (code : Nat) (s : State) : Host.Outcome State Fault Refusal := .next (modCnt (fun c => { c with tapInstr := code % 32 }) s)

end Sys2Proof.Machine
end

