-- ==== Sys2Proof/Machine/Guestbook.lean ====
section
/-!
DEFINITION. Machine/Guestbook.lean: the Guestbook: the move to the persistent store, freezing, clearing, the window and the
commands (ch. 19). Records enter the front buffer through `gbk` and `gbkDerived` of Ops.lean.
-/
namespace Sys2Proof.Machine

/-- Change the Guestbook. -/
def modGbk (f : Guestbook → Guestbook) (s : State) : State := { s with gbk := f s.gbk }

/-- A record takes the next sequence number and its slot, over the record 16,384 earlier in the circulating area (R382, R384). -/
def Guestbook.append (r : GbkRec) (g : Guestbook) : Guestbook :=
  let rs := if 4096 < g.next - 16384 then g.stored.filter (fun (x : GbkRec) => x.seq != g.next - 16384) else g.stored
  { g with stored := rs ++ [{ r with seq := g.next, damage := 0, found := false }], next := g.next + 1 }

/-- The tick of the record of a sequence number. -/
def Guestbook.tickOf (seq : Nat) (g : Guestbook) : Nat := ((g.stored.find? (fun (x : GbkRec) => x.seq == seq)).map (fun (x : GbkRec) => x.tick)).getD 0

/-- A record is written to the store; the first write to the circulating area is preceded by kind 0x1305 (R384). -/
def storeRec (r : GbkRec) (s : State) : State :=
  let s := if s.gbk.next == 4097 then modGbk (Guestbook.append (stampRec 0x1305 false 0xFF (le 8 (s.gbk.tickOf 4096)) none s)) s else s
  modGbk (Guestbook.append r) s

/-- The overflow record of R388. -/
def lossRec (l : GbkLoss) (s : State) : GbkRec := stampRec 0x1301 false 0xFF (le 4 l.count ++ le 8 l.first ++ le 8 l.last ++ le 2 l.kind) none s

/-- One step of the drain of the front buffer (R382, R385, R388, R389): repeats of the newest stored record, then a record due
first, then the overflow record when its turn has come, then the next place. -/
def drainOne (s : State) : State :=
  let g := s.gbk
  if g.held then s
  else
    let left := fun (g : Guestbook) => { g with front := g.front.tail, beforeLoss := g.beforeLoss - 1 }
    match g.front.head?, g.urgent, g.loss with
    | some (.repeats n last), _, _ => modGbk (fun g => left { g with stored := repeatStored n last g.stored }) s
    | _, u :: us, _ => storeRec u (modGbk (fun g => { g with urgent := us }) s)
    | head, [], loss =>
      match loss, g.beforeLoss == 0, head with
      | some l, true, _ => storeRec (lossRec l s) (modGbk (fun g => { g with loss := none }) s)
      | _, _, some (.record r) => storeRec r (modGbk left s)
      | _, _, _ => s

/-- GUESTBOOK_DRAIN (R382, R383): one move from the front buffer to the persistent store. -/
def execGuestbookDrain (s : State) : Host.Outcome State Fault Refusal := .next (drainOne s)

/-- GUESTBOOK_RECORD_ENTRY (R382): a record, or a repeat, made in one of the islands enters the front buffer. -/
def execGuestbookRecordEntry (kind master : Nat) (detail : List Byte) (s : State) : Host.Outcome State Fault Refusal :=
  .next (gbk (kind % 2 ^ 16) (master % 256) detail s)

/-- The drain of a whole front buffer, by at most `n` moves. -/
def drainAll : Nat → State → State
  | 0, s => s
  | n + 1, s => drainAll n (drainOne s)

/-- GBK_CTL_FREEZE (R389): a write of GBK_CTL. -/
def execGbkCtlFreeze (value : Nat) (s : State) : Host.Outcome State Fault Refusal :=
  .next (modGbk (fun g => { g with freeze := bit value 0, autoInc := bit value 1 }) s)

/-- GBK_FREEZE_TIMEOUT (R389): `ms` ms after FREEZE was written 1. -/
def execGbkFreezeTimeout (ms : Nat) (s : State) : Host.Outcome State Fault Refusal :=
  .next (if s.gbk.freeze && 9990 ≤ ms && ms ≤ 10010 then
    modGbk (fun g => { g with freeze := false, timedOut := true, urgent := g.urgent ++ [stampRec 0x1304 false 0xFF (le 4 ms) none s] }) s
  else s)

/-! ### Reads (R381, R387) -/

/-- The bytes of a stored record as reads return them (R381 Table 1, R387). -/
def GbkRec.bytes (r : GbkRec) : List Byte :=
  let raw := le 4 r.seq ++ le 2 r.kind ++ le 1 (b2n r.derived + 2 * b2n r.untrusted + 4 * b2n r.noTick) ++ le 1 r.master ++ le 6 r.secs ++ le 2 r.sub ++
    le 8 r.tick ++ le 4 r.repeats ++ le 4 r.last ++ fit 28 r.detail ++ le 4 0x47424B56
  if r.damage == 0 then raw
  else
    let b := ((List.range 8).map (fun w => if bit r.damage w then zeros 8 else (raw.drop (8 * w)).take 8)).flatten
    setAt b 6 (BitVec.ofNat 8 (fld b 6 1 % 8 + 8))

/-- A read of a record: the first that finds damage writes kind 0x1303 and sets MRAM_ERR (R387). -/
def readRec (r : GbkRec) (s : State) : State :=
  if r.damage == 0 || r.found then s
  else
    let s := modGbk (fun g => { g with mramErr := true, stored := g.stored.map (fun (x : GbkRec) => if x.seq == r.seq then { x with found := true } else x) }) s
    gbk 0x1303 0xFF (le 4 r.seq ++ le 1 (if r.seq ≤ 4096 then 0 else 1)) s

/-- A write of GBK_SEL: the record of that sequence is loaded, or is absent. -/
def loadSel (seq : Nat) (s : State) : State :=
  let s := modGbk (fun g => { g with sel := seq }) s
  match s.gbk.stored.find? (fun (x : GbkRec) => x.seq == seq) with
  | some r => readRec r (modGbk (fun g => { g with loaded := true, absent := false, data := r.bytes }) s)
  | none => modGbk (fun g => { g with loaded := false, absent := true, data := [] }) s

/-- GBK_SEL_WRITE (R387). -/
def execGbkSelWrite (value : Nat) (s : State) : Host.Outcome State Fault Refusal := .next (loadSel (value % 2 ^ 32) s)

/-- GBK_DATA15_READ: the read, and under AUTO_INC the load of the next record. -/
def execGbkData15Read (s : State) : Host.Outcome State Fault Refusal :=
  let s := { s with host := { s.host with readValue := fld s.gbk.data 60 4 } }
  .next (if s.gbk.autoInc then loadSel ((s.gbk.sel + 1) % 2 ^ 32) s else s)

/-- The newest stored sequence, and the oldest stored circulating one; 0 if none. -/
def Guestbook.newestSeq (g : Guestbook) : Nat := ((g.stored.getLast?).map (fun (x : GbkRec) => x.seq)).getD 0
@[inherit_doc Guestbook.newestSeq] def Guestbook.oldestSeq (g : Guestbook) : Nat :=
  ((g.stored.find? (fun (x : GbkRec) => 4096 < x.seq)).map (fun (x : GbkRec) => x.seq)).getD 0

/-- GBK_STATUS as the register reads. -/
def Guestbook.status (g : Guestbook) : Nat :=
  b2n g.held + 2 * b2n g.loaded + 4 * b2n g.absent + 8 * b2n g.overflow + 16 * b2n g.mramErr + 32 * b2n g.timedOut + 64 * b2n g.erasing.isSome + 2 ^ 16 * g.front.length

/-- GBK_READ. -/
def cmdGbkRead (p : Packet) (s : State) : State × Ans :=
  let first := fld p.payload 0 4
  let n := fld p.payload 4 1
  let cls := fld p.payload 5 1
  if n == 0 || 63 < n then (s, { status := .badParam })
  else if s.gbk.newestSeq < first then (s, { status := .range })
  else
    let rs := (s.gbk.stored.filter (fun (x : GbkRec) => first ≤ x.seq && (cls == 0 || x.kind / 256 == cls))).take n
    let last := ((rs.getLast?).map (fun (x : GbkRec) => x.seq)).getD 0
    let next := if rs.length < n || last == s.gbk.newestSeq then 0 else last + 1
    let mask := sumBy (fun k => 2 ^ k) ((List.range rs.length).filter (fun k => (rs[k]?).any (fun (x : GbkRec) => x.damage != 0)))
    (rs.foldl (fun s r => readRec r s) s, { payload := le 1 rs.length ++ zeros 3 ++ le 4 next ++ le 8 mask ++ (rs.map GbkRec.bytes).flatten })

@[inherit_doc cmdGbkRead] def execGbkRead (p : Packet) (s : State) : Host.Outcome State Fault Refusal := .next (submit 0x0F01 cmdGbkRead p s)

/-- GBK_STATUS. -/
def cmdGbkStatus (_ : Packet) (s : State) : State × Ans :=
  let g := s.gbk
  (s, { payload := le 4 g.newestSeq ++ le 4 g.oldestSeq ++ le 2 (g.stored.filter (fun (x : GbkRec) => x.seq ≤ 4096)).length ++ le 2 g.front.length ++ le 4 g.lost ++ le 4 g.clearedTo ++ le 4 g.clearings ++ le 8 g.clearTick ++ le 1 g.status ++ zeros 7 })

@[inherit_doc cmdGbkStatus] def execGbkStatus (p : Packet) (s : State) : Host.Outcome State Fault Refusal := .next (submit 0x0F03 cmdGbkStatus p s)

/-! ### Clearing (R390) -/

/-- GBK_CLEAR: the erase begins, and GBK_ERASE_COMPLETE ends it. -/
def cmdGbkClear (p : Packet) (s : State) : State × Ans :=
  let last := fld p.payload 24 8
  if s.gbk.freeze || s.gbk.erasing.isSome then (s, { status := .busy })
  else match checkToken 3 (masterOf s p.path) p.payload (vaultServed s) with
    | (s, some st) => (s, { status := st })
    | (s, none) =>
      if last < 4097 || s.gbk.newestSeq < last then (s, { status := .range })
      else (modGbk (fun g => { g with erasing := some (last, fld p.payload 16 8, masterOf s p.path, 0, p) }) s, { later := true })

@[inherit_doc cmdGbkClear] def execGbkClear (p : Packet) (s : State) : Host.Outcome State Fault Refusal := .next (submit 0x0F02 cmdGbkClear p s)

/-- Repeats of the newest stored record that wait in the front buffer are added to it (R385, R388). -/
def Guestbook.repeatsFirst (g : Guestbook) : Guestbook :=
  match g.front with
  | .repeats n last :: rest => { g with front := rest, stored := repeatStored n last g.stored, beforeLoss := g.beforeLoss - 1 }
  | _ => g

/-- The erase ends: repeats that wait for the newest stored record are added to it, the records up to S go, kind 0x1302 is the
next record written, and the reply is formed. -/
def eraseDone (last counter m : Nat) (p : Packet) (s : State) : State :=
  let gone := fun (x : GbkRec) => 4096 < x.seq && x.seq ≤ last
  let n := (s.gbk.stored.filter gone).length
  let s := modGbk Guestbook.repeatsFirst s
  let s := modGbk (fun g => { g with
    stored := g.stored.filter (fun x => !gone x), erasing := none, clearedTo := max g.clearedTo last
    clearings := satAdd 32 g.clearings 1, clearTick := tickNow s }) s
  let s := storeRec (stampRec 0x1302 false m (le 4 last ++ le 4 n ++ le 8 counter ++ le 1 m) none s) s
  answer p { payload := le 4 n ++ le 4 s.gbk.oldestSeq } s

/-- GBK_ERASE_COMPLETE (R390). -/
def execGbkEraseComplete (s : State) : Host.Outcome State Fault Refusal :=
  .next (match s.gbk.erasing with
    | none => s
    | some (last, counter, m, _, p) => eraseDone last counter m p s)

end Sys2Proof.Machine
end

