-- ==== Sys2Proof/Machine/Metro.lean ====
section
/-!
DEFINITION. Machine/Metro.lean: feeder metrology (ch. 11): circuits and their cap loops, the measuring front end of D9,
calibration, and the saves of ch. 12.
-/
namespace Sys2Proof.Machine

/-! ### The computation of a CIRCUIT channel -/

/-- Change the circuit of a channel. -/
def Calc.modCircuit (h : Handle) (f : Circuit → Circuit) (c : Calc) : Calc :=
  c.modChan h (fun ch => match ch.body with | .circuit x => { ch with body := .circuit (f x) } | _ => ch)

/-- The mean import power fields of the waybill's CIRCUIT_TICK entries (R235). -/
def Calc.readPower (c : Calc) : Calc :=
  (List.range 8).foldl (fun c k => match circuitEntry c.entries k with
    | some b => { c with ord := { c.ord with metering := { c.ord.metering with power := setAt c.ord.metering.power k (fld b 12 4 : Nat) } } }
    | none => c) c

/-- The set-point of the cap loop (R228). -/
def capSetPoint (limit : Nat) : Int := if limit == 0 then 0x7FFFFFFF else (limit * 65536 / 1000 : Nat)

/-- What slow slots read (R187): NTC temperatures of the DRIVE_SAMPLE, circuit powers, and a CIRCUIT's power limit. -/
def slowEnv (o : Ordered) (limit : Nat) : LoopEnv where
  src := fun sel =>
    if 0x20 ≤ sel && sel ≤ 0x27 then some (sampledTemp o (sel - 0x20))
    else if 0x30 ≤ sel && sel ≤ 0x37 then some ((o.metering.power[sel - 0x30]?).getD 0)
    else some 0
  owner := fun _ => capSetPoint limit
  vbus := fun _ => 0

/-- The GROUP channels with a member on a circuit, ascending slot (R229). -/
def groupsOnCircuit (o : Ordered) (k : Nat) : List Handle :=
  o.channels.filterMap (fun ch => match ch.body with
    | .group _ => if (membersOf o.members ch.handle).any (fun m => match placementOf o m with | some b => plCircuit b == k | none => false) then some ch.handle else none
    | _ => none)

/-- A phase voltage of the entry is absent: below 10 % of Un (R230). -/
def phaseAbsent (un : Nat) (b : List Byte) (p : Nat) : Bool := decide (fld b (24 + 56 * p + 40) 4 * 10 < un * 65536)

/-- The records of phase voltages absent or returned (kind 0x0C06). -/
def Calc.phaseVoltages (h : Handle) (k : Nat) (x : Circuit) (b : List Byte) (c : Calc) : Calc :=
  let now := sumBy (fun p => b2n (phaseAbsent x.un b p) * 2 ^ p) (List.range (fld b 1 1))
  let c := (List.range (fld b 1 1)).foldl (fun c p => if bit now p != bit x.absentV p then c.derive 0x0C06 0xFF (le 1 k ++ le 1 (p + 1)) else c) c
  let c := if bit (fld b 2 2) 0 then c.count 0x107 1 else c
  c.modCircuit h (fun x => { x with absentV := now })

/-- The computation of a CIRCUIT channel (R229, R234 to R247, R264): registers, interval, balances, cap loop and posts. -/
def Calc.circuit (ch : Channel) (c : Calc) : Calc :=
  match circuitOf c.ord ch.handle with
  | none => c
  | some x =>
    match x.num with
    | none => c.slowSample (slowEnv c.ord x.limit) { ch with state := .created }
    | some k =>
      let h := ch.handle
      if !ch.sampling then c.slowSample (slowEnv c.ord x.limit) ch
      else
        let entry := circuitEntry c.entries k
        let c := match entry with | some b => c.phaseVoltages h k x b | none => c
        let c := c.readMeter k
        let c := if c.entries.any (fun e => e.kind == 0x0204) then c.modMeter k (fun m => { m with skip := true }) else c
        let hu := c.readHoldup k
        let c := hu.1
        let m := meterOf c.ord k
        let past := hu.2 && decide (m.start + m.length * 240 ≤ c.tick)
        let c := if m.opened && decide (m.start < c.tick) && (past || intervalBoundary c.ord m c.tick) then c.closeInterval ch.tainted k false else c
        let c := c.balances ch.tainted k
        let m := meterOf c.ord k
        let body := m.registersBody x.phases.length hu.2
        let c := c.item { section_ := 6, key := k, key2 := 0, tainted := ch.tainted, bytes := le 1 1 ++ le 1 k ++ zeros 2 ++ le 4 body.length ++ body }
        let c := c.stream 0x0801 (2 ^ k) (le 1 1 ++ le 1 k ++ zeros 2 ++ le 4 body.length ++ body)
        let c := c.slowSample (slowEnv c.ord x.limit) ch
        let slot := c.ord.slotOf h 0
        let u := (slot.map (·.u)).getD 0
        let cap := (clampI 0 1000 (u.fdiv 65536)).toNat
        let fl := b2n ((slot.map (·.isHeld)).getD false) + 2 * b2n (x.limit == 0) + 4 * b2n entry.isNone
        (groupsOnCircuit c.ord k).foldl (fun c g => c.post h g 0x0801 ch.tainted (le 1 k ++ le 1 fl ++ le 2 cap ++ le 4 x.limit)) c

/-- A LOOP channel computes the sample of its slow slots (R185). -/
def Calc.loop (ch : Channel) (c : Calc) : Calc := c.slowSample (slowEnv c.ord 0) ch

/-- The slot of a CIRCUIT channel at creation (R227). -/
def circuitSlot (h : Handle) (slot : Nat) : LoopSlot :=
  { slot, owner := h, member := 0, law := 1, cls := 1, sp := 1, coef := [0x0A000000, 0x01000000, 0, 65536, 0x00C80000, 0x03E80000, 0, 0, 0, 65536, 0, 65536] }

/-! ### Commands that enter the waybill -/

/-- The current inputs held by the other live circuits (R226). -/
def heldInputs (o : Ordered) (h : Handle) : List Nat :=
  (o.channels.map (fun ch => match ch.body with
    | .circuit c => if ch.handle == h then [] else c.phases.map (·.2) ++ (if c.neutral == 0xFF then [] else [c.neutral])
    | _ => [])).flatten

/-- CIRCUIT_CONFIG (R226, Table 9). -/
def ordCircuitConfig : Handler := fun m p c =>
  let b := p.payload
  let h := p.handle
  let k := fld b 0 1
  let n := fld b 1 1
  let only := bit (fld b 2 1) 0
  let neutral := fld b 3 1
  let limit := fld b 4 4
  let phases := (List.range n).map (fun i => (fld b (16 + 4 * i) 1, fld b (17 + 4 * i) 1))
  let ins := phases.map (·.2)
  match chanOf c.ord h, circuitOf c.ord h with
  | some ch, some x =>
    if 1 < fld b 2 1 || (limit != 0 && (limit < 1000 || 2000000 < limit)) || (!only && (7 < k || n == 0 || 3 < n || (15 < neutral && neutral != 0xFF) || fld b 8 2 < 100 || 277 < fld b 8 2 ||
        fld b 10 2 == 0 || 50 < fld b 10 2 || fld b 12 4 < 6554 || 5000 * 65536 < fld b 12 4 || phases.any (fun q => 2 < q.1 || 15 < q.2))) then (c, { status := .badParam })
    else if only then
      let c := c.modCircuit h (fun x => { x with limit := limit })
      (c.derive 0x0C01 m (le 4 h.toNat ++ le 1 (x.num.getD 0xFF) ++ le 1 x.phases.length ++ le 4 limit), {})
    else if c.ord.channels.any (fun y => y.handle != h && (match y.body with | .circuit z => z.num == some k | _ => false)) ||
        (ins ++ (if neutral == 0xFF then [] else [neutral])).any (heldInputs c.ord h).contains || ins.eraseDups.length != ins.length || (neutral != 0xFF && ins.contains neutral) then (c, { status := .range })
    else if ch.busy then (c, { status := .wrongState })
    else
      let new : Circuit := { x with num := some k, phases := phases, neutral := neutral, limit := limit, un := fld b 8 2, noLoad := fld b 10 2, inom := fld b 12 4 }
      let c := c.modCircuit h (fun _ => new)
      let c := { c with ord := { c.ord with loops := c.ord.loops.map (fun (s : LoopSlot) => if s.owner == h then { s with src := 0x30 + k } else s) } }
      ((((c.complete h).toMetro (.circuit h new)).derive 0x0C01 m (le 4 h.toNat ++ le 1 k ++ le 1 n ++ le 4 limit)), {})
  | _, _ => (c, { status := .staleHandle })

/-- A RUNNING or HELD circuit that an input serves; kind 2: any. -/
def inputBusy (o : Ordered) (kind i : Nat) : Bool :=
  o.channels.any (fun ch => (ch.state = .running || ch.state = .held) && (match ch.body with
    | .circuit c => kind == 2 || (kind == 0 && (i == 3 || c.phases.any (fun q => q.1 == i))) || (kind == 1 && (c.neutral == i || c.phases.any (fun q => q.2 == i)))
    | _ => false))

/-- METER_INPUT_CONFIG (R224): it takes effect with the timing of R242. -/
def ordMeterInputConfig : Handler := fun m p c =>
  let b := p.payload
  let kind := fld b 0 1
  let i := fld b 1 1
  let v := fld b 4 4
  let fl := fld b 8 4
  if 2 < kind || (kind == 0 && (3 < i || v < 1000 || 2000000 < v || fl != 0)) || (kind == 1 && (15 < i || v < 1000 || 4000000000 < v || 7 < fl || (bit fl 1 && bit fl 2))) ||
      (kind == 2 && (i != 0 || !(v == 50 || v == 60) || fl != 0)) then (c, { status := .badParam })
  else if inputBusy c.ord kind i then (c, { status := .wrongState })
  else
    let ms := c.ord.metering
    let ms := match kind with
      | 0 => { ms with vin := modAt ms.vin i (fun x => { x with value := v }) }
      | 1 => { ms with iin := modAt ms.iin i (fun x => { x with value := v, flags := fl }) }
      | _ => { ms with nominal := v }
    let c := { c with ord := { c.ord with metering := ms } }
    ((c.toMetro (.input kind i v fl)).derive 0x0C02 m (le 1 kind ++ le 1 i ++ le 4 v ++ le 4 fl), {})

/-- The constants are within Table 7. -/
def calOk (kind : Nat) (offset : Int) (gain : Nat) (phase : Int) : Bool :=
  offset.natAbs ≤ 65536 && 858993460 ≤ gain && gain ≤ 1342177280 && (kind == 0 || phase.natAbs ≤ 300000)

/-- The constants of an input and path as committed. -/
def calOf (o : Ordered) (kind input path : Nat) : Int × Nat × Int :=
  let x := ((if kind == 0 then o.metering.vin else o.metering.iin)[input]?).getD { value := 0 }
  ((x.offset[path]?).getD 0, (x.gain[path]?).getD 0, (x.phase[path]?).getD 0)

/-- The constants put into an input's record. -/
def MetIn.withCal (path : Nat) (k : Int × Nat × Int) (x : MetIn) : MetIn :=
  { x with offset := setAt x.offset path k.1, gain := setAt x.gain path k.2.1, phase := setAt x.phase path k.2.2 }

/-- The kind and the path a job's step calibrates (Table 8): voltage inputs stand at 0 to 3 of steps 0 and 1. -/
def CalJob.target (j : CalJob) : Nat × Nat :=
  match j.step with
  | 1 => (0, 0) | 2 => (1, 0) | 3 => (1, 1) | _ => (1, j.path)

/-- CAL_COMMIT (R242). -/
def ordCalCommit : Handler := fun m p c =>
  let b := p.payload
  let mode := fld b 0 1
  let kind := fld b 1 1
  let i := fld b 2 1
  let path := fld b 3 1
  let j := c.job
  let old := calOf c.ord kind i path
  if 2 < mode || 1 < kind || (kind == 0 && (3 < i || path != 0)) || (kind == 1 && (15 < i || 1 < path)) then (c, { status := .badParam })
  else if mode == 1 && !calOk kind (fldS b 8 4) (fld b 12 4) (fldS b 16 4) then (c, { status := .range })
  else if mode == 0 && !(j.state == 2 && j.job == fld b 4 4) then (c, { status := .wrongState })
  else
    let new : Int × Nat × Int := match mode with
      | 0 => (match j.step with | 0 => (j.new, old.2.1, old.2.2) | 4 => (old.1, old.2.1, j.new) | _ => (old.1, j.new.toNat, old.2.2))
      | 1 => (fldS b 8 4, fld b 12 4, fldS b 16 4)
      | _ => Config.factoryCal kind i path
    let ms := c.ord.metering
    let n := ms.calCount + 1
    let ms := if kind == 0 then { ms with vin := modAt ms.vin i (MetIn.withCal path new), calCount := n } else { ms with iin := modAt ms.iin i (MetIn.withCal path new), calCount := n }
    let c := ({ c with ord := { c.ord with metering := ms } }.toMetro (.constants kind i path n new.1 new.2.1 new.2.2)).count 0x10A 1
    let c := if mode == 0 then c.toMetro (.committed j.job) else c
    (c.note 0x0C04 m (le 1 kind ++ le 1 i ++ le 1 path ++ le 4 n ++ le 1 mode), { payload := le 4 n ++ zeros 4 })

/-! ### The front end of D9 -/

/-- An input of the METRO class waits for the clerk. -/
def metroEntry (kind : Nat) (b : List Byte) (s : State) : State :=
  { s with clerk := { s.clerk with intake := s.clerk.intake ++ [{ cls := 3, index := 0, kind, body := .raw b }] } }

/-- One message reaches D9. Input configuration and constants wait for the measurement tick two after their own (R242). -/
def metroMsg (tick : Nat) (s : State) (m : MetroMsg) : State :=
  let later := fun s => { s with metro := { s.metro with later := s.metro.later ++ [(tick + 2, m)] } }
  match m with
  | .circuit h c => { s with metro := { s.metro with runs := s.metro.runs.map (fun r => if r.handle == h then { r with cfg := c } else r) } }
  | .input .. | .nominal _ | .constants .. => later s
  | .pulseOut o c => modOut o (fun _ => { cfg := c }) s
  | .pulseIn i c => modIn i (fun _ => { cfg := c }) s
  | .start h t =>
    match circuitOf s.ord h with
    | some c => { s with metro := { s.metro with runs := sortBy (fun r => r.cfg.num.getD 8) (s.metro.runs.filter (fun r => r.handle != h) ++ [{ handle := h, cfg := c, from_ := t }]) } }
    | none => s
  | .stop h => { s with metro := { s.metro with runs := s.metro.runs.filter (fun r => r.handle != h) } }
  | .committed j => if s.metro.job.job == j then { s with metro := { s.metro with job := { s.metro.job with state := 4 } } } else s

/-- METRO_CONTROL_ARRIVAL (R242, R252): the messages of the oldest tick on its way take effect. -/
def execMetroControlArrival (s : State) : Host.Outcome State Fault Refusal :=
  match s.metro.inbound with
  | [] => .next s
  | (t, ms) :: rest => .next (ms.foldl (metroMsg t) { s with metro := { s.metro with inbound := rest } })

/-- A configuration that waited for its measurement tick takes effect (R242); its METRO_APPLIED entry is due. -/
def applyLater (t : Nat) (s : State) (m : MetroMsg) : State :=
  let due := fun what kind input path n s => { s with metro := { s.metro with applied := s.metro.applied ++ [(t, le 1 what ++ le 1 kind ++ le 1 input ++ le 1 path ++ le 4 n ++ le 8 t)], runs := s.metro.runs.map (fun r => { r with applied := true }) } }
  match m with
  | .input kind i v fl =>
    let s := match kind with
      | 0 => { s with metro := { s.metro with vin := modAt s.metro.vin i (fun x => { x with value := v }) } }
      | 1 => { s with metro := { s.metro with iin := modAt s.metro.iin i (fun x => { x with value := v, flags := fl }) } }
      | _ => { s with metro := { s.metro with nominal := v } }
    due 0 kind i 0 s.metro.calCount s
  | .constants kind i path n o g ph =>
    let s := if kind == 0 then { s with metro := { s.metro with vin := modAt s.metro.vin i (MetIn.withCal path (o, g, ph)), calCount := n } }
      else { s with metro := { s.metro with iin := modAt s.metro.iin i (MetIn.withCal path (o, g, ph)), calCount := n } }
    due 1 kind i path n s
  | _ => s

/-- Full scale of a 24-bit conversion (R222): a sample beyond it is clipped. -/
def clip24 (c : Int) : Int := clampI (-8388608) 8388607 c

/-- A calibrated line or neutral voltage sample, in 0.8/(1,000 · 2^53) V. -/
def voltSample (x : MetIn) (c : Int) : Int := (clip24 c + (x.offset[0]?).getD 0) * ((x.gain[0]?).getD 0 : Nat) * (x.value : Nat)

/-- A calibrated current sample of the path in use, in 1/(32,000 · 2^53) A; the invert flag negates it. -/
def ampSample (x : MetIn) (high : Bool) (c1 c16 : Int) : Int :=
  let p := if high then 1 else 0
  let v := (clip24 (if high then c16 else c1) + (x.offset[p]?).getD 0) * ((x.gain[p]?).getD 0 : Nat) * (x.value : Nat) * (if high then 1 else 16)
  if bit x.flags 0 then -v else v

/-- An energy sum in 1/65,536 µWh, rounded toward zero. -/
def energyOf (sum : Int) : Int := sum.tdiv (16 * 144000000 * 2 ^ 90)

/-- The path rules of one current input at a sample (R225): in use, and the switch if any. -/
def PathRun.step (x : MetIn) (newCycle : Bool) (c1 c16 : Int) (r : PathRun) : PathRun × Option Bool :=
  if bit x.flags 1 then ({ r with high := false }, none)
  else if bit x.flags 2 then ({ r with high := true }, none)
  else
    let r := if newCycle then { r with quiet := if r.below then r.quiet + 1 else 0, below := true } else r
    let r := { r with below := r.below && decide (c1.natAbs * 20 < 8388608) }
    if r.high && decide (15 * 8388608 < c16.natAbs * 16) then ({ r with high := false, quiet := 0 }, some false)
    else if !r.high && newCycle && 16 ≤ r.quiet then ({ r with high := true }, some true)
    else (r, none)

/-- An input whose path a calibration job names is fixed to it while the job measures (R241). -/
def MetIn.fixedBy (j : CalJob) (input : Nat) (x : MetIn) : MetIn :=
  if j.state == 1 && j.target.1 == 1 && j.input == input then { x with flags := x.flags % 2 + (if j.path == 1 then 4 else 2) } else x

/-- The sums of one cycle sorted into the five quantities (R231), and whether it is under the no-load limit. -/
def sortCycle (c : Circuit) (r : PhaseRun) : List Nat × Bool × Int × Nat :=
  let ep := energyOf r.p
  let eq := energyOf r.q
  let es := (energyOf (isqrt (r.vv.toNat * r.ii.toNat) : Nat)).toNat
  if ep.natAbs * 576000 < c.noLoad * c.un * c.inom * r.n then (List.replicate 5 0, true, ep, es)
  else ([ep.toNat, (-ep).toNat, eq.toNat, (-eq).toNat, es], false, ep, es)

/-- A line cycle's energy reaches the pulse outputs that select it (R250): crossings, each with its sample. -/
def pulseCycle (circuit : Nat) (five : List Nat) (n : Nat) (o : PulseOut) : PulseOut :=
  if !o.cfg.enable || !bit o.cfg.mask circuit then o
  else
    let theta := 65536 * 1000000000
    let add := (five[o.cfg.quantity]?).getD 0 * o.cfg.k
    let total := o.r + add
    let m := total / theta
    let js := (List.range m).map (fun i => ((theta * (i + 1) - o.r) * n + add - 1) / add)
    { o with r := total % theta, due := o.due ++ js }

/-- A line cycle of a phase ends (R230, R231). -/
def endCycle (h : Handle) (p : Nat) (s : State) : State :=
  match s.metro.runs.find? (fun r => r.handle == h) with
  | none => s
  | some run =>
    match run.phases[p]? with
    | none => s
    | some r =>
      if r.n == 0 then s
      else
        let x := sortCycle run.cfg r
        let harm := if s.metro.nominal == 60 then 12 else 10
        let full := harm ≤ r.winCycles + 1
        let mk := fun q (w : List Int) => ({ phase := p + 1, quantity := q, tick := s.clerk.tick, fund := Config.dftFundamental w, freq := if w.isEmpty then 0 else harm * 16000000 / w.length, thd := isqrt (sumBy (fun k => Config.dftMagnitude w k ^ 2) ((List.range 30).map (· + 2))), orders := ((List.range 30).map (· + 2)).map (fun k => (Config.dftMagnitude w k, Config.dftPhase w k)) } : Harm)
        let new := if full then [mk 0 r.winV, mk 1 r.winI] else []
        let r' := { r with n := 0, p := 0, q := 0, vv := 0, ii := 0, acc := List.zipWith (· + ·) r.acc x.1, cycles := r.cycles + 1, ended := r.ended + r.n, signedP := r.signedP + x.2.2.1, signedS := r.signedS + x.2.2.2, winV := if full then [] else r.winV, winI := if full then [] else r.winI, winCycles := if full then 0 else r.winCycles + 1 }
        let runs := s.metro.runs.map (fun y => if y.handle == h then { y with phases := setAt y.phases p r', harmonics := if full then y.harmonics.filter (fun z => z.phase != p + 1) ++ new else y.harmonics } else y)
        let s := { s with metro := { s.metro with runs := runs, outs := s.metro.outs.map (pulseCycle (run.cfg.num.getD 8) x.1 r.n) } }
        let s := count 0x101 s
        if x.2.1 then count 0x106 s else s

/-- One sample of one phase of a circuit (R230, R231); `crossing`: the sample is the first of a new line cycle. -/
def phaseSample (h : Handle) (p : Nat) (crossing : Bool) (v vh i : Int) (clipped switched : Bool) (s : State) : State :=
  match s.metro.runs.find? (fun r => r.handle == h) with
  | none => s
  | some run =>
    match run.phases[p]? with
    | none => s
    | some r0 =>
      let block := if s.metro.nominal == 60 then 267 else 320
      let s := if crossing || (r0.absent && block ≤ r0.n) then endCycle h p s else s
      let low := if v.natAbs * 8 < 1414 * run.cfg.un * 2 ^ 53 then r0.low + 1 else 0
      let upd := fun r : PhaseRun => { r with n := r.n + 1, p := r.p + v * i, q := r.q + vh * i, vv := r.vv + v * v, ii := r.ii + i * i, tickVV := r.tickVV + (v * v).toNat, tickII := r.tickII + (i * i).toNat, clipped := r.clipped || clipped, switched := r.switched || switched, low, absent := decide (800 < low), winV := r.winV ++ [v], winI := r.winI ++ [i] }
      { s with metro := { s.metro with runs := s.metro.runs.map (fun y => if y.handle == h then { y with phases := modAt y.phases p upd } else y) } }

/-- A current input with a step of its path selection taken (R225). -/
def takePath (k : Nat) (pr : PathRun × Option Bool) (s : State) : State :=
  let s := { s with metro := { s.metro with paths := setAt s.metro.paths k pr.1 } }
  match pr.2 with | some true => count 0x104 s | some false => count 0x105 s | none => s

/-- A sample of the residual current of a circuit (R231). -/
def addResidual (h : Handle) (res : Int) (s : State) : State :=
  { s with metro := { s.metro with runs := s.metro.runs.map (fun y => if y.handle == h then { y with residual := y.residual + (res * res).toNat } else y) } }

/-- The samples of one circuit (R226, R231). The neutral input's path follows the line cycles of phase 1 (log entry 21). -/
def circuitSample (v i1 i16 vh : List Int) (cross : List Bool) (s : State) (run : MeterRun) : State :=
  let g := fun (l : List Int) k => (l[k]?).getD 0
  let volt := fun k => voltSample ((s.metro.vin[k]?).getD { value := 0 }) (g v k) - voltSample ((s.metro.vin[3]?).getD { value := 0 }) (g v 3)
  let s := { s with metro := { s.metro with runs := s.metro.runs.map (fun y => if y.handle == run.handle then { y with samples := y.samples + 1 } else y) } }
  let input := fun (s : State) k => ((s.metro.iin[k]?).getD { value := 0 }).fixedBy s.metro.job k
  let step := fun (s : State) k cr => ((s.metro.paths[k]?).getD {}).step (input s k) cr (g i1 k) (g i16 k)
  let go := fun (acc : State × Int) (q : (Nat × Nat) × Nat) =>
    let cr := (cross[q.1.1]?).getD false
    let pr := step acc.1 q.1.2 cr
    let s := takePath q.1.2 pr acc.1
    let clipped := !pr.1.high && decide (8388607 ≤ (g i1 q.1.2).natAbs)
    let s := if clipped then count 0x102 s else s
    let a := ampSample (input acc.1 q.1.2) pr.1.high (g i1 q.1.2) (g i16 q.1.2)
    (phaseSample run.handle q.2 cr (volt q.1.1) (g vh q.1.1) a clipped pr.2.isSome s, acc.2 + a)
  let r := run.cfg.phases.zipIdx.foldl go (s, 0)
  let n := run.cfg.neutral
  if n == 0xFF then r.1
  else
    let pr := step r.1 n ((cross[((run.cfg.phases.head?).map Prod.fst).getD 0]?).getD false)
    addResidual run.handle (r.2 + ampSample (input r.1 n) pr.1.high (g i1 n) (g i16 n)) (takePath n pr r.1)

/-- METERING_SAMPLE (R223): one simultaneous conversion; none while D9 is gated or VANA is under (R444). `v` the counts of MET_VL1 to MET_VL3 and MET_VN, `i1` and `i16` of the
two paths of the 16 current inputs, `vh` the line voltages delayed by 90°, `cross` whether the sample is nearest a
positive-going crossing of each line (log entry 21). -/
def execMeteringSample (v i1 i16 vh : List Int) (cross : List Bool) (s : State) : Host.Outcome State Fault Refusal :=
  if s.metro.gated || vanaUnder s then .next s
  else
    let n := s.metro.samples + 1
    let mark := fun (k : Nat) => if (cross[k]?).getD false then some n else (s.metro.cross[k]?).getD none
    let per := fun (k : Nat) => if (cross[k]?).getD false then (match (s.metro.cross[k]?).getD none with | some m => n - m | none => 0) else (s.metro.period[k]?).getD 0
    let s := { s with metro := { s.metro with samples := n, cross := [mark 0, mark 1, mark 2], period := [per 0, per 1, per 2] } }
    let live := s.metro.runs.filter (fun r => r.from_ ≤ s.clerk.tick)
    .next (live.foldl (circuitSample v i1 i16 vh cross) s)

/-- A phase block of a CIRCUIT_TICK entry (Table 5). -/
def phaseBlock (paths : List PathRun) (iin n : Nat) (r : PhaseRun) : List Byte :=
  let vrms := if n == 0 then 0 else isqrt (r.tickVV / n) / (2 ^ 37 * 1250)
  let irms := if n == 0 then 0 else isqrt (r.tickII / n) / (2 ^ 42 * 1000)
  let pf : Int := if r.signedS == 0 then 0 else clampI (-32768) 32767 (r.signedP * 32768 / (r.signedS : Int))
  (r.acc.map (le 8)).flatten ++ le 4 vrms ++ le 4 irms ++ leS 2 pf ++ le 1 (b2n ((paths[iin]?).getD {}).high + 2 * b2n r.switched + 4 * b2n r.clipped) ++ zeros 5

/-- The CIRCUIT_TICK entry of a circuit at the end of a measurement tick (R234, Tables 4 and 5). -/
def circuitTickBytes (calCount : Nat) (paths : List PathRun) (run : MeterRun) : List Byte :=
  let np := run.cfg.phases.length
  let ps := run.phases.take np
  let gap := run.gap || run.samples < 3999
  let a := sumBy (fun p : PhaseRun => (p.acc[0]?).getD 0) ps
  let present := ps.find? (fun p => !p.absent)
  let freq := match present with | some p => if p.ended == 0 then 0 else p.cycles * 16000000 / p.ended | none => 0
  let fl := b2n (ps.any (·.absent)) + 2 * b2n (ps.any (·.switched)) + 4 * b2n (ps.any (·.clipped)) + 8 * b2n run.applied + 16 * b2n (freq != 0 && (freq < 45000 || 65000 < freq)) + 32 * b2n gap
  le 1 (run.cfg.num.getD 0) ++ le 1 np ++ le 2 fl ++ le 4 calCount ++ le 2 run.samples ++ le 2 (sumBy (·.cycles) ps) ++ le 4 (a * 9 / 625000) ++ le 4 freq ++ zeros 4 ++
    (ps.zipIdx.map (fun p => phaseBlock paths (((run.cfg.phases[p.2]?).getD (0, 0)).2) run.samples p.1)).flatten

/-- A circuit's measurement tick ends (R231, R234, R236). -/
def closeRun (t : Nat) (s : State) (run : MeterRun) : State :=
  if t < run.from_ then s
  else
    let b := circuitTickBytes s.metro.calCount s.metro.paths run
    let gap := bit (fld b 2 2) 5
    let res := if run.samples == 0 then 0 else isqrt (run.residual / run.samples) / (2 ^ 42 * 1000)
    let high := run.cfg.neutral != 0xFF && run.cfg.inom < res * 20
    let fresh := fun p : PhaseRun => { p with acc := List.replicate 5 0, cycles := 0, ended := 0, tickVV := 0, tickII := 0, signedP := 0, signedS := 0, clipped := false, switched := false }
    let upd := { run with last := some (t, b), samples := 0, gap := false, applied := false, residual := 0, residualRms := res, residualTicks := if high then run.residualTicks + 1 else 0, phases := run.phases.map fresh }
    let s := { s with metro := { s.metro with runs := s.metro.runs.map (fun y => if y.handle == run.handle then upd else y) } }
    let s := if gap then gbk 0x0C05 0xFF (le 1 (run.cfg.num.getD 0) ++ le 8 t ++ le 4 1) (count 0x103 s) else s
    let s := if high then count 0x10B s else s
    count 0x100 (metroEntry 0x0801 b s)

/-- The PULSE_IN_TICK entry of a measurement tick (R254, Table 4). -/
def pulseInTick (s : State) : State :=
  if !(s.metro.ins.any (fun i => i.cfg.enable)) then s
  else
    let b := (s.metro.ins.map (fun i => le 2 i.pulses ++ le 2 i.rejected)).flatten ++ le 1 (sumBy (fun i => b2n i.1.cfg.enable * 2 ^ i.2) s.metro.ins.zipIdx) ++ zeros 7
    metroEntry 0x0803 b { s with metro := { s.metro with ins := s.metro.ins.map (fun i => { i with pulses := 0, rejected := 0 }) } }

/-- D9 at the boundary that ends measurement tick `t` (R234, R242, R252, R254): the entries of the tick, what takes effect
with the next measurement tick, and the report to D1. -/
def metroBoundary (t : Nat) (s : State) : State :=
  if s.metro.gated then s
  else
    let absent := s.metro.runs.any (fun r => r.samples != 0 && (r.phases.take r.cfg.phases.length).any (fun p => p.absent && r.samples ≤ p.low))
    let clip := s.metro.runs.any (fun r => r.phases.any (·.clipped))
    let s := s.metro.runs.foldl (closeRun t) s
    let s := pulseInTick s
    let s := (s.metro.applied.filter (fun a => a.1 ≤ t)).foldl (fun s a => metroEntry 0x0802 a.2 s) s
    let s := { s with metro := { s.metro with applied := s.metro.applied.filter (fun a => t < a.1), alertAbsent := absent, alertClip := clip, alertResidual := s.metro.runs.any (fun r => 20 ≤ r.residualTicks), outs := s.metro.outs.map (fun (o : PulseOut) => { o with reported := (o.r, o.backlog) }) } }
    let now : List (Nat × MetroMsg) := s.metro.later.filter (fun x => x.1 ≤ t + 1)
    let s := { s with metro := { s.metro with later := s.metro.later.filter (fun (x : Nat × MetroMsg) => t + 1 < x.1) } }
    now.foldl (fun s x => applyLater (t + 1) s x.2) s

/-- D9 restarts (R236, R252): the tick in progress carries GAP; pulse outputs resume from the values last reported. -/
def restartMetro (s : State) : State :=
  { s with metro := { s.metro with
      runs := s.metro.runs.map (fun r => { r with gap := true, phases := r.phases.map (fun p => { p with n := 0, p := 0, q := 0, vv := 0, ii := 0, low := 0, winV := [], winI := [], winCycles := 0 }) })
      outs := s.metro.outs.map (fun o => { o with r := o.reported.1, backlog := o.reported.2, due := [], active := false })
      job := if s.metro.job.state == 1 then { s.metro.job with state := 3, cause := 5 } else s.metro.job
      cross := [none, none, none]
      restarted := true } }

/-! ### Reading back -/

/-- METER_READ (R231). -/
def cmdMeterRead (p : Packet) (s : State) : State × Ans :=
  match chanOf s.ord p.handle, s.metro.runs.find? (fun r => r.handle == p.handle) with
  | some ch, some r =>
    match r.last with
    | none => (s, { status := .wrongState })
    | some (t, b) =>
      if ch.state = .created || ch.state = .configured then (s, { status := .wrongState })
      else
        let thd := fun ph q => ((r.harmonics.find? (fun z => z.phase == ph + 1 && z.quantity == q)).map (·.thd)).getD 0
        let at_ := fun (k : Nat) => (s.metro.cross[k]?).getD none
        let per := (s.metro.period[0]?).getD 0
        let ang := fun (k : Nat) => match at_ 0, at_ k with
          | some a, some d => if per == 0 then 0xFFFF else (d + per * 65536 - a) % per * 36000 / per
          | _, _ => 0xFFFF
        (s, { payload := le 8 t ++ b ++ ((List.range r.cfg.phases.length).map (fun i => le 2 (thd i 0) ++ le 2 (thd i 1))).flatten ++ le 4 r.residualRms ++ le 2 (ang 1) ++ le 2 (ang 2) })
  | _, _ => (s, { status := .wrongState })

/-- HARMONICS_READ (R233). -/
def cmdHarmonicsRead (p : Packet) (s : State) : State × Ans :=
  let ph := fld p.payload 0 1
  let q := fld p.payload 1 1
  match circuitOf s.ord p.handle with
  | none => (s, { status := .wrongState })
  | some c =>
    if ph == 0 || c.phases.length < ph || 1 < q then (s, { status := .badParam })
    else match (s.metro.runs.find? (fun r => r.handle == p.handle)).bind (fun r => r.harmonics.find? (fun z => z.phase == ph && z.quantity == q)) with
      | none => (s, { status := .wrongState })
      | some z => (s, { payload := le 8 z.tick ++ le 4 z.fund ++ le 4 z.freq ++ le 2 z.thd ++ zeros 2 ++ (z.orders.map (fun o => le 2 o.1 ++ leS 2 o.2)).flatten })

/-! ### Calibration (R241) -/

/-- CAL_START (R241, Table 10). -/
def cmdCalStart (p : Packet) (s : State) : State × Ans :=
  let b := p.payload
  let step := fld b 0 1
  let i := fld b 1 1
  let path := fld b 3 1
  let cyc := fld b 4 2
  let phi := fldS b 16 4
  let j0 : CalJob := { step, input := i, path }
  let kind := j0.target.1
  let used := j0.target.2
  let x := (s.metro.iin[i]?).getD { value := 0 }
  if 4 < step || (if kind == 0 then 3 < i else 15 < i) || (if step == 4 then 2 < fld b 2 1 else fld b 2 1 != 0) || 1 < path || cyc < 50 || 3000 < cyc || 90000 < phi.natAbs then (s, { status := .badParam })
  else if s.metro.job.state == 1 then (s, { status := .busy })
  else if kind == 1 && ((used == 0 && bit x.flags 2) || (used == 1 && bit x.flags 1)) then (s, { status := .wrongState })
  else
    let old := calOf s.ord kind i used
    let n := s.metro.nextJob
    let j : CalJob := { job := n, state := 1, step, input := i, pair := fld b 2 1, path := used, asked := cyc, vref := fld b 8 4, iref := fld b 12 4, phi, old := match step with | 0 => old.1 | 4 => old.2.2 | _ => (old.2.1 : Nat) }
    let s := gbk 0x0C03 (masterOf s p.path) (le 4 n ++ le 1 step ++ le 1 i ++ le 1 used) { s with metro := { s.metro with job := j, nextJob := n + 1 } }
    (s, { payload := le 4 n ++ le 4 (cyc * 1000 / s.metro.nominal) })

/-- CAL_STATUS (R241). -/
def cmdCalStatus (_ : Packet) (s : State) : State × Ans :=
  let j := s.metro.job
  (s, { payload := le 4 j.job ++ le 1 j.state ++ le 1 j.cause ++ le 1 j.step ++ le 1 j.input ++ le 2 j.done ++ le 2 j.asked ++ le 4 j.v ++ le 4 j.i ++ leS 4 (j.angle / 1000) ++ le 4 j.freq ++
          leS 4 j.old ++ leS 4 j.new ++ zeros 4 })

/-- The proposed constant of a job (R241 Table 8); the angle is in 10^−6 degrees. -/
def calProposal (j : CalJob) (mean : Int) : Int :=
  match j.step with
  | 0 => j.old - mean
  | 1 => (divOr (j.old.toNat * j.vref) j.v : Nat)
  | 4 => j.old + roundDiv ((j.phi * 1000 - j.angle) * 1000000) (max 1 (360 * j.freq))
  | _ => (divOr (j.old.toNat * j.iref) j.i : Nat)

/-- CAL_JOB_COMPLETE (R241): the measurement of the job ends. `cause` 0, or 1 to 3 as CAL_STATUS names them; `volts`, `amps` in
Q16.16, `freq` in mHz, `mean` the mean counts of an offset job, `angle` φm in 10^−6 degrees. -/
def execCalJobComplete (cause done volts amps freq : Nat) (mean angle : Int) (s : State) : Host.Outcome State Fault Refusal :=
  if s.metro.job.state != 1 then .next s
  else
    let j := { s.metro.job with done, v := volts, i := amps, angle, freq }
    let new := calProposal j mean
    let okNew : Bool := match j.step with
      | 0 => decide (new.natAbs ≤ 65536)
      | 4 => decide (new.natAbs ≤ 300000)
      | _ => decide (858993460 ≤ new) && decide (new ≤ 1342177280)
    let cause := if cause != 0 then min cause 3 else if okNew then 0 else 4
    let j := { j with new, cause, state := if cause == 0 then 2 else 3 }
    .next (count (if cause == 0 then 0x108 else 0x109) { s with metro := { s.metro with job := j } })

/-! ### The save of a power failure (R259 to R261) -/

/-- What D9 has measured and no computation has yet read, per circuit number: entries that wait, and the tick in
progress, with cycles in progress sorted as complete (R259 step 2). -/
def unreadIncrements (s : State) (k : Nat) : List (List Nat) :=
  let waiting := (s.clerk.open_.map (fun e => (e.kind, e.body)) ++ s.clerk.intake.map (fun w => (w.kind, w.body))).filterMap (fun x =>
    if x.1 == 0x0801 then (match x.2 with | .raw b => if fld b 0 1 == k then some (entryIncrements b) else none | _ => none) else none)
  let run := (s.metro.runs.filter (fun r => r.cfg.num == some k)).map (fun r => r.phases.map (fun p => addFive p.acc (if p.n == 0 then List.replicate 5 0 else (sortCycle r.cfg p).1)))
  (waiting ++ run).foldl addPhases (List.replicate 3 (List.replicate 5 0))

/-- The metering save (R259 Table 6): the frozen registers, open intervals, pulse remainders and backlogs into the slot not
used last; the residue measured after the freeze with its own mark (none: not valid). -/
def metroSave (residue : Option (List (Nat × Nat))) (s : State) : State :=
  let k := 1 - s.metro.saveSlot
  let meters := s.ord.metering.meters.zipIdx.map (fun m => { m.1 with phases := addPhases m.1.phases (unreadIncrements s m.2), intervals := [], balances := [], waiting := [] })
  let r : SaveRec := { valid := true, freeze := s.clerk.tick, instant := tbmNs s, meters, pulses := s.metro.outs.map (fun o => (o.r, o.backlog)), residueValid := residue.isSome, residue := residue.getD [] }
  let live := r.residueValid && r.residue.any (fun x => x.1 != 0 || x.2 != 0)
  let s := { s with metro := { s.metro with saves := setAt s.metro.saves k r, saveSlot := k, saving := true, residues := (r :: s.metro.residues).take 16 } }
  gbk 0x0C14 0xFF (le 8 r.freeze ++ le 1 (b2n r.residueValid) ++ le 1 (b2n live)) (count 0x118 s)

/-- The metering part of a save is cancelled (R261): its valid mark is cleared, kind 0x0C15. -/
def cancelMetroSave (s : State) : State :=
  let k := s.metro.saveSlot
  let fr := ((s.metro.saves[k]?).getD {}).freeze
  let res := match s.metro.residues with | r :: rest => { r with cancelled := true } :: rest | [] => []
  gbk 0x0C15 0xFF (le 8 fr) (count 0x119 { s with metro := { s.metro with saves := modAt s.metro.saves k (fun r => { r with valid := false, cancelled := true }), saving := false, residues := res } })

/-- LAST_SAVE_CANCEL (R261, R448): PFW_N has been high for 100 ms at a boundary and the module kept running: every valid mark of
the save is cleared and the drain resumes. -/
def execLastSaveCancel (s : State) : Host.Outcome State Fault Refusal :=
  if s.gbk.saving then
    let s := { s with gbk := { s.gbk with saving := false }, supply := { s.supply with cancelled := true, pfw := false, level := true, save := {} } }
    let s := gbk 0x0106 0xFF (le 2 s.supply.saveUs ++ le 1 0 ++ le 1 1) (count 0x1F2 s)
    .next (if s.metro.saving then cancelMetroSave s else s)
  else .next s

/-- CIRCUIT_CONFIG: ordered; `ordCircuitConfig` is its effect. -/
def execCircuitConfig (p : Packet) (s : State) : Host.Outcome State Fault Refusal := .next (submitW 0x0801 p s)
/-- METER_INPUT_CONFIG: ordered; `ordMeterInputConfig` is its effect. -/
def execMeterInputConfig (p : Packet) (s : State) : Host.Outcome State Fault Refusal := .next (submitW 0x0802 p s)
@[inherit_doc cmdCalStart] def execCalStart (p : Packet) (s : State) : Host.Outcome State Fault Refusal := .next (submit 0x0803 cmdCalStart p s)
@[inherit_doc cmdCalStatus] def execCalStatus (p : Packet) (s : State) : Host.Outcome State Fault Refusal := .next (submit 0x0804 cmdCalStatus p s)
/-- CAL_COMMIT: ordered; `ordCalCommit` is its effect. -/
def execCalCommit (p : Packet) (s : State) : Host.Outcome State Fault Refusal := .next (submitW 0x0805 p s)
@[inherit_doc cmdMeterRead] def execMeterRead (p : Packet) (s : State) : Host.Outcome State Fault Refusal := .next (submit 0x0806 cmdMeterRead p s)
@[inherit_doc cmdHarmonicsRead] def execHarmonicsRead (p : Packet) (s : State) : Host.Outcome State Fault Refusal := .next (submit 0x0807 cmdHarmonicsRead p s)

end Sys2Proof.Machine
end

