-- ==== Sys2Proof/Machine/Channels.lean ====
section
/-!
DEFINITION. Machine/Channels.lean: the life of channels in the computations of the ticks (R41 to R50).
-/
namespace Sys2Proof.Machine

/-- How many channels of a type may be live at once (R42 Table 2); loop slots bound LOOP channels by themselves. -/
def typeLimit (t : Nat) : Nat :=
  match t with
  | 1 => 4096 | 2 => 1024 | 3 => 16 | 4 => 8 | 5 => 8 | 6 => 128 | 7 => 4 | 8 => 64 | _ => 4

/-- The live channels of a type. -/
def liveOf (o : Ordered) (t : Nat) : List Channel := o.channels.filter (fun c => hType c.handle == t)

/-- The lowest-numbered free slot (R44): not live, and not freed in this computation. -/
def freeChanSlot (o : Ordered) : Option Nat :=
  (List.range 4096).find? (fun k => (chanAt o k).isNone && !o.freed.contains k)

/-- The loop slots that a new channel of a type takes (R182, R206, R227). -/
def loopNeed (t : Nat) : Nat := match t with | 4 => 1 | 5 => 4 | 6 => 1 | _ => 0

/-- The loop slots of a new channel. -/
def loopSlotsFor (t : Nat) (h : Handle) (ks : List Nat) : List LoopSlot :=
  match t, ks with
  | 4, k :: _ => [circuitSlot h k]
  | 5, ks => lumSlots h ks
  | 6, k :: _ => [{ slot := k, owner := h, member := 0 }]
  | _, _ => []

/-- The session number of a new SESSION channel: the lowest of 1 to 4 that no live one holds (log entry 22). -/
def freeSession (o : Ordered) : Nat :=
  let used := o.channels.filterMap (fun c => match c.body with | .session x => some x.num | _ => none)
  (([1, 2, 3, 4].find? (fun n => !used.contains n))).getD 1

/-- What a new channel of a type holds. -/
def newBody (o : Ordered) (t : Nat) : ChanBody :=
  match t with
  | 1 => .group {} | 2 => .schedule {} | 3 => .escort {} | 4 => .circuit {} | 5 => .luminaire {} | 6 => .loop
  | 7 => .session { num := freeSession o } | 8 => .stream {} | _ => .trace {}

/-- CHANNEL_CREATE (R44, Table 12). -/
def ordChannelCreate : Handler := fun m p c =>
  let t := fld p.payload 0 1
  if t == 0 || 9 < t || 3 < fld p.payload 1 1 then (c, { status := .badParam })
  else
    let ks := freeSlots c.ord (loopNeed t)
    match freeChanSlot c.ord with
    | none => (c, { status := .noResource })
    | some slot =>
      if typeLimit t ≤ (liveOf c.ord t).length || ks.length < loopNeed t || c.storeFull then (c, { status := .noResource })
      else
        let h := mkHandle t (lookD slot 1 c.ord.gens) slot
        let ch : Channel := { handle := h, created := c.tick, since := c.tick, label := (p.payload.drop 8).take 16, body := newBody c.ord t }
        let xs := loopSlotsFor t h ks
        let c := { c with ord := ({ c.ord with channels := insertChan ch c.ord.channels } : Ordered).addSlots xs }
        let c := if t == 5 then xs.foldl (fun (c : Calc) x => c.toDrive (.slot x)) c else c
        ((c.derive 0x0601 m (le 4 h.toNat ++ le 1 t)).count 0x027 1, { payload := le 4 h.toNat ++ zeros 4, handle := some h })

/-- A channel enters a state. -/
def Calc.setState (h : Handle) (st : ChanState) (c : Calc) : Calc := c.modChan h (fun x => { x with state := st, since := c.tick })

/-- Normal computation of a channel begins: what its type does at CHANNEL_START. -/
def Calc.begin_ (ch : Channel) (c : Calc) : Calc :=
  let h := ch.handle
  match ch.body with
  | .circuit x => match x.num with | some k => (c.openMeter k).toMetro (.start h (c.tick + 2)) | none => c
  | .luminaire _ => c.toDrive (.chan h 1 c.tick)
  | .loop => c.toDrive (.chan h 1 c.tick)
  | .session _ => c.startSession h
  | _ => c

/-- A channel is held, by command or by a fault (R47 Table 5), or computes normally again. -/
def Calc.pause (h : Handle) (hold : Bool) (c : Calc) : Calc :=
  let c := c.holdLoops h hold
  if hType h == 5 || hType h == 6 then c.toDrive (.chan h (if hold then 2 else 3) c.tick) else c

/-- CHANNEL_START (R46). -/
def ordChannelStart : Handler := fun _ p c =>
  match chanOf c.ord p.handle with
  | some ch => if ch.state = .configured then ((c.setState p.handle .running).begin_ ch, {}) else (c, { status := .wrongState })
  | none => (c, { status := .staleHandle })

/-- CHANNEL_HOLD (R46, R47). -/
def ordChannelHold : Handler := fun m p c =>
  match chanOf c.ord p.handle with
  | some ch =>
    if ch.state = .running then (((c.setState p.handle .held).pause p.handle true).derive 0x0607 m (le 4 p.handle.toNat ++ le 1 3), {})
    else (c, { status := .wrongState })
  | none => (c, { status := .staleHandle })

/-- CHANNEL_RELEASE (R46). -/
def ordChannelRelease : Handler := fun m p c =>
  match chanOf c.ord p.handle with
  | some ch =>
    if ch.state = .held then (((c.setState p.handle .running).pause p.handle false).derive 0x0607 m (le 4 p.handle.toNat ++ le 1 2), {})
    else (c, { status := .wrongState })
  | none => (c, { status := .staleHandle })

/-- The plan refers to a group: it has members, or a staged membership in preparation names it (R130, R159). -/
def planRefers (c : Calc) (h : Handle) : Bool :=
  c.ord.members.any (fun m => m.2 == h) || (c.plan.state == 2 && (staged c.plan).members.any (fun m => memHandle m.2 == h))

/-- A channel refers to another: a GROUP to its SCHEDULE, and a GROUP with CIRCUIT_CAP to the CIRCUIT that a member is placed
on (R50, R144, R159; log entry 27). -/
def chanRefers (o : Ordered) (ch x : Channel) : Bool :=
  match x.body with
  | .group g =>
    g.schedule == ch.handle ||
      (match ch.body with
       | .circuit k => bit g.flags 0 && o.members.any (fun m => m.2 == x.handle && (placementOf o m.1).any (fun b => some (plCircuit b) == k.num))
       | _ => false)
  | _ => false

/-- The handle that CHANNEL_DESTROY names (R50). -/
def referrer (c : Calc) (ch : Channel) : Option Handle :=
  if planRefers c ch.handle then some deviceHandle
  else (c.ord.channels.find? (fun x => x.handle != ch.handle && chanRefers c.ord ch x)).map (·.handle)

/-- The generation after `g` (R43). -/
def nextGen (g : Nat) : Nat := if g == 0xFFFF then 1 else g + 1

/-- CHANNEL_DESTROY (R43, R50). -/
def ordChannelDestroy : Handler := fun m p c =>
  let h := p.handle
  match chanOf c.ord h with
  | none => (c, { status := .staleHandle })
  | some ch =>
    match referrer c ch with
    | some r => (c, { status := .wrongState, payload := le 4 r.toNat ++ zeros 4 })
    | none =>
      let c := c.freeLoops h
      let c := if hType h == 5 || hType h == 6 || hType h == 9 then c.toDrive (.chan h 4 c.tick) else c
      let c := match ch.body with
        | .circuit x => match x.num with
          | some k => (if (meterOf c.ord k).opened then c.closeInterval ch.tainted k true else c).toMetro (.stop h)
          | none => c
        | _ => c
      let slot := hSlot h
      let o := { c.ord with channels := c.ord.channels.filter (fun x => x.handle != h), freed := c.ord.freed ++ [slot], gens := put slot (nextGen (lookD slot 1 c.ord.gens)) c.ord.gens }
      ((({ c with ord := o } : Calc).derive 0x0602 m (le 4 h.toNat)).count 0x028 1, {})

/-- A CHANNEL_FAULT entry is read (R46, R48). -/
def Calc.readFaultEntry (b : List Byte) (c : Calc) : Calc :=
  let h : Handle := BitVec.ofNat 32 (fld b 0 4)
  match chanOf c.ord h with
  | none => c
  | some ch =>
    if ch.state = .faulted then c
    else
      let c := c.modChan h (fun x => { x with before := x.state, state := .faulted, cause := fld b 4 1, since := c.tick })
      let c := if ch.state = .running then c.pause h true else c
      (c.derive 0x0603 0xFF (le 4 h.toNat ++ le 1 (fld b 4 1))).count 0x02A 1

/-- A CHANNEL_RESTORED entry is read (R46, R47). -/
def Calc.readRestoredEntry (b : List Byte) (c : Calc) : Calc :=
  let h : Handle := BitVec.ofNat 32 (fld b 0 4)
  match chanOf c.ord h with
  | none => c
  | some ch =>
    if ch.state ≠ .faulted then c
    else
      let c := c.modChan h (fun x => { x with state := x.before, since := c.tick })
      if ch.before = .running then c.pause h false else c

@[inherit_doc ordChannelCreate] def execChannelCreate (p : Packet) (s : State) : Host.Outcome State Fault Refusal := .next (submitW 0x0101 p s)
@[inherit_doc ordChannelStart] def execChannelStart (p : Packet) (s : State) : Host.Outcome State Fault Refusal := .next (submitW 0x0102 p s)
@[inherit_doc ordChannelHold] def execChannelHold (p : Packet) (s : State) : Host.Outcome State Fault Refusal := .next (submitW 0x0103 p s)
@[inherit_doc ordChannelRelease] def execChannelRelease (p : Packet) (s : State) : Host.Outcome State Fault Refusal := .next (submitW 0x0104 p s)
@[inherit_doc ordChannelDestroy] def execChannelDestroy (p : Packet) (s : State) : Host.Outcome State Fault Refusal := .next (submitW 0x0105 p s)

end Sys2Proof.Machine
end

