-- ==== Sys2Proof/Machine/Lodging.lean ====
section
/-!
DEFINITION. Machine/Lodging.lean: the Innkeeper's side of channels (ch. 3): lodgings, placement, faults detected, and the
commands that read them.
-/
namespace Sys2Proof.Machine

/-! ### Placement (R55 to R60) -/

/-- The mean of the last 100 readings of a sensor, 0.1 °C (R451): 0 reference point, 1 to 3 WING_A to C, 4 and 5 the radio
groups. -/
def sensorMean (s : State) (k : Nat) : Int :=
  let xs := s.supply.readings.map (fun r => (r[k]?).getD 0)
  if xs.isEmpty then 0 else (xs.foldl (· + ·) 0).fdiv xs.length

/-- The planned work of a channel: its longest computation time plus 10 % (R57). -/
def Lodge.planned (l : Lodge) : Nat := l.work * 11 / 10

/-- The planned work of an engine. -/
def engineWork (s : State) (e : Nat) : Nat := sumBy (fun (l : Lodge) => if l.engine == e then l.planned else 0) s.inn.lodges

/-- An engine may take lodgings: not retired, its wing not gated. -/
def engineUsable (s : State) (e : Nat) : Bool := e < 12 && !(s.inn.engines[e]?).any (·.retired) && !bit s.inn.gated (e / 4)

/-- The wing of highest on-die temperature; on equal temperatures the later letter (R58). -/
def hottestWing (s : State) : Nat :=
  [1, 2].foldl (fun w k => if sensorMean s (w + 1) ≤ sensorMean s (k + 1) then k else w) 0

/-- The engines that may take a lodging now: at thermal stage 2 not those of the hottest wing (R57 policy 3). -/
def openEngines (s : State) : List Nat :=
  let all := (List.range 12).filter (engineUsable s)
  let cool := if s.supply.stage == 2 then all.filter (fun e => e / 4 != s.supply.hot) else all
  if cool.isEmpty then all else cool

/-- The engine of least planned work among some, the lowest number on equal work. -/
def leastLoaded (s : State) (es : List Nat) : Option Nat :=
  es.foldl (fun acc e => match acc with | none => some e | some b => if engineWork s e < engineWork s b then some e else acc) none

/-- The engine of a channel. -/
def engineOf (s : State) (h : Handle) : Option Nat :=
  match chanOf s.ord h with
  | some _ => (s.inn.lodges.find? (fun l => l.slot == hSlot h)).map (·.engine)
  | none => none

/-- The engines that a hint asks for (Table 9). -/
def hintEngines (s : State) (slot hint : Nat) (near : Handle) (es : List Nat) : List Nat :=
  match hint with
  | 1 => (([0, 1, 2].map (fun w => es.filter (fun e => e / 4 == w))).find? (fun l => !l.isEmpty)).getD []
  | 2 => es.filter (fun e => !s.inn.lodges.any (fun l => l.slot != slot && l.hint == 2 && l.engine == e))
  | 3 => match engineOf s near with
    | some e => if es.contains e && engineWork s e ≤ 175000 then [e] else es.filter (fun x => x / 4 == e / 4)
    | none => es
  | _ => es

/-- Whether a lodging follows its hint; a NEAR hint lapses with the channel it names. -/
def hintFollowed (s : State) (l : Lodge) : Bool :=
  match l.hint with
  | 1 => l.engine / 4 == 0 || !(openEngines s).any (fun e => e / 4 < l.engine / 4)
  | 2 => !s.inn.lodges.any (fun x => x.slot != l.slot && x.hint == 2 && x.engine == l.engine)
  | 3 => match engineOf s l.near with | some e => e == l.engine | none => true
  | _ => true

/-- Note for each lodging whether its hint is followed; each that newly is not counts event source 0x02C (R60). -/
def noteHints (s : State) : State :=
  let ls := s.inn.lodges.map (fun (l : Lodge) => ({ l with notFollowed := !hintFollowed s l }, !l.notFollowed && !hintFollowed s l))
  countN 0x02C (ls.filter Prod.snd).length { s with inn := { s.inn with lodges := ls.map Prod.fst } }

/-- A new channel gets its lodging (R46): the least loaded engine its hint asks for, and a region. -/
def addLodge (h : Handle) (hint : Nat) (near : Handle) (s : State) : State :=
  let es := openEngines s
  let want := hintEngines s (hSlot h) hint near es
  let e := ((leastLoaded s want).or (leastLoaded s es)).getD 0
  let x := allocRegion h s
  { x.1 with inn := { x.1.inn with review := true, lodges := insertBy (fun (l : Lodge) => l.slot) { slot := hSlot h, engine := e, hint, near, regions := x.2 } x.1.inn.lodges } }

/-- A destroyed channel frees its lodging, and the image it held. -/
def dropLodge (h : Handle) (s : State) : State :=
  let s := freeRegions h s
  let s := { s with air := { s.air with streamers := s.air.streamers.filter (fun y => y.slot != hSlot h) } }
  { s with inn := { s.inn with review := true, lodges := s.inn.lodges.filter (fun l => l.slot != hSlot h), rebuilds := s.inn.rebuilds.filter (fun r => r.handle != h), waiting := s.inn.waiting.filter (fun r => r.handle != h) } }

/-- The hint of the CHANNEL_CREATE that made a channel, among the replies of a computation. -/
def createHint (rs : List CmdResult) (h : Handle) : Nat × Handle :=
  match rs.find? (fun r => r.packet.opcode == 0x0101 && r.handle == some h) with
  | some r => (fld r.packet.payload 1 1, BitVec.ofNat 32 (fld r.packet.payload 4 4))
  | none => (0, 0)

/-- Lodgings follow the channels that a computation created and destroyed. -/
def syncLodges (old new : Ordered) (rs : List CmdResult) (s : State) : State :=
  let gone := old.channels.filter (fun c => (chanOf new c.handle).isNone)
  let made := new.channels.filter (fun c => (chanOf old c.handle).isNone)
  let s := gone.foldl (fun s c => dropLodge c.handle s) s
  let s := { s with air := { s.air with streamers := s.air.streamers.filter (fun y => new.channels.any (fun c => hSlot c.handle == y.slot)) } }
  noteHints (made.foldl (fun s c => let x := createHint rs c.handle; addLodge c.handle x.1 x.2 s) s)

/-- Move a channel's computation to another engine (R59). -/
def moveLodge (slot e : Nat) (s : State) : State :=
  let f := fun (l : Lodge) => if l.slot == slot then { l with engine := e, relocations := satAdd 32 l.relocations 1 } else l
  count 0x021 { s with inn := { s.inn with lodges := s.inn.lodges.map f } }

/-- Every lodging of an engine leaves it, under a policy of Table 8: kind 0x0606 for each; a pin ends (R57). -/
def evacuateEngine (e policy : Nat) (others : List Nat) (s : State) : State :=
  (s.inn.lodges.filter (fun l => l.engine == e)).foldl (fun s l =>
    match leastLoaded s (others.filter (fun x => x != e)) with
    | none => s
    | some t =>
      let h := ((chanAt s.ord l.slot).map (·.handle)).getD 0
      let unpin := fun (x : Lodge) => if x.slot == l.slot then { x with pinned := false } else x
      let s := moveLodge l.slot t { s with inn := { s.inn with lodges := s.inn.lodges.map unpin } }
      gbk 0x0606 0xFF (le 4 h.toNat ++ le 1 e ++ le 1 t ++ le 1 policy) s) s

/-- Local-memory errors of an engine; one uncorrectable, or 8 corrected in 3,600 s, evacuate and retire it (R57 policy 1). -/
def engineErrors (x : Nat × Nat × Nat) (s : State) : State :=
  let now := minuteNow s
  let f := fun (e : Engine) => { e with recent := addRecent now x.2.1 e.recent, uncorrectable := e.uncorrectable + x.2.2 }
  let s := { s with inn := { s.inn with engines := modAt s.inn.engines x.1 f } }
  match s.inn.engines[x.1]? with
  | none => s
  | some e =>
    if e.retired || (e.uncorrectable == 0 && recentCount now e.recent < 8) then s
    else
      let s := { s with inn := { s.inn with engines := modAt s.inn.engines x.1 (fun e => { e with retired := true }) } }
      let s := evacuateEngine x.1 1 (openEngines s) s
      gbk 0x0604 0xFF (le 1 x.1 ++ le 2 (recentCount now e.recent) ++ le 2 e.uncorrectable) (count 0x026 s)

/-- The longest computation of each channel in the last 240 ticks, and the longest of each engine. -/
def noteWork (work : List (Nat × Nat)) (s : State) : State :=
  let ls := s.inn.lodges.map (fun (l : Lodge) => match look l.slot work with | some w => { l with work := w } | none => l)
  let es := s.inn.engines.zipIdx.map (fun (e : Engine × Nat) => { e.1 with longest := ls.foldl (fun m (l : Lodge) => if l.engine == e.2 then max m l.work else m) 0 })
  { s with inn := { s.inn with lodges := ls, engines := es } }

/-- A move that the policies allow: to an open engine that it does not load above 70 % of a tick; a pinned channel stays. -/
def reviewMove (m : Nat × Nat) (s : State) : State :=
  match s.inn.lodges.find? (fun l => l.slot == m.1) with
  | none => s
  | some l =>
    if l.pinned || l.engine == m.2 || !(openEngines s).contains m.2 || 175000 < engineWork s m.2 + l.planned then s else moveLodge m.1 m.2 s

/-- The wings that may be gated: without lodgings, no thermal stage, another wing ungated, WING_A last, and every ungated
engine at most at 50 % of a tick (R58, R57 policy 3). -/
def gatableWings (s : State) : List Nat :=
  let on := [0, 1, 2].filter (fun w => !bit s.inn.gated w)
  on.filter (fun w => s.supply.stage == 0 && 1 < on.length && (w != 0 || !(on.contains 1 || on.contains 2)) &&
    !s.inn.lodges.any (fun l => l.engine / 4 == w) && (List.range 12).all (fun e => !engineUsable s e || engineWork s e ≤ 125000))

/-- Gate or ungate a wing (R58). -/
def reviewGating (s : State) : State :=
  let above := (List.range 12).any (fun e => engineUsable s e && 175000 < engineWork s e)
  if above || s.supply.stage != 0 then
    match [0, 1, 2].find? (fun w => bit s.inn.gated w) with
    | some w => count 0x024 { s with inn := { s.inn with gated := s.inn.gated - 2 ^ w } }
    | none => s
  else
    match (gatableWings s).foldl (fun acc w => match acc with | none => some w | some b => if sensorMean s (b + 1) ≤ sensorMean s (w + 1) then some w else acc) none with
    | some w => count 0x023 { s with inn := { s.inn with gated := s.inn.gated + 2 ^ w } }
    | none => s

/-- PLACEMENT_REVIEW (R57 to R59): at every 240th boundary and at the next boundary after a trigger. The environment gives the
computation times (slot, µs), the moves the Innkeeper chooses (slot, engine), and local-memory errors (engine, corrected,
uncorrectable); the policies admit or refuse each. -/
def execPlacementReview (work moves : List (Nat × Nat)) (errors : List (Nat × Nat × Nat)) (s : State) : Host.Outcome State Fault Refusal :=
  .next (
    let s := noteWork work s
    let s := errors.foldl (fun s x => engineErrors x s) s
    if s.inn.review || s.clerk.tick % 240 == 0 then
      let s := (moves.take 64).foldl (fun s m => reviewMove m s) s
      noteHints (reviewGating { s with inn := { s.inn with review := false } })
    else s)

/-! ### Faults (R48) -/

/-- The Innkeeper places a CHANNEL_FAULT entry (R48, Table 7). -/
def placeFault (h : Handle) (cause detail : Nat) (s : State) : State := placeClerk 0x0101 (le 4 h.toNat ++ le 1 cause ++ zeros 3 ++ le 8 detail) s

/-- The items of a failed computation are replaced by the channel's items of the tick before, and so are its posts (R49). -/
def revertPosts (h : Handle) (old o : Ordered) : Ordered :=
  { o with posts := o.posts.filter (fun p => p.src != h) ++ (old.posts.filter (fun p => p.src == h)).map (fun p => { p with tainted := true }) }

/-- The state that other computations read of a failed channel is that of the tick before, with the mark (R49). -/
def revertChannel (h : Handle) (old : Option Channel) (o : Ordered) : Ordered :=
  o.modChan h (fun ch =>
    let ch := { ch with tainted := true, lastItems := (old.map (fun (c : Channel) => c.lastItems)).getD [] }
    match ch.body, old.map (fun (c : Channel) => c.body) with
    | .group g, some (.group g') => { ch with body := .group { g with vals := g'.vals } }
    | _, _ => ch)

/-- A computation has failed its self-check: the results not yet released hold the channel's outputs of the tick before, TAINTED (R36,
R49). -/
def failComputation (h : Handle) (s : State) : State :=
  match s.computed.getLast? with
  | none => s
  | some (r, o) =>
    let was := ((s.computed.dropLast.getLast?).map Prod.snd).getD s.rel
    let old := chanOf was h
    let fresh := ((chanOf o h).map (fun (c : Channel) => c.lastItems)).getD []
    let stale := ((old.map (fun (c : Channel) => c.lastItems)).getD []).map (fun (i : Item) => { i with tainted := true })
    let o' := revertChannel h old (revertPosts h was o)
    let first := !(chanOf o h).any (fun (c : Channel) => c.tainted)
    let s := { s with computed := s.computed.dropLast ++ [({ r with items := r.items.filter (fun i => !fresh.contains i) ++ stale, failed := r.failed ++ [h] }, o')], ord := revertChannel h old (revertPosts h was s.ord) }
    if first then gbk 0x0506 0xFF (le 4 h.toNat ++ le 8 r.tick) { s with clerk := { s.clerk with taint := true } } else s

/-- CHANNEL_FAULT_DETECT (R48, R49): a fault cause of Table 6 in a live channel. A computation that failed its self-check releases
the outputs of the tick before, with the mark (R49). -/
def execChannelFaultDetect (channel : Handle) (cause : Nat) (s : State) : Host.Outcome State Fault Refusal :=
  .next (match chanOf s.ord channel with
    | none => s
    | some ch =>
      if ch.state = .faulted || cause == 0 || 4 < cause then s
      else
        let s := if cause == 1 then failComputation channel s else s
        placeFault channel cause 0 s)

/-! ### Commands -/

/-- A usable checkpoint for a rebuild: the newest of the working store (R51). -/
def newestCkpt (s : State) : Option Checkpoint := s.ckpts.getLast?

/-- A waybill is in the ring and readable, or its tick has none (R32, R362). -/
def ringHas (s : State) (t : Nat) : Bool :=
  (s.clerk.ring.any (fun w => w.tick == t) && !s.store.badWaybills.any (fun b => b.1 == t)) || inGap s.clerk t

/-- Every waybill after a tick up to the last sealed one is at hand (R51). -/
def ringHolds (s : State) (after : Nat) : Bool := (List.range (s.clerk.tick - 1 - after)).all (fun k => ringHas s (after + 1 + k))

/-- CHANNEL_RESET (R51): the rebuild starts at the next boundary, and the reply is sent then. Where it cannot be made, a channel
that is not FAULTED becomes so: cause 0x02 without a checkpoint, 0x03 without a waybill. -/
def cmdChannelReset (p : Packet) (s : State) : State × Ans :=
  let h := p.handle
  match chanOf s.ord h with
  | none => (s, { status := .staleHandle })
  | some ch =>
    if ch.state = .created || ch.state = .configured then (s, { status := .wrongState })
    else if 4 ≤ s.inn.rebuilds.length + s.inn.waiting.length || s.inn.rebuilds.any (fun r => r.handle == h) || s.inn.waiting.any (fun r => r.handle == h) then (s, { status := .busy })
    else match newestCkpt s with
      | none => (if ch.state = .faulted then s else placeFault h 2 0 s, { status := .range })
      | some c =>
        if ringHolds s c.tick then ({ s with inn := { s.inn with waiting := s.inn.waiting ++ [{ handle := h, packet := some p }] } }, { later := true })
        else (if ch.state = .faulted then s else placeFault h 3 0 s, { status := .range })

/-- CHANNEL_INFO (Table 13). -/
def cmdChannelInfo (p : Packet) (s : State) : State × Ans :=
  match chanOf s.ord p.handle with
  | none => (s, { status := .staleHandle })
  | some ch =>
    let pinned := s.inn.lodges.any (fun l => l.slot == hSlot p.handle && l.pinned)
    let fl := b2n ch.tainted + 2 * b2n (s.inn.rebuilds.any (fun r => r.handle == p.handle)) + 4 * b2n pinned
    (s, { payload := le 4 p.handle.toNat ++ le 1 (stateCode ch.state) ++ le 1 fl ++ le 1 ch.cause ++ zeros 1 ++ le 8 ch.created ++ le 8 ch.since ++ fit 16 ch.label })

/-- CHANNEL_LIST. -/
def cmdChannelList (p : Packet) (s : State) : State × Ans :=
  let first := fld p.payload 0 2
  let ty := fld p.payload 2 1
  let most := fld p.payload 3 1
  if 4095 < first || 9 < ty || most == 0 then (s, { status := .badParam })
  else
    let all := s.ord.channels.filter (fun c => first ≤ hSlot c.handle && (ty == 0 || hType c.handle == ty))
    let got := all.take most
    let next := (((all.drop most).head?).map (fun c => hSlot c.handle)).getD 0xFFFF
    (s, { payload := le 2 got.length ++ le 2 next ++ (got.map (fun c => le 4 c.handle.toNat)).flatten })

/-- LODGING_GET (Table 14). -/
def cmdLodgingGet (p : Packet) (s : State) : State × Ans :=
  match s.inn.lodges.find? (fun l => l.slot == hSlot p.handle) with
  | none => (s, { status := .staleHandle })
  | some l =>
    let rs := l.regions.map (fun k => le 1 k ++ le 1 (b2n (((s.store.regions[k]?).bind (·.strong)).getD false)))
    (s, { payload := le 1 l.engine ++ le 1 (l.engine / 4) ++ le 1 l.hint ++ le 1 (b2n l.notFollowed + 2 * b2n l.pinned + 4 * b2n l.moving.isSome) ++ le 4 l.planned ++ le 4 l.relocations ++ le 1 l.regions.length ++ zeros 3 ++ rs.flatten })

/-- Change a lodging. -/
def modLodge (slot : Nat) (f : Lodge → Lodge) (s : State) : State :=
  { s with inn := { s.inn with lodges := s.inn.lodges.map (fun (l : Lodge) => if l.slot == slot then f l else l) } }

/-- PLACEMENT_HINT (R60). -/
def cmdPlacementHint (p : Packet) (s : State) : State × Ans :=
  let hint := fld p.payload 0 1
  if 3 < hint then (s, { status := .badParam })
  else
    let s := modLodge (hSlot p.handle) (fun l => { l with hint, near := BitVec.ofNat 32 (fld p.payload 4 4) }) s
    (noteHints { s with inn := { s.inn with review := true } }, {})

/-- CHANNEL_PIN (R57 policy 2). -/
def cmdChannelPin (p : Packet) (s : State) : State × Ans :=
  let e := fld p.payload 0 1
  let slot := hSlot p.handle
  if e != 0xFF && !engineUsable s e then (s, { status := .badParam })
  else if s.mode.lifecycle != 3 then (s, { status := .notPermitted })
  else if e == 0xFF then (modLodge slot (fun l => { l with pinned := false }) s, {})
  else
    let s := if s.inn.lodges.any (fun l => l.slot == slot && l.engine == e) then s else moveLodge slot e s
    (modLodge slot (fun l => { l with pinned := true }) s, {})

/-- ENGINE_STATUS. -/
def cmdEngineStatus (_ : Packet) (s : State) : State × Ans :=
  let item := fun e =>
    let x := (s.inn.engines[e]?).getD {}
    let st := if x.retired then 2 else if bit s.inn.gated (e / 4) then 1 else 0
    le 1 st ++ le 2 (s.inn.lodges.filter (fun l => l.engine == e)).length ++ le 4 (engineWork s e) ++ le 4 x.longest ++ le 2 (recentCount (minuteNow s) x.recent) ++
      leS 2 (sensorMean s (e / 4 + 1)) ++ zeros 1
  (s, { payload := ((List.range 12).map item).flatten })

@[inherit_doc cmdChannelReset] def execChannelReset (p : Packet) (s : State) : Host.Outcome State Fault Refusal := .next (submit 0x0106 cmdChannelReset p s)
@[inherit_doc cmdChannelInfo] def execChannelInfo (p : Packet) (s : State) : Host.Outcome State Fault Refusal := .next (submit 0x0107 cmdChannelInfo p s)
@[inherit_doc cmdChannelList] def execChannelList (p : Packet) (s : State) : Host.Outcome State Fault Refusal := .next (submit 0x0108 cmdChannelList p s)
@[inherit_doc cmdLodgingGet] def execLodgingGet (p : Packet) (s : State) : Host.Outcome State Fault Refusal := .next (submit 0x0110 cmdLodgingGet p s)
@[inherit_doc cmdPlacementHint] def execPlacementHint (p : Packet) (s : State) : Host.Outcome State Fault Refusal := .next (submit 0x0111 cmdPlacementHint p s)
@[inherit_doc cmdChannelPin] def execChannelPin (p : Packet) (s : State) : Host.Outcome State Fault Refusal := .next (submit 0x0112 cmdChannelPin p s)
@[inherit_doc cmdEngineStatus] def execEngineStatus (p : Packet) (s : State) : Host.Outcome State Fault Refusal := .next (submit 0x0113 cmdEngineStatus p s)

end Sys2Proof.Machine
end

