-- ==== Sys2Proof/Machine/Waybills.lean ====
section
/-!
DEFINITION. Machine/Waybills.lean: waybills and digests as bytes, quotas, the reads of the ring and of the log store, and the replay
job's commands (ch. 2).
-/
namespace Sys2Proof.Machine

/-! ### Waybills as bytes (R29, R30) -/

/-- One entry of a waybill: its header (Table 4) and its padded payload. -/
def Entry.bytes (seq : Nat) (e : Entry) : List Byte :=
  le 2 e.kind ++ le 2 e.payload.length ++ le 1 e.cls ++ le 1 e.index ++ le 1 (b2n e.deferred) ++ le 1 e.held ++ le 2 seq ++ zeros 2 ++ le 4 e.offset ++ pad8 e.payload

/-- The entries of a waybill as bytes. -/
def entriesBytes (es : List Entry) : List Byte := (es.zipIdx.map (fun (x : Entry × Nat) => x.1.bytes x.2)).flatten

/-- A waybill as bytes (R29 Table 3). -/
def Waybill.bytes (w : Waybill) : List Byte :=
  let body := entriesBytes w.entries
  [0x57, 0x42, 0x4C, 0x33] ++ le 2 64 ++ le 2 (b2n w.resume + 2 * b2n w.planChanged) ++ le 8 w.tick ++ le 4 w.entries.length ++
    le 4 (64 + body.length) ++ le 4 w.planGen ++ zeros 4 ++ digestBytes w.prev ++ body

/-- D(n) (R30). -/
def Waybill.digest (w : Waybill) : Digest := Config.sha256 w.bytes

/-- The length of a waybill (R29). -/
def Waybill.size (w : Waybill) : Nat := 64 + sumBy Entry.size w.entries

/-- The entries that bytes spell; the fuel is their number. -/
def parseEntries : Nat → List Byte → List Entry
  | 0, _ => []
  | n + 1, b =>
    if b.length < 16 then []
    else
      let kind := fld b 0 2
      let len := fld b 2 2
      let data := (b.drop 16).take len
      let index := fld b 5 1
      let body : Body := if kind == 0x0201 then .command (parsePacket (.internal index) data) else .raw data
      { kind, cls := fld b 4 1, index, deferred := bit (fld b 6 1) 0, held := fld b 7 1, offset := fld b 12 4, body } :: parseEntries n (b.drop (16 + (len + 7) / 8 * 8))

/-- The waybill that bytes spell (R29). -/
def parseWaybill (b : List Byte) : Waybill :=
  { tick := fld b 8 8, resume := bit (fld b 6 2) 0, planChanged := bit (fld b 6 2) 1, planGen := fld b 24 4, prev := BitVec.ofNat 256 (fld b 32 32),
    entries := parseEntries (fld b 16 4) (b.drop 64) }

/-! ### The output record (R31) -/

/-- The items of a section of the output record, in its order. -/
def sectionItems (r : TickResult) (n : Nat) : List Item := sortBy (fun i => i.key * 2 ^ 40 + i.key2) (r.items.filter (fun i => i.section_ == n))

/-- A section (R31). -/
def sectionBytes (n : Nat) (tainted : Bool) (items : List (List Byte)) : List Byte :=
  let b := items.flatten
  le 2 n ++ le 4 items.length ++ le 4 b.length ++ le 2 (b2n tainted) ++ b

/-- An item of section 0x0007 (R104). -/
def replyItem (r : CmdResult) : List Byte :=
  le 1 r.master ++ le 1 r.packet.tag ++ le 1 r.status ++ le 1 (r.packet.flags % 4 + 8 + 16 * b2n (decide (0 < r.held))) ++ le 2 r.entry ++ le 2 r.payload.length ++
    le 4 r.packet.seq ++ le 2 r.packet.opcode ++ zeros 2 ++ pad8 r.payload

/-- An item of section 0x0008 (R386): the record without sequence, TB_L stamp, last repeat and valid mark. -/
def derivedItem (tick : Nat) (d : Derived) : List Byte :=
  (({ kind := d.kind, derived := true, master := d.master, tick, detail := d.detail } : GbkRec).bytes).take 60 ++ zeros 4

/-- The replies of a tick in acceptance order (R31). -/
def orderedReplies (r : TickResult) : List CmdResult := sortBy (fun x => x.tick * 65536 + x.entry) r.replies

/-- A section carries TAINTED (R36). -/
def sectionTainted (r : TickResult) (n : Nat) : Bool :=
  if n == 7 then r.replies.any (·.tainted) else if n == 8 then r.recordsTainted else (r.items.filter (fun i => i.section_ == n)).any (·.tainted) || (n == 1 && r.devTaint.contains 0) || (n == 6 && r.devTaint.contains 2)

/-- The bytes of a section. -/
def TickResult.section_ (r : TickResult) (n : Nat) : List Byte :=
  sectionBytes n (sectionTainted r n)
    (if n == 7 then (orderedReplies r).map replyItem else if n == 8 then r.derived.map (derivedItem r.tick) else (sectionItems r n).map (·.bytes))

/-- The output record of a tick (R31 Table 6). -/
def TickResult.record (r : TickResult) : List Byte := ((List.range 8).map (fun k => r.section_ (k + 1))).flatten

/-- O(n) (R31). -/
def TickResult.output (r : TickResult) : Digest := Config.sha256 (digestBytes r.d ++ r.record)

/-- The record carries TAINTED in some section (R38). -/
def TickResult.tainted (r : TickResult) : Bool := (List.range 8).any (fun k => sectionTainted r (k + 1))

/-! ### Quotas (R23, R24) -/

/-- The 8 bytes of a quota (Table 8). -/
def Quota.bytes (q : Quota) : List Byte := le 1 q.cls ++ le 1 q.index ++ le 2 q.entries ++ le 2 q.kib ++ zeros 2

/-- QUOTA_GET. -/
def cmdQuotaGet (_ : Packet) (s : State) : State × Ans := (s, { payload := (s.ord.quotas.map Quota.bytes).flatten })

/-- The ranges of a changeable source (Table 2): entries and KiB; none: fixed or unknown. -/
def quotaRange (cls index : Nat) : Option ((Nat × Nat) × (Nat × Nat)) :=
  if cls == 1 && index ≤ 4 then some ((16, 1024), (16, 1024))
  else if cls == 2 && index ≤ 3 then some ((256, 8192), (64, 1024))
  else if cls == 6 && index == 0 then some ((64, 1024), (16, 256))
  else none

/-- The items of QUOTA_SET (Table 8). -/
def quotaItems (b : List Byte) : List Quota :=
  (List.range (fld b 0 1)).map (fun i => { cls := fld b (8 + 8 * i) 1, index := fld b (9 + 8 * i) 1, entries := fld b (10 + 8 * i) 2, kib := fld b (12 + 8 * i) 2 })

/-- The sums of R24 hold. -/
def quotaSums (qs : List Quota) : Bool := sumBy (·.entries) qs ≤ 65536 && sumBy (fun q => q.kib * 1024) qs ≤ 4194240

/-- QUOTA_SET (R24): the quotas apply from the next waybill. -/
def ordQuotaSet : Handler := fun m p c =>
  let qs := quotaItems p.payload
  let put := fun (l : List Quota) (q : Quota) => l.map (fun x => if x.cls == q.cls && x.index == q.index then q else x)
  let new := qs.foldl put c.ord.quotas
  let out := fun (q : Quota) => match quotaRange q.cls q.index with
    | some (e, k) => q.entries < e.1 || e.2 < q.entries || q.kib < k.1 || k.2 < q.kib
    | none => true
  if qs.isEmpty || 10 < qs.length || qs.any (fun q => (quotaRange q.cls q.index).isNone) then (c, { status := .badParam })
  else if qs.any out || !quotaSums new then (c, { status := .range })
  else
    let c : Calc := { c with ord := { c.ord with quotas := new } }
    (qs.foldl (fun (c : Calc) q => c.derive 0x0507 m (le 1 q.cls ++ le 1 q.index ++ le 2 q.entries ++ le 2 q.kib)) c, {})

/-! ### Reads -/

/-- WAYBILL_READ (Table 9). -/
def cmdWaybillRead (p : Packet) (s : State) : State × Ans :=
  let t := fld p.payload 0 8
  let off := fld p.payload 8 4
  let most := fld p.payload 12 2
  match s.clerk.ring.find? (fun w => w.tick == t) with
  | none => (s, { status := if most == 0 || 4064 < most then .badParam else .range })
  | some w =>
    let n := min most (w.size - off)
    if most == 0 || 4064 < most || w.size ≤ off then (s, { status := .badParam })
    else if s.store.badWaybills.any (fun x => x.1 == t && off < x.2 + 8 && x.2 < off + n) then (s, { status := .storeError })
    else (s, { payload := le 8 t ++ le 4 w.size ++ le 4 off ++ (w.bytes.drop off).take n })

/-- The digest record of a tick (R32). -/
def digestRecord (c : Clerk) (t : Nat) : Option DigestRec :=
  match c.records.reverse.find? (fun r => r.tick == t) with
  | some r => some r
  | none => if inGap c t then some { tick := t } else none

/-- The digest records that follow each other from a tick on (DIGEST_READ); the fuel bounds their number. -/
def digestRun (c : Clerk) : Nat → Nat → List DigestRec
  | 0, _ => []
  | n + 1, t => match digestRecord c t with
    | some r => r :: digestRun c n (t + 1)
    | none => []

/-- DIGEST_READ (R32): a record in a log block that fails counts as absent (R365). -/
def cmdDigestRead (p : Packet) (s : State) : State × Ans :=
  let t := fld p.payload 0 8
  let n := fld p.payload 8 1
  if n == 0 || 63 < n then (s, { status := .badParam })
  else
    let run := digestRun s.clerk n t
    let rs := run.takeWhile (fun r => !s.store.logBad.contains (.digest r.tick))
    let s := if rs.length < run.length then logReadFails (.digest (t + rs.length)) s else s
    if rs.isEmpty then (s, { status := .range })
    else (s, { payload := le 8 t ++ le 1 rs.length ++ zeros 7 ++ (rs.map (fun r => digestBytes r.d ++ digestBytes r.o)).flatten })

/-- CHECKPOINT_LIST (R33): newest first, the working store's before the persistent one's of the same tick. -/
def cmdCheckpointList (_ : Packet) (s : State) : State × Ans :=
  let all := s.ckpts.map (fun c => (c, 0)) ++ s.saved.map (fun c => (c, 1))
  let l := sortBy (fun (x : Checkpoint × Nat) => 2 ^ 64 - x.1.tick) all
  (s, { payload := le 1 l.length ++ zeros 7 ++ (l.map (fun (x : Checkpoint × Nat) => le 8 x.1.tick ++ le 1 x.2 ++ le 1 (b2n x.1.installed) ++ zeros 6 ++ digestBytes x.1.digest)).flatten })

/-! ### Replay (R37, R38, R430) -/

/-- The slot that holds the running set. -/
def runningSet (s : State) : FwSlot := ((s.firmware.running).bind (fun k => s.firmware.slots[k]?)).getD { sections := [] }

/-- The version vector of the running set. -/
def fwVector (s : State) : List Nat := (runningSet s).sections

/-- A replay job runs or pauses. -/
def Replay.busy (r : Replay) : Bool := r.state == 1 || r.state == 2

/-- REPLAY (Table 10). -/
def cmdReplay (p : Packet) (s : State) : State × Ans :=
  let b := p.payload
  let first := fld b 0 8
  let last := fld b 8 8
  let mode := fld b 16 1
  let speed := fld b 17 1
  if last < first || 1 < mode || speed == 0 || 8 < speed then (s, { status := .badParam })
  else if s.clerk.replay.busy then (s, { status := .busy })
  else match (s.ckpts.filter (fun c => c.tick < first)).getLast? with
    | none => (s, { status := .range })
    | some c =>
      if s.clerk.tick ≤ last || !((List.range (last - c.tick)).all (fun k => ringHas s (c.tick + 1 + k))) then (s, { status := .range })
      else if c.tick < s.ord.plan.fromTick || c.fw != fwVector s then (s, { status := .incompatible })
      else
        let n := last - c.tick
        let job : Replay := { job := s.clerk.nextJob, state := 1, first, last, mode, speed, next := c.tick + 1 }
        ({ s with clerk := { s.clerk with replay := job, nextJob := s.clerk.nextJob + 1 }, replayOrd := c.ord },
          { payload := le 4 job.job ++ le 8 c.tick ++ le 4 ((n * 250 + speed - 1) / speed) })

/-- REPLAY_STATUS. -/
def cmdReplayStatus (_ : Packet) (s : State) : State × Ans :=
  let r := s.clerk.replay
  (s, { payload := le 4 r.job ++ le 1 r.state ++ le 1 r.mismatch ++ le 2 r.section_ ++ le 8 r.done ++ le 8 r.mismatchTick ++ le 4 r.mismatches ++ le 1 r.reason ++ zeros 3 })

/-- A running replay is aborted for a reason. -/
def abortReplay (reason : Nat) (s : State) : State :=
  if s.clerk.replay.busy then { s with clerk := { s.clerk with replay := { s.clerk.replay with state := 5, reason } } } else s

/-- REPLAY_ABORT. -/
def cmdReplayAbort (_ : Packet) (s : State) : State × Ans :=
  if s.clerk.replay.busy then (abortReplay 2 s, {}) else (s, { status := .wrongState })

@[inherit_doc cmdQuotaGet] def execQuotaGet (p : Packet) (s : State) : Host.Outcome State Fault Refusal := .next (submit 0x0201 cmdQuotaGet p s)
/-- QUOTA_SET: ordered; `ordQuotaSet` is its effect. -/
def execQuotaSet (p : Packet) (s : State) : Host.Outcome State Fault Refusal := .next (submitW 0x0202 p s)
@[inherit_doc cmdWaybillRead] def execWaybillRead (p : Packet) (s : State) : Host.Outcome State Fault Refusal := .next (submit 0x0210 cmdWaybillRead p s)
@[inherit_doc cmdDigestRead] def execDigestRead (p : Packet) (s : State) : Host.Outcome State Fault Refusal := .next (submit 0x0211 cmdDigestRead p s)
@[inherit_doc cmdCheckpointList] def execCheckpointList (p : Packet) (s : State) : Host.Outcome State Fault Refusal := .next (submit 0x0212 cmdCheckpointList p s)
@[inherit_doc cmdReplay] def execReplay (p : Packet) (s : State) : Host.Outcome State Fault Refusal := .next (submit 0x0220 cmdReplay p s)
@[inherit_doc cmdReplayStatus] def execReplayStatus (p : Packet) (s : State) : Host.Outcome State Fault Refusal := .next (submit 0x0221 cmdReplayStatus p s)
@[inherit_doc cmdReplayAbort] def execReplayAbort (p : Packet) (s : State) : Host.Outcome State Fault Refusal := .next (submit 0x0222 cmdReplayAbort p s)

end Sys2Proof.Machine
end

