-- ==== Sys2Proof/Machine/Compute.lean ====
section
/-!
DEFINITION. Machine/Compute.lean: the computation of one tick, whole (R35, R54, R103): posts, the waybill's entries and commands, the
channels in slot order, and the device computations.
-/
namespace Sys2Proof.Machine

/-! ### Commands (R103, R105, R106) -/

/-- What an ordered command of areas 0x00 to 0x05 does; `entry` is its place in the waybill. -/
def handlerLow (op entry : Nat) : Option Handler :=
  match op with
  | 0x0011 => some ordRankSet
  | 0x0040 => some ordStreamConfig
  | 0x0101 => some ordChannelCreate
  | 0x0102 => some ordChannelStart
  | 0x0103 => some ordChannelHold
  | 0x0104 => some ordChannelRelease
  | 0x0105 => some ordChannelDestroy
  | 0x0202 => some ordQuotaSet
  | 0x0303 => some ordPlanCommit
  | 0x0401 => some ordGroupConfig
  | 0x0402 => some ordGroupMembers
  | 0x0410 => some ordScheduleConfig
  | 0x0411 => some ordHolidaySet
  | 0x0420 => some (ordOverride entry)
  | 0x0421 => some ordOverrideCancel
  | 0x0430 => some ordCurfewSet
  | 0x0431 => some ordFallbackSet
  | 0x0501 => some ordEscortConfig
  | 0x0502 => some ordEscortProfile
  | 0x0503 => some ordChainageSet
  | 0x0504 => some (ordTrafficHint entry)
  | _ => none

/-- What an ordered command of areas 0x06 to 0x0A does. -/
def handlerHigh (op : Nat) : Option Handler :=
  match op with
  | 0x0601 => some ordLoopConfig
  | 0x0602 => some ordLoopCoeff
  | 0x0603 => some ordLoopCompTable
  | 0x0604 => some ordLoopHold
  | 0x0605 => some ordLoopRelease
  | 0x0607 => some ordContentionSet
  | 0x0608 => some ordOscConfig
  | 0x0610 => some ordTraceConfig
  | 0x0701 => some ordLuminaireConfig
  | 0x0702 => some ordStringConfig
  | 0x0703 => some ordColourTable
  | 0x0704 => some ordDerateSet
  | 0x0706 => some ordStringFaultClear
  | 0x0801 => some ordCircuitConfig
  | 0x0802 => some ordMeterInputConfig
  | 0x0805 => some ordCalCommit
  | 0x0821 => some ordIntervalConfig
  | 0x0823 => some ordPulseOutConfig
  | 0x0824 => some ordPulseInConfig
  | 0x0901 => some ordRadioConfig
  | 0x0902 => some ordSlotPlanSet
  | 0x0903 => some ordHopSet
  | 0x0906 => some ordTxPowerSet
  | 0x0A02 => some ordPartnerSlotAssign
  | 0x0A04 => some ordFaultAck
  | 0x0A10 => some ordSessionConfig
  | 0x0A13 => some ordSessionAbort
  | _ => none

/-- What an ordered command does in the computation of its tick (R103). -/
def handlerOf (op entry : Nat) : Option Handler := (handlerLow op entry).orElse (fun _ => handlerHigh op)

/-- The computation that carries out an ordered command is tainted (R36): the channel's, or a device computation. -/
def Calc.taintedFor (p : Packet) (c : Calc) : Bool :=
  if p.handle == deviceHandle then (compOf p).any (fun k => c.res.devTaint.contains k) else (chanOf c.ord p.handle).any (·.tainted)

/-- Who that is, for the records it derives. -/
def executorOf (p : Packet) : Handle := if p.handle == deviceHandle then ((compOf p).map compOwner).getD nullHandle else p.handle

/-- The reply of an ordered command joins the results; a status that would be OK is TAINTED when the computation is (R36). -/
def Calc.reply (r : CmdResult) (c : Calc) : Calc := { c with res := { c.res with replies := c.res.replies ++ [r] } }

/-- Records that a computation has derived are its, and taint section 0x0008 when it is tainted (R36). -/
def Calc.taintRecords (before : Nat) (owner : Handle) (tainted : Bool) (c : Calc) : Calc :=
  if before < c.res.derived.length then { c with res := { c.res with recordOwners := c.res.recordOwners ++ [owner], recordsTainted := c.res.recordsTainted || tainted } } else c

/-- One ordered command takes effect at its place (R103): superseded, refused by its handle checks (R45), or executed. -/
def Calc.command (losers : List (Contender × Contender)) (n : Nat) (e : Entry) (p : Packet) (c : Calc) : Calc :=
  let r : CmdResult := { entry := n, tick := c.tick, held := e.held, master := e.index, packet := p, status := 0, payload := [], handle := none }
  match losers.find? (fun x => x.1.entry == n) with
  | some x => c.reply { r with status := Status.superseded.code, payload := supersededPayload x.2 }
  | none =>
    match opInfo p.opcode, handlerOf p.opcode n with
    | some i, some f =>
      match handleCheck c.ord i.handle p.handle with
      | some st => c.reply { r with status := st.code }
      | none =>
        let t := c.taintedFor p
        let before := c.res.derived.length
        let y := f e.index p c
        let c := y.1.taintRecords before (executorOf p) t
        let a := y.2
        if a.later then { c with ord := { c.ord with awaited := c.ord.awaited ++ [{ r with handle := a.handle, tainted := t }] } }
        else c.reply { r with status := if t && a.status == .ok then Status.tainted.code else a.status.code, payload := a.payload, handle := a.handle, tainted := t }
    | _, _ => c.reply { r with status := Status.badOpcode.code }

/-! ### Entries -/

/-- The ordered commands of a waybill with their places (R105). -/
def contenders (es : List Entry) : List Contender :=
  es.zipIdx.filterMap (fun (x : Entry × Nat) => match x.1.body with
    | .command p => if x.1.kind == 0x0201 then some { entry := x.2, master := x.1.index, packet := p } else none
    | .raw _ => none)

/-- A TIME entry is read (R325, R326): the UTC offset and the leap flags in force, a leap second falling at the end of the UTC day of the first entry that announces it; kinds 0x0F03, 0x0F04 and 0x0F07. -/
def Calc.readTime (kind : Nat) (b : List Byte) (c : Calc) : Calc :=
  match kind with
  | 0x0B01 =>
    let utc := fldS b 0 2
    let fl := fld b 2 1
    let c := if utc != c.ord.utc then c.derive 0x0F07 0xFF (leS 2 c.ord.utc ++ leS 2 utc ++ le 1 (fld b 3 1)) else c
    let u := unixOfTick c.tick utc - 946684800
    let leapEnd := if c.ord.leap61 || c.ord.leap59 then c.ord.leapEnd else (u / 86400 + 1) * 86400
    { c with ord := { c.ord with utc, leap61 := bit fl 1, leap59 := bit fl 2, leapEnd } }
  | 0x0B02 => c.derive 0x0F03 0xFF (b.take 3 ++ (b.drop 8).take 8)
  | 0x0B03 => c.derive 0x0F04 0xFF (b.take 8 ++ (b.drop 9).take 1)
  | _ => c

/-- A PLAN_SWITCH entry is read before all else (R129, R131). -/
def Calc.readSwitch (b : List Byte) (c : Calc) : Calc :=
  let old := c.ord.plan.plan
  let was := c.planChanged
  let y := switchPlan b { c with planChanged := false }
  if y.planChanged then y.partnerSwitch old else { y with planChanged := was }

/-- An entry of another kind is read at its place. -/
def Calc.readEntry (losers : List (Contender × Contender)) (n : Nat) (e : Entry) (c : Calc) : Calc :=
  match e.body with
  | .command p => if e.kind == 0x0201 then c.command losers n e p else c
  | .raw b =>
    match e.kind with
    | 0x0101 => c.readFaultEntry b
    | 0x0102 => c.readRestoredEntry b
    | 0x0A02 => c.readImage b
    | _ => c

/-- The entries of one kind. -/
def rawOf (kind : Nat) (es : List Entry) : List (List Byte) :=
  es.filterMap (fun e => match e.body with | .raw b => if e.kind == kind then some b else none | .command _ => none)

/-! ### Posts and taint (R36, R53) -/

/-- The posts of the tick before are delivered: sorted by source slot and sequence; those to channels that are gone are discarded
(R50, R53). -/
def Calc.deliver (c : Calc) : Calc :=
  let live := c.ord.posts.filter (fun p => (chanOf c.ord p.dst).isSome)
  let gone := c.ord.posts.length - live.length
  let c : Calc := { c with inbox := sortBy (fun (p : Post) => hSlot p.src * 65536 + p.seq) live, ord := { c.ord with posts := [], freed := [], loopsFreed := [], air := { c.ord.air with formed := 0 } } }
  (c.count 0x02B live.length).count 0x02D gone

/-- Each channel's taint for this tick (R36): it reads a tainted post or poisoned data, or was tainted and has not been restored; and the
device computations that run on damaged state (R361). -/
def Calc.markTaint (clean poison : List Handle) (c : Calc) : Calc :=
  let f := fun (ch : Channel) => { ch with tainted := c.inbox.any (fun p => p.dst == ch.handle && p.tainted) || poison.contains ch.handle || (ch.tainted && !clean.contains ch.handle) }
  let dev := [0, 1, 2].filter (fun k => poison.contains (compOwner k))
  { c with ord := { c.ord with channels := c.ord.channels.map f, devTaint := dev }, res := { c.res with devTaint := dev } }

/-! ### Channels (R54) -/

/-- The computation of one channel. -/
def Calc.channelBody (ch : Channel) (c : Calc) : Calc :=
  match ch.body with
  | .group _ => c.group ch
  | .schedule x => c.schedule ch x
  | .escort _ => c.escort ch
  | .circuit _ => c.circuit ch
  | .luminaire _ => c.luminaire ch
  | .loop => c.loop ch
  | .session _ => c.session ch
  | .stream _ | .trace _ => c

/-- The computation of the channel in a slot, with the items it has made kept for R49. -/
def Calc.channel (h : Handle) (c : Calc) : Calc :=
  match chanOf c.ord h with
  | none => c
  | some ch =>
    let before := c.res.derived.length
    let items := c.res.items.length
    let c := (c.channelBody ch).taintRecords before h (ch.tainted || (hType h == 4 && c.res.devTaint.contains 2))
    let made := c.res.items.drop items
    let c := c.modChan h (fun x => { x with lastItems := made })
    if ch.busy then { c.count 0x020 1 with res := { (c.count 0x020 1).res with channels := c.res.channels ++ [h] } } else c

/-- The channels compute in slot order. -/
def Calc.channels (c : Calc) : Calc := (c.ord.channels.map (·.handle)).foldl (fun c h => c.channel h) c

/-! ### The tick -/

/-- Ordered state and results of a tick before its issue step: `clean` are the channels rebuilt since the tick before, `poison` the
owners that read poisoned data. -/
def Calc.run (clean poison : List Handle) (c : Calc) : Calc :=
  let c := c.deliver.markTaint clean poison
  let c := (rawOf 0x0301 c.entries).foldl (fun c b => c.readSwitch b) c
  let c := c.entries.foldl (fun c e => match e.body with | .raw b => c.readTime e.kind b | .command _ => c) c
  let c := c.readDrive.readPower.readPresence.airFacts
  let losers := (settle c.ord.rank (contenders c.entries)).2
  let c := c.entries.zipIdx.foldl (fun (c : Calc) (x : Entry × Nat) => c.readEntry losers x.2 x.1) c
  let c := c.channels
  let mid := c.res.derived.length
  let c := c.partnerStep.sendJoins.applyMembers.advanceRecords.keepLevels
  c.taintRecords mid (compOwner 1) (c.res.devTaint.contains 1)

/-- The budgets of the issue step of a tick (R153, R282): the entries that leg `n + 2` carries on each radio. -/
def issueBudget (o : Ordered) (n r : Nat) : Nat := fieldBudget o (n + 2) r

/-- The issue step reads the final levels of the RUNNING groups, and is tainted when one of them is (R36). -/
def Calc.issueTaint (c : Calc) : Calc :=
  if !c.res.devTaint.contains 0 && c.ord.channels.any (fun ch => hType ch.handle == 1 && ch.state == .running && ch.tainted) then
    { c with ord := { c.ord with devTaint := c.ord.devTaint ++ [0] }, res := { c.res with devTaint := c.res.devTaint ++ [0] } }
  else c

/-- The issue step of a tick (R153). -/
def Calc.issueNow (c : Calc) : Calc :=
  let before := c.res.derived.length
  let c := c.issueTaint
  (c.issueStep (issueBudget c.ord c.tick)).showWaiting.taintRecords before (compOwner 0) (c.res.devTaint.contains 0)

/-- The whole computation of a waybill in a context, from an ordered state (R35): what a re-run and a replay do. -/
def recompute (x : Context) (w : Waybill) (d : Digest) (o : Ordered) : Calc :=
  let c := x.calc w.tick o { tick := w.tick, d }
  (({ c with entries := w.entries } : Calc).run [] []).issueNow

/-- The channels that have become tainted in a computation (R36). -/
def newTaints (old new : Ordered) : List Handle :=
  (new.channels.filter (fun ch => ch.tainted && !(chanOf old ch.handle).any (·.tainted))).map (·.handle)

end Sys2Proof.Machine
end

