-- ==== Sys2Proof/Machine/Reset.lean ====
section
/-!
DEFINITION. Machine/Reset.lean: what each reset keeps and clears, the reset sources, the watchdog, domain restarts and the reports of
recovery (ch. 21).
-/
namespace Sys2Proof.Machine

/-! ### What a reset keeps (R406) -/

/-- A record is due at the next boot. -/
def dueAtBoot (kind n : Nat) (s : State) : State := { s with boot := { s.boot with due := s.boot.due ++ [(kind, n)] } }

/-- The ordered state of a module that has restored nothing: the generation counters (R43) and the calibration constants of the
persistent store (R240). -/
def keptOrd (o : Ordered) : Ordered :=
  let base : MeterState := {}
  let keep := fun (d : List MetIn) (l : List MetIn) => d.zipIdx.map (fun (x : MetIn × Nat) => let y := (l[x.2]?).getD x.1; { x.1 with offset := y.offset, gain := y.gain, phase := y.phase })
  { gens := o.gens, metering := { base with vin := keep base.vin o.metering.vin, iin := keep base.iin o.metering.iin, calCount := o.metering.calCount } }

/-- The plan slots and commit records; a staging session ends with the reset (R131). -/
def keptPlan (p : PlanStore) : PlanStore :=
  if p.state == 0 || p.switched then { slots := p.slots, records := p.records, outcome := if p.state == 0 then 0 else 1 }
  else { slots := setAt p.slots p.slot {}, records := p.records, outcome := 4 }

/-- The pins of the straps, the binding record, and what the host has already seen. -/
def keptHost (h : HostLink) : HostLink :=
  { hostselPin := h.hostselPin, bootselPin := h.bootselPin, hostsel := h.hostsel, bootsel := h.bootsel, bindRecord := h.bindRecord, bindWaiting := h.bindWaiting
    hostWrites := h.hostWrites, msiSent := h.msiSent }

/-- The replay counters of the remote path (R109): every counter below the highest counts as accepted; the module's own advance
by 65,536. -/
def keptPaths (p : Paths) : Paths :=
  { windows := p.windows.map (fun (w : Window) => { w with seen := (List.range 63).map (fun k => w.high - 1 - k) })
    ownCounters := p.ownCounters.map (fun (x : Nat × Nat) => (x.1, x.2 + 65536)), sent := p.sent }

/-- The Guestbook's stored records and areas; a device reset keeps the front buffer too and ends freezing (R389, R406). -/
def keptGuestbook (device : Bool) (g : Guestbook) : Guestbook :=
  if device then { g with freeze := false, erasing := none, lost := 0 }
  else { stored := g.stored, next := ((g.stored.getLast?).map (fun (r : GbkRec) => r.seq + 1)).getD 1, clearedTo := g.clearedTo, clearings := g.clearings, clearTick := g.clearTick }

/-- The saves of D9 and the pulse outputs' remainders as last reported (R252, R259); after a loss of power those of a valid
save. -/
def keptMetro (device : Bool) (m : Metro) : Metro :=
  let r := (m.saves[m.saveSlot]?).getD {}
  let last := fun (o : PulseOut × Nat) => if device then o.1.reported else if r.valid then (r.pulses[o.2]?).getD (0, 0) else (0, 0)
  { saves := m.saves, saveSlot := m.saveSlot, saving := device && m.saving, residues := m.residues, storeGood := m.storeGood
    outs := m.outs.zipIdx.map (fun o => { r := (last o).1, backlog := (last o).2, reported := last o }) }

/-- The frame counters of the radios, advanced by 262,144, and those accepted from partners (R289). -/
def keptAir (a : Air) : Air :=
  { radios := a.radios.map (fun (q : Sequencer) => { counter := q.saved + 262144, saved := q.saved + 262144 }), counters := a.counters }

/-- The regions: those of the working store are divided anew after a loss of power, but a retired one stays so (R358). -/
def keptStore (device : Bool) (x : Store) : Store :=
  if device then { regions := x.regions, queue := x.queue, limit := x.limit, threshold := x.threshold, mramCorrected := x.mramCorrected, mramUncorrectable := x.mramUncorrectable, logBad := x.logBad }
  else { regions := (initialRegions.zip x.regions).map (fun (y : Region × Region) => if y.2.state == 3 then y.2 else { y.1 with strong := y.2.strong.or y.1.strong })
         limit := x.limit, threshold := x.threshold, mramCorrected := x.mramCorrected, mramUncorrectable := x.mramUncorrectable, logBad := x.logBad }

/-- The key slots and tokens; the debug lock closes (R379). -/
def keptVault (v : Vault) : Vault := { slots := v.slots.map (fun (k : KeySlot) => { k with uses := 0 }), tokens := v.tokens, draws := v.draws }

/-- TWIN_CONFIG, whose key slot and EUI-64 apply from this reset, and the role epoch; the role is JOINING, or ALONE (R406). -/
def keptTwin (t : Twin) : Twin := { cfg := t.cfg, key := t.cfg.key, eui := t.cfg.eui, epoch := t.epoch, role := if t.cfg.enable then 2 else 0 }

/-- The image store; a slot in STAGING becomes EMPTY (Table 4 of ch. 22), and the stored service address applies (R420). -/
def keptFirmware (bad : Bool) (f : Firmware) : Firmware :=
  { slots := f.slots.map (fun (x : FwSlot) => if x.state == 1 then {} else if bad && x.state == 3 then { x with failed := true } else x), epoch := f.epoch, stored := f.stored, address := f.stored }

/-- The supply registers of D0 and what the persistent store holds of ch. 24; the other registers of the block reset. -/
def keptSupply (x : Supplies) : Supplies :=
  { under := x.under, above := x.above, lowest := x.lowest, highest := x.highest, flags := x.flags, seqFault := x.seqFault, latch := x.latch, seqRecord := x.seqRecord, unwarned := x.unwarned
    late := x.late, accepts := x.accepts, pfw := x.pfw, level := x.level, saveDone := x.saveDone, cancelled := x.cancelled, partial_ := x.partial_, saveUs := x.saveUs, accepted := x.accepted
    save := x.save, threshold := x.threshold, hysteresis := x.hysteresis }

/-- The counts since manufacture and what D0 keeps on VBAT (ch. 21). -/
def keptBoot (x : Boot) : Boot :=
  { due := x.due, boots := x.boots, deviceResets := x.deviceResets, powerOns := x.powerOns, watchdogs := x.watchdogs, cycles := x.cycles, restarts := x.restarts, rebuilds := x.rebuilds
    expiries := x.expiries, wasCoppice := x.wasCoppice, pwrcyc := x.pwrcyc }

/-- Sessions that the reset ends and that the boot records: a plan session before its valid mark, a slot in STAGING, and a lease of
the test multiplexer. -/
def endSessions (s : State) : State :=
  let s := endLease 2 0xFF s
  let s := if s.plan.state != 0 && !s.plan.switched then dueAtBoot 0x0702 s.plan.gen s else s
  s.firmware.slots.zipIdx.foldl (fun (s : State) (x : FwSlot × Nat) => if x.1.state == 1 then dueAtBoot 0x0303 x.2 s else s) s

/-- The state across a reset (R405, R406 Table 2). -/
def afterReset (device : Bool) (code : Nat) (s0 : State) : State :=
  let s := endSessions s0
  let boot := keptBoot s.boot
  { pending := s.pending, free := s.free, uptime := s.uptime
    mode := { lifecycle := s.mode.lifecycle, role := if s.twin.cfg.enable then 2 else 0 }
    clerk := { records := s.clerk.records, gaps := s.clerk.gaps, ring := if device then s.clerk.ring else [] }
    contexts := if device then s.contexts else []
    ord := keptOrd s.ord, rel := keptOrd s.ord, plan := keptPlan s.plan, host := keptHost s.host, paths := keptPaths s.paths, gbk := keptGuestbook device s.gbk
    cnt := { tapInstr := s.cnt.tapInstr }, rtc := { s.rtc with stgTime := 0, stgDate := 0x07D00101, shadow := none }, time := { utcSaved := s.time.utcSaved }
    metro := keptMetro device s.metro, air := keptAir s.air, store := keptStore device s.store, ckpts := if device then s.ckpts else [], saved := s.saved
    inn := { threshold := s.inn.threshold, stiles := s.inn.stiles.zipIdx.map (fun (x : Stile × Nat) => if device && 42 ≤ x.2 && x.2 ≤ 44 then x.1 else {}) }
    vault := keptVault s.vault, twin := keptTwin s.twin, firmware := keptFirmware (device && (code == 5 || code == 6)) s.firmware, supply := keptSupply s.supply
    boot := { boot with code, powerOn := !device, wasCoppice := s.mode.coppice || boot.wasCoppice, released := s.uptime, stage := 1
                        sealed := if device then ((s.clerk.ring.getLast?).map (fun (w : Waybill) => w.tick)).getD 0 else 0 } }

/-- D1 to D11 are held in reset: a sequence fault, PWRCYC_N, or VIO or VCORE under (R404, R418, R443, R444). -/
def heldInReset (s : State) : Bool := s.supply.latch.isSome || s.boot.pwrcyc || bit s.supply.under 0 || bit s.supply.under 1

/-- Hold the module in reset while a cause stands. -/
def holdReset (s : State) : State := if heldInReset s then { s with boot := { s.boot with stage := 0 } } else s

/-- A device reset with its code of Table 1; while a reset is in progress it joins that reset (R404). -/
def deviceReset (code : Nat) (s : State) : State :=
  if heldInReset s then s
  else
    let s := afterReset true code s
    { s with boot := { s.boot with deviceResets := satAdd 32 s.boot.deviceResets 1 } }

/-- A power-on reset with its code of Table 1 (R404). -/
def powerOnReset (code : Nat) (s : State) : State :=
  let s := afterReset false code s
  holdReset { s with boot := { s.boot with powerOns := satAdd 32 s.boot.powerOns 1 } }

/-- The straps are sampled at the end of a power-on reset (R403). -/
def sampleStraps (hostsel bootsel : Bool) (s : State) : State :=
  { s with host := { s.host with hostselPin := hostsel, bootselPin := bootsel, hostsel, bootsel } }

/-! ### Reset sources (Table 1) -/

/-- D0 has lost both supplies (R343 cause 0; ch. 24): the calendar clock and the supply registers start anew; a sequence fault's
record and the unwarned flag are lost with it. -/
def coldD0 (s : State) : State :=
  let x := s.supply
  setOscStop 0 { s with rtc := { untrustedDue := s.rtc.untrustedDue }, boot := { s.boot with due := s.boot.due.filter (fun d => d.1 != 0x0205 && d.1 != 0x0206), expiries := [] }
                        supply := { accepts := x.accepts, save := x.save, threshold := x.threshold, hysteresis := x.hysteresis } }

/-- POWER_ON (R403, R441): VIO and VCORE are good. D1 to D11 are released, unless a sequence fault is latched or PWRCYC_N is held.
`d0Kept`: D0 has been powered from VBAT meanwhile; `lateMs`: when VCORE was good, in ms after VIO had reached 90 %. -/
def execPowerOn (hostsel bootsel d0Kept : Bool) (lateMs : Nat) (s : State) : Host.Outcome State Fault Refusal :=
  if s.supply.latch.isSome || s.boot.pwrcyc then .next s
  else
    let s := if d0Kept then s else coldD0 s
    let x := s.supply
    let late := 50 < lateMs
    let s := { s with supply := { x with under := x.under - x.under % 4, above := x.above - x.above % 4, seqFault := false, pfw := false, level := true, flags := if late then x.flags ||| 0x200 else x.flags, late := if late then some lateMs else x.late } }
    .next (sampleStraps hostsel bootsel (powerOnReset 1 s))

/-- PORST_N_LOW (R404): a power-on reset; the straps are sampled when PORST_N rises. -/
def execPorstNLow (hostsel bootsel : Bool) (s : State) : Host.Outcome State Fault Refusal :=
  let s := sampleStraps hostsel bootsel (powerOnReset 2 s)
  .next { s with boot := { s.boot with porst := true } }

/-- RST_N_LOW (R404): a pulse of `us` µs: shorter than 2 µs it is ignored, from 10 µs it resets; in between it does either, as `takes`
says. -/
def execRstNLow (us : Nat) (takes : Bool) (s : State) : Host.Outcome State Fault Refusal :=
  if us < 2 || (us < 10 && !takes) then .next s
  else
    let s := deviceReset 3 s
    .next { s with boot := { s.boot with rst := true } }

/-- RESET_DEVICE_ASSERT (R404): the reset that RESET_DEVICE ordered is asserted. -/
def execResetDeviceAssert (s : State) : Host.Outcome State Fault Refusal :=
  match s.boot.pending with
  | none => .next s
  | some k =>
    let s := deviceReset 4 s
    .next { s with boot := { s.boot with coppice := k == 1 } }

/-! ### The watchdog and the power-cycle request (R417, R418) -/

/-- D0 asserts PWRCYC_N and holds D1 to D11 in reset: cause 0 expiries, 1 boot ROM silent. -/
def requestPowerCycle (cause : Nat) (s : State) : State :=
  holdReset (dueAtBoot 0x0206 cause { s with boot := { s.boot with pwrcyc := true, cycles := satAdd 32 s.boot.cycles 1 } })

/-- WATCHDOG_EXPIRY (R417): no kick for `ms` ms, or READY not risen `ms` ms after a release. Each expiry is a device reset of code 5;
the third within 600 s of the first of three asserts PWRCYC_N. -/
def execWatchdogExpiry (ms : Nat) (s : State) : Host.Outcome State Fault Refusal :=
  let limit := if s.mode.ready || s.mode.coppice then 1980 else 15000
  if ms < limit || heldInReset s then .next s
  else
    let now := s.uptime + ms
    let s := { s with uptime := now }
    let recent := (s.boot.expiries.filter (fun t => now ≤ t + 600000)) ++ [now]
    let s := dueAtBoot 0x0205 ms { s with boot := { s.boot with expiries := recent, watchdogs := satAdd 32 s.boot.watchdogs 1 } }
    let s := deviceReset 5 s
    .next (if 3 ≤ recent.length then requestPowerCycle 0 s else s)

/-- BOOT_ROM_SILENT (R418): after a device reset the boot ROM has not signalled its start within 100 ms of release. -/
def execBootRomSilent (s : State) : Host.Outcome State Fault Refusal :=
  .next (if s.boot.stage == 1 && !s.boot.powerOn then requestPowerCycle 1 s else s)

/-- PWRCYC_RELEASE (R418): VIO has stayed below 2.7 V for 450 ms; the counts are cleared, and the module waits for its supplies. -/
def execPwrcycRelease (s : State) : Host.Outcome State Fault Refusal :=
  .next (if s.boot.pwrcyc then { s with boot := { s.boot with pwrcyc := false, expiries := [], stage := 0 }, supply := { s.supply with under := s.supply.under ||| 3 } } else s)

/-! ### Commands -/

/-- RESET_DEVICE (R404). -/
def cmdResetDevice (p : Packet) (s : State) : State × Ans :=
  let kind := fld p.payload 0 1
  let m := masterOf s p.path
  if 1 < kind || fld p.payload 4 4 != Config.unitSerial.toNat % 2 ^ 32 then (s, { status := .badParam })
  else if kind == 1 && m != 2 then (s, { status := .notPermitted })
  else if s.boot.pending.isSome then (s, { status := .busy })
  else (gbk 0x0204 m (le 1 kind ++ le 1 m) { s with boot := { s.boot with pending := some kind } }, {})

/-- The domains that may be restarted, and by whom (R416 Table 5). -/
def restartMasters (d : Nat) : Option (List Nat) :=
  if d == 2 || d == 3 || d == 4 || d == 11 then some [5] else if d == 6 || d == 7 || d == 9 || d == 10 then some [0, 1, 2, 3, 5] else none

/-- What a domain's restart does at once (R416 Table 5); the lodgings of a wing move at the next boundary. -/
def beginRestart (d : Nat) (s : State) : State :=
  if d == 6 || d == 7 then restartGroup (d - 6) s else if d == 9 then restartMetro s else if d == 10 then restartDrive s else s

/-- DOMAIN_RESTART (R416). -/
def cmdDomainRestart (p : Packet) (s : State) : State × Ans :=
  let d := fld p.payload 0 1
  let m := masterOf s p.path
  match restartMasters d with
  | none => (s, { status := .badParam })
  | some ms =>
    if !ms.contains m then (s, { status := .notPermitted })
    else if d == 10 && driveGated s then (s, { status := .wrongState })
    else if s.boot.domains.any (fun x => x.1 == d) then (s, { status := .busy })
    else (beginRestart d { s with boot := { s.boot with domains := s.boot.domains ++ [(d, s.uptime, some p)] } }, { later := true })

/-- The lodgings of wings that restart move as under policy 1 of R57, at a boundary. -/
def moveRestarting (s : State) : State :=
  (s.boot.domains.filter (fun x => 2 ≤ x.1 && x.1 ≤ 4)).foldl (fun (s : State) x =>
    let w := x.1 - 2
    [0, 1, 2, 3].foldl (fun (s : State) k => evacuateEngine (4 * w + k) 1 ((openEngines s).filter (fun e => e / 4 != w)) s) s) s

/-- DOMAIN_RESTART_COMPLETE (R416): a domain's restart, by command or of a failed radio's group (R286), has ended after `ms` ms. -/
def execDomainRestartComplete (domain ms : Nat) (s : State) : Host.Outcome State Fault Refusal :=
  let group := domain == 6 || domain == 7
  let entry := s.boot.domains.find? (fun x => x.1 == domain)
  if entry.isNone && !(group && (seqOf s (2 * (domain - 6))).restarting) then .next s
  else
    let packet := entry.bind (fun x => x.2.2)
    let m := match packet with | some p => masterOf s p.path | none => 5
    let s := { s with boot := { s.boot with domains := s.boot.domains.filter (fun x => x.1 != domain), restarts := satAdd 32 s.boot.restarts 1 } }
    let s := if group then groupRestarted (domain - 6) { s with vault := { s.vault with requests := s.vault.requests ++ [.deriveForPlan s.ord.plan.gen] } } else s
    let s := gbk 0x0203 m (le 1 domain ++ le 1 m ++ le 4 ms) s
    .next (match packet with | some p => answer p { payload := le 1 domain ++ zeros 3 ++ le 4 ms } s | none => s)

/-- BOOT_REPORT (Table 6). -/
def cmdBootReport (_ : Packet) (s : State) : State × Ans :=
  let b := s.boot
  (s, { payload := le 4 b.boots ++ le 1 b.code ++ le 1 b.restore ++ le 1 (b.flags % 2 ^ 5) ++ zeros 1 ++ le 8 b.installed ++ le 8 b.rerun ++ le 8 b.sealed ++ le 8 b.resumeTick ++
          le 4 b.readyMs ++ le 4 b.restoreMs ++ le 4 b.beaconMs ++ le 4 (fwSet s) ++ le 4 s.ord.plan.gen ++ zeros 4 })

/-- RECOVERY_STATUS. -/
def cmdRecoveryStatus (_ : Packet) (s : State) : State × Ans :=
  let b := s.boot
  let recent := (b.expiries.filter (fun t => s.uptime ≤ t + 600000)).length
  (s, { payload := le 1 s.inn.rebuilds.length ++ le 2 (sumBy (fun (x : Nat × Nat × Option Packet) => 2 ^ x.1) b.domains) ++ zeros 1 ++ le 1 recent ++ zeros 3 ++
          le 4 b.deviceResets ++ le 4 b.powerOns ++ le 4 b.watchdogs ++ le 4 b.cycles ++ le 4 b.restarts ++ le 4 b.rebuilds ++ le 4 (s.uptime - b.released) ++ zeros 4 })

@[inherit_doc cmdResetDevice] def execResetDevice (p : Packet) (s : State) : Host.Outcome State Fault Refusal := .next (submit 0x0008 cmdResetDevice p s)
@[inherit_doc cmdDomainRestart] def execDomainRestart (p : Packet) (s : State) : Host.Outcome State Fault Refusal := .next (submit 0x0009 cmdDomainRestart p s)
@[inherit_doc cmdBootReport] def execBootReport (p : Packet) (s : State) : Host.Outcome State Fault Refusal := .next (submit 0x000A cmdBootReport p s)
@[inherit_doc cmdRecoveryStatus] def execRecoveryStatus (p : Packet) (s : State) : Host.Outcome State Fault Refusal := .next (submit 0x000B cmdRecoveryStatus p s)

end Sys2Proof.Machine
end

