-- ==== Sys2Proof/Machine/Supplies.lean ====
section
/-!
DEFINITION. Machine/Supplies.lean: supplies, sequence faults, power domains, the last save and thermal behaviour (ch. 24).
-/
namespace Sys2Proof.Machine

/-- Change the supplies' part of the state. -/
def modSupply (f : Supplies → Supplies) (s : State) : State := { s with supply := f s.supply }

/-! ### Monitors (R444) -/

/-- The thresholds of Table 2, mV: under and over, for VCORE, VIO, VANA, VRF. -/
def supplyLimits : List (Nat × Nat) := [(770, 830), (3100, 3500), (3180, 3420), (3400, 3800)]

/-- The absolute maximum ratings of the supplies, mV (R468). -/
def supplyRatings : List Nat := [1000, 3800, 3800, 4200]

/-- VANA goes under: D9 loses the tick in progress, and every gate goes low (Table 2). -/
def vanaLost (s : State) : State :=
  let s := s.drive.lums.foldl (fun (s : State) (l : LumRun) => gatesLow l.num s) s
  { s with drive := { s.drive with lums := s.drive.lums.map (fun (l : LumRun) => if l.running then { l with running := false, start := some (s.clerk.tick + 1), rejoin := false, fallback := false } else l) }
           metro := { s.metro with runs := s.metro.runs.map (fun (r : MeterRun) => { r with gap := true }) } }

/-- VCORE or VIO goes under: a power-on reset, with no save; without PFW_N accepted in the preceding 10 ms the UNWARNED flag is kept
for the next boot (R449). -/
def mainLost (s : State) : State :=
  let warned := match s.supply.accepted with | some t => decide (s.uptime ≤ t + 10) | none => false
  powerOnReset 1 (modSupply (fun x => { x with unwarned := x.unwarned || !warned }) s)

/-- SUPPLY_MONITOR_CROSSING (R444): a supply passes its under or over threshold of Table 2 (`beyond`: outward); `mv` is the extreme
value seen. Above its rating (R468) the spec gives no behaviour. -/
def execSupplyMonitorCrossing (supply : Nat) (above beyond : Bool) (mv : Nat) (s : State) : Host.Outcome State Fault Refusal :=
  if 3 < supply then .next s
  else if beyond && above && (supplyRatings[supply]?).getD 0 < mv then .fault .ratingsExceeded
  else
    let b := 2 ^ supply
    let set := fun (m : Nat) => if beyond then m ||| b else if bit m supply then m - b else m
    let s := modSupply (fun x => if above then { x with above := set x.above } else { x with under := set x.under }) s
    if beyond then
      let s := modSupply (fun x => { x with flags := x.flags ||| (if above then b * 16 else b) }) s
      let s := count (if above then 0x1F7 else 0x1F3 + supply) s
      let s := if s.mode.ready then gbk 0x0102 0xFF (le 1 supply ++ le 1 (b2n above) ++ le 2 mv) s else s
      .next (if above then s else if supply == 2 then vanaLost s else if supply ≤ 1 then mainLost s else s)
    else .next s

/-- SEQUENCE_FAULT (R443): VCORE exceeds VIO by more than 0.3 V; D0 latches the fault with both voltages, and D1 to D11 are held in
reset. -/
def execSequenceFault (vcore vio : Nat) (s : State) : Host.Outcome State Fault Refusal :=
  if vio + 300 < vcore && s.supply.latch.isNone then
    .next (holdReset (afterReset false 1 (modSupply (fun x => { x with latch := some (vcore, vio), seqRecord := some (vcore, vio) }) s)))
  else .next s

/-- SEQUENCE_FAULT_CLEAR (R443): VIO has stayed below 0.5 V for 10 ms. `kept`: VBAT has kept D0's record meanwhile. -/
def execSequenceFaultClear (kept : Bool) (s : State) : Host.Outcome State Fault Refusal :=
  if s.supply.latch.isSome then
    .next (modSupply (fun x => { x with latch := none, seqRecord := if kept then x.seqRecord else none, under := x.under ||| 3, seqFault := false }) s)
  else .next s

/-! ### Power domains (R445) -/

/-- D9 may be gated: no live CIRCUIT channel, no pulse input or output enabled, no calibration job. -/
def metroIdle (s : State) : Bool :=
  !s.ord.channels.any (fun c => hType c.handle == 4) && !s.metro.outs.any (·.cfg.enable) && !s.metro.ins.any (·.cfg.enable) && s.metro.job.state != 1

/-- METRO_DOMAIN_GATE (R445 Table 3): `quiet`: every voltage input has stayed below 5 % of full scale for 10 s. D9 is gated while every
condition holds, and ungated when one ends. -/
def execMetroDomainGate (quiet : Bool) (s : State) : Host.Outcome State Fault Refusal :=
  let on := quiet && metroIdle s
  .next (if on == s.metro.gated then s else if on then { s with metro := { s.metro with gated := true } } else restartMetro { s with metro := { s.metro with gated := false } })

/-- DOMAIN_PWR.POWERED. -/
def poweredMask (s : State) : Nat :=
  let wing := fun w => b2n (!bit s.inn.gated w) * 2 ^ (2 + w)
  let floor := fun g => radioState s (2 * g) == 0 && radioState s (2 * g + 1) == 0
  let group := fun g => b2n (!(s.clerk.running && floor g)) * 2 ^ (6 + g)
  0x123 + wing 0 + wing 1 + wing 2 + group 0 + group 1 + b2n (!s.metro.gated) * 2 ^ 9 + b2n (!driveGated s) * 2 ^ 10 + b2n (!s.vault.gated) * 2 ^ 11

/-! ### The last save (R446 to R449) -/

/-- A Guestbook erase stops after the record in progress (Table 5): how many records were erased by then is open; kind 0x1302 comes
first. -/
def stopErase (s : State) : State :=
  match s.gbk.erasing with
  | none => s
  | some (last, counter, m, _, p) =>
    let gone := s.gbk.stored.filter (fun (x : GbkRec) => 4096 < x.seq && x.seq ≤ last)
    let y := drawFree s
    let n := y.1 % (gone.length + 1)
    let cut := (gone.take n).map (fun (x : GbkRec) => x.seq)
    let dest := (cut.getLast?).getD s.gbk.clearedTo
    let s := modGbk (fun g => { g with erasing := none, stored := g.stored.filter (fun (x : GbkRec) => !cut.contains x.seq), clearedTo := max g.clearedTo dest, urgent := stampRec 0x1302 false m (le 4 last ++ le 4 n ++ le 8 counter ++ le 1 m) none s :: g.urgent }) y.2
    answer p { payload := le 4 n ++ le 4 s.gbk.oldestSeq } s

/-- The image of the front buffer that a save writes: at most 256 records (Table 4 step 6). -/
def frontImage (s : State) : List GbkPlace := ((s.gbk.urgent.map GbkPlace.record) ++ s.gbk.front).take 256

/-- The tick record of a save (R447). -/
def tickRecord (s : State) : Nat × Digest × Nat × Nat × Nat :=
  (s.clerk.lastTick, s.clerk.lastD, s.clerk.tick, ((s.ckpts.getLast?).map (fun (c : Checkpoint) => c.tick)).getD 0, s.clerk.offset)

/-- The save runs (R446 Table 4): `parts` has bit 0 tick record, bit 1 metering record, bit 2 front-buffer image, for each part whose
valid mark was written; before the RESUME tick only the image is saved (Table 5). `us`: from the edge to step 7. -/
def lastSave (residue : Option (List (Nat × Nat))) (parts us : Nat) (s : State) : State :=
  let s := stopErase s
  let live := s.clerk.running
  let metro := live && bit parts 1
  let s := if metro then metroSave residue s else s
  let done := bit parts 2 && (!live || (bit parts 0 && metro))
  let save : LastSave := { tick := if live && bit parts 0 then some (tickRecord s) else none, front := if bit parts 2 then some (frontImage s) else none }
  let s := modGbk (fun g => { g with saving := true }) (modSupply (fun x => { x with save, saveDone := done, cancelled := false, partial_ := !done || !live, saveUs := if done then min us 4095 else 0 }) s)
  if done then gbk 0x0106 0xFF (le 2 (min us 4095) ++ le 1 (parts % 8) ++ le 1 0) (count 0x1F1 s) else s

/-- PFW_ACCEPT (R446): PFW_N has been low for 50 µs. While a save stands, neither complete nor cancelled, no second starts (R448). -/
def execPfwAccept (residue : Option (List (Nat × Nat))) (parts us : Nat) (s : State) : Host.Outcome State Fault Refusal :=
  let standing := s.gbk.saving && !s.supply.saveDone
  let s := modSupply (fun x => { x with pfw := true, level := false, flags := x.flags ||| 0x100, accepts := satAdd 32 x.accepts 1, accepted := some s.uptime, saveDone := false }) s
  let s := gbk 0x0101 0xFF (le 8 s.clerk.tick ++ le 4 (s.clerk.offset * 1000) ++ le 8 s.clerk.tick) (count 0x1F0 s)
  .next (if standing then s else lastSave residue parts us s)

/-! ### Temperature (R451, R452) -/

/-- A thermal stage is entered or left: kind 0x1501. -/
def stageRecord (stage : Nat) (temp : Int) (hot : Nat) (s : State) : State := gbk 0x1501 0xFF (le 1 stage ++ leS 2 temp ++ le 1 hot) s

/-- The stages of Table 7, from the reference-point mean in 0.1 °C. -/
def thermalStage (temp : Int) (s : State) : State :=
  let old := s.supply.stage
  let up := if 1150 ≤ temp then 2 else if 1050 ≤ temp then max old 1 else old
  let new := if up == 2 && old == 2 && temp < 1100 then (if temp < 1000 then 0 else 1) else if up == 1 && temp < 1000 then 0 else up
  if new == old then s
  else
    let hot := hottestWing s
    let s := modSupply (fun x => { x with stage := new, hot := if new == 2 then hot else x.hot, seen := if new == 2 then x.seen ||| 2 else x.seen }) s
    let s := { s with inn := { s.inn with review := true } }
    let s := if old == 0 then count 0x025 s else s
    stageRecord (max old new) temp s.supply.hot (count (if old < new then 0x1F8 else 0x1F9) s)

/-- At stage 2 the lodgings of the hottest wing leave it; at stage 1 no wing is gated (R57 policy 3). -/
def thermalMoves (s : State) : State :=
  let open_ := fun (s : State) (w : Nat) => if bit s.inn.gated w then count 0x024 { s with inn := { s.inn with gated := s.inn.gated - 2 ^ w } } else s
  let s := if s.supply.stage == 0 then s else [0, 1, 2].foldl open_ s
  if s.supply.stage == 2 then [0, 1, 2, 3].foldl (fun (s : State) k => evacuateEngine (4 * s.supply.hot + k) 3 (openEngines s) s) s else s

/-- The alert threshold and the crossing of +125 °C (Table 7). -/
def thermalAlerts (temp : Int) (s : State) : State :=
  let x := s.supply
  let t : Int := x.threshold
  let h : Int := x.hysteresis * 10
  let s := if t ≤ temp && !x.alert then gbk 0x1502 0xFF (le 1 1 ++ leS 2 temp) (modSupply (fun y => { y with alert := true, seen := y.seen ||| 1 }) s)
    else if temp < t - h && x.alert then gbk 0x1502 0xFF (le 1 0 ++ leS 2 temp) (modSupply (fun y => { y with alert := false }) s) else s
  if 1250 ≤ temp then (if x.overMax then s else gbk 0x1503 0xFF (leS 2 temp) (modSupply (fun y => { y with overMax := true, seen := y.seen ||| 4 }) s))
  else modSupply (fun y => { y with overMax := false }) s

/-- Supply readings: the voltages as the mean of the last 10 ms, their extremes, the currents, and the energy. -/
def takeSupplies (mv ma : List Nat) (x : Supplies) : Supplies :=
  let v := (List.range 4).map (fun k => (mv[k]?).getD 0)
  let i := (List.range 4).map (fun k => (ma[k]?).getD 0)
  let p := List.zipWith (fun a b => a * b / 1000) v i
  { x with mv := v, ma := i
           lowest := List.zipWith (fun a b => if a == 0 then b else min a b) x.lowest v
           highest := List.zipWith max x.highest v
           power := (p :: x.power).take 1000
           energy := x.energy + sumBy id p }

/-- THERMAL_READING (R451, R452): a reading of every sensor, 0.1 °C, of the reference point, the three wings and the two radio groups;
every threshold is compared with the mean of the last 100. The supplies' voltages and currents are read with it (log entry 44). -/
def execThermalReading (temps : List Int) (mv ma : List Nat) (s : State) : Host.Outcome State Fault Refusal :=
  if s.boot.stage == 0 then .next s
  else
    let s := modSupply (fun x => takeSupplies mv ma { x with readings := (temps :: x.readings).take 100 }) s
    let temp := sensorMean s 0
    let s := if (s.supply.threshold : Int) < (temps[0]?).getD 0 then count 0x1FA s else s
    let s := thermalMoves (thermalStage temp (thermalAlerts temp s))
    let s := modSupply (fun x => { x with derate := if 1100 ≤ temp then true else if temp < 1080 then false else x.derate }) s
    .next (radioThermal temp s)

/-! ### Registers and commands -/

/-- SUPPLY_STATUS, PFW_STATUS as registers. -/
def supplyStatusReg (s : State) : Nat :=
  let x := s.supply
  (15 - (x.under ||| x.above) % 16) + 16 * (x.above % 16) + 256 * b2n (!s.rtc.vbatLow) + 512 * b2n x.pfw + 1024 * b2n x.seqFault
@[inherit_doc supplyStatusReg] def pfwStatusReg (s : State) : Nat :=
  let x := s.supply
  b2n x.saveDone + 2 * b2n x.cancelled + 4 * b2n x.partial_ + 8 * b2n x.level + 2 ^ 16 * (x.saveUs % 4096)

/-- SUPPLY_STATUS. -/
def cmdSupplyStatus (p : Packet) (s : State) : State × Ans :=
  let x := s.supply
  let item := fun k => le 2 ((x.mv[k]?).getD 0) ++ le 2 ((x.lowest[k]?).getD 0) ++ le 2 ((x.highest[k]?).getD 0) ++ le 2 ((x.ma[k]?).getD 0)
  let s' := if bit (fld p.payload 0 1) 0 then modSupply (fun y => { y with lowest := y.mv, highest := y.mv }) s else s
  (s', { payload := ((List.range 4).map item).flatten ++ le 4 (supplyStatusReg s) ++ le 4 x.flags ++ le 4 x.accepts ++ le 4 (pfwStatusReg s) })

/-- THERMAL_CONFIG (R452). -/
def cmdThermalConfig (p : Packet) (s : State) : State × Ans :=
  let t := fld p.payload 0 2
  let h := fld p.payload 2 1
  let m := masterOf s p.path
  if t < 600 || 1200 < t || h < 2 || 10 < h then (s, { status := .badParam })
  else (gbk 0x1504 m (le 2 t ++ le 1 h ++ le 1 m) (modSupply (fun x => { x with threshold := t, hysteresis := h }) s), {})

/-- The five temperatures of TEMP_REF and TEMP_DIE0 and 1, 0.1 °C: the reference point, the wings, the hotter radio group. -/
def temperatures (s : State) : List Int := [sensorMean s 0, sensorMean s 1, sensorMean s 2, sensorMean s 3, max (sensorMean s 4) (sensorMean s 5)]

/-- The mean power of a supply over the last `n` readings, mW. -/
def meanPower (s : State) (k n : Nat) : Nat :=
  let l := (s.supply.power.take n).map (fun (x : List Nat) => (x[k]?).getD 0)
  if l.isEmpty then 0 else sumBy id l / l.length

/-- POWER_REPORT (R450). -/
def cmdPowerReport (_ : Packet) (s : State) : State × Ans :=
  (s, { payload := le 8 (tickNow s) ++ ((List.range 4).map (fun k => le 2 (meanPower s k 25) ++ le 2 (meanPower s k 1000))).flatten ++ le 8 (s.supply.energy / 100000) ++ le 4 (poweredMask s) ++
          le 1 s.inn.gated ++ zeros 3 ++ ((temperatures s).map (leS 2)).flatten ++ zeros 14 })

@[inherit_doc cmdSupplyStatus] def execSupplyStatus (p : Packet) (s : State) : Host.Outcome State Fault Refusal := .next (submit 0x1301 cmdSupplyStatus p s)
@[inherit_doc cmdThermalConfig] def execThermalConfig (p : Packet) (s : State) : Host.Outcome State Fault Refusal := .next (submit 0x1302 cmdThermalConfig p s)
@[inherit_doc cmdPowerReport] def execPowerReport (p : Packet) (s : State) : Host.Outcome State Fault Refusal := .next (submit 0x1303 cmdPowerReport p s)

end Sys2Proof.Machine
end

