-- ==== Sys2Proof/Machine/Firmware.lean ====
section
/-!
DEFINITION. Machine/Firmware.lean: firmware sets: the container, staging, the boot's choice, and trials (ch. 22).
-/
namespace Sys2Proof.Machine

/-- Change the image store. -/
def modFw (f : Firmware → Firmware) (s : State) : State := { s with firmware := f s.firmware }

/-- A slot of the image store. -/
def fwSlot (s : State) (k : Nat) : FwSlot := (s.firmware.slots[k]?).getD {}

/-- A slot changes its state: the boot count is noted. -/
def setFwSlot (k : Nat) (f : FwSlot → FwSlot) (s : State) : State :=
  modFw (fun x => { x with slots := modAt x.slots k (fun y => { f y with boot := s.boot.boots }) }) s

/-- The slot in some state. -/
def slotIn (s : State) (st : Nat) : Option Nat := (List.range 2).find? (fun k => (fwSlot s k).state == st)

/-! ### The container (R421, R422) -/

/-- The section table: type, offset, length, SHA-256. -/
def sectionTable (b : List Byte) : List (Nat × Nat × Nat × List Byte) :=
  (List.range 6).map (fun i => let e := b.drop (48 + 44 * i); (fld e 0 1, fld e 4 4, fld e 8 4, (e.drop 12).take 32))

/-- The bytes of a section, with its header. -/
def sectionOf (b : List Byte) (e : Nat × Nat × Nat × List Byte) : List Byte := (b.drop e.2.1).take e.2.2.1

/-- The section of a type, which begins with its header; empty where the table has none. -/
def sectionHeader (b : List Byte) (t : Nat) : List Byte := (((sectionTable b).find? (fun e => e.1 == t)).map (sectionOf b)).getD []

/-- The version of the section of a type. -/
def sectionVersion (b : List Byte) (t : Nat) : Nat := fld (sectionHeader b t) 4 4

/-- What the module takes from a container's headers: what FWSET_INFO shows, and the checkpoint formats of the core section. -/
def FwSlot.withHeader (x : FwSlot) : FwSlot :=
  { x with version := fld x.bytes 12 4, epoch := fld x.bytes 16 2, length := fld x.bytes 8 4, sections := (List.range 6).map (fun t => sectionVersion x.bytes (t + 1))
           format := fld (sectionHeader x.bytes 1) 12 2, oldest := fld (sectionHeader x.bytes 1) 14 2 }

/-- Check 1 of Table 5: magic, lengths, section count, offsets and types. -/
def headerOk (b : List Byte) : Bool :=
  let ts := sectionTable b
  let ok := fun (e : Nat × Nat × Nat × List Byte) =>
    let h := sectionOf b e
    e.2.1 % 4096 == 0 && 512 ≤ e.2.1 && 128 ≤ e.2.2.1 && e.2.1 + e.2.2.1 ≤ b.length && fld h 0 1 == e.1 && fld h 2 2 == 128 && fld h 8 4 + 128 == e.2.2.1
  b.take 4 == [0x48, 0x55, 0x41, 0x33] && fld b 4 2 == 512 && fld b 6 2 == 1 && fld b 8 4 == b.length && 512 ≤ b.length && fld b 18 1 == 6 &&
    ts.all ok && (List.range 6).all (fun t => (ts.filter (fun e => e.1 == t + 1)).length == 1)

/-- Check 2: part, band mask, stepping and unit serial admit this module. -/
def bindingOk (b : List Byte) : Bool :=
  fld b 20 2 == 0x9640 && bit (fld b 22 1) (bandCode - 1) && fld b 23 1 ≤ 1 && 1 ≤ fld b 24 1 && (fld b 32 8 == 0 || fld b 32 8 == Config.unitSerial.toNat)

/-- Check 4: the key, the header's signature, and each section's digest and signature. -/
def signaturesOk (s : State) (b : List Byte) : Bool :=
  let k := (s.vault.slots[fld b 19 1]?).getD {}
  let hash := fun (l : List Byte) => digestBytes (Config.sha256 l)
  (keyStatus s.vault.slots (fld b 19 1) 2).isNone && Config.ecdsaVerify k.key (hash (b.take 448)) ((b.drop 448).take 64) &&
    (sectionTable b).all (fun e =>
      let x := sectionOf b e
      hash x == e.2.2.2 && Config.ecdsaVerify k.key (hash (x.take 64 ++ x.drop 128)) ((x.drop 64).take 64))

/-- Check 5: the first section, in the order of the table, that does not admit another. -/
def misfit (b : List Byte) : Option (Nat × Nat) :=
  (sectionTable b).findSome? (fun e =>
    let h := sectionOf b e
    ((List.range 6).find? (fun t => t + 1 != e.1 && (sectionVersion b (t + 1) < fld h (16 + 8 * t) 4 || fld h (20 + 8 * t) 4 < sectionVersion b (t + 1)))).map (fun t => (e.1, t + 1)))

/-- The failure of a slot tried at boot (Table 5): cause, section type, other type; none: it is installed. -/
def slotFailure (readErrors refused : List Nat) (s : State) (k : Nat) : Option (Nat × Nat × Nat) :=
  let x := fwSlot s k
  if readErrors.contains k then some (8, 0, 0)
  else if x.state == 3 && (x.failed || 3 ≤ x.trials) then some (6, 0, 0)
  else if !x.factory && !headerOk x.bytes then some (1, 0, 0)
  else if !x.factory && !bindingOk x.bytes then some (2, 0, 0)
  else if x.epoch < s.firmware.epoch then some (3, 0, 0)
  else if !x.factory && !signaturesOk s x.bytes then some (4, 0, 0)
  else match (if x.factory then none else misfit x.bytes) with
    | some y => some (5, y.1, y.2)
    | none => if refused.contains k then some (7, 0, 0) else none

/-- A slot tried at boot fails (Table 4): kind 0x0304, written by the boot ROM. -/
def failSlot (k : Nat) (f : Nat × Nat × Nat) (s : State) : State :=
  let s := setFwSlot k (fun x => { x with state := 6, cause := f.1, failed := false, revert := false }) s
  gbk 0x0304 8 (le 1 k ++ le 1 f.1 ++ le 1 f.2.1 ++ le 1 f.2.2) s

/-- A slot that passes is installed and takes its state (Table 4). -/
def installSlot (k : Nat) (s : State) : State :=
  let x := fwSlot s k
  let s := modFw (fun f => { f with running := some k }) s
  if x.state == 2 then
    let o := 1 - k
    let s := if (fwSlot s o).state == 3 || (fwSlot s o).state == 4 then setFwSlot o (fun y => { y with state := 5, failed := false }) s else s
    gbk 0x0305 8 (le 1 k ++ le 4 x.version ++ le 2 x.epoch) (setFwSlot k (fun y => { y with state := 3, trials := 1, failed := false, revert := false }) s)
  else if x.state == 3 then modFw (fun f => { f with slots := modAt f.slots k (fun y => { y with trials := y.trials + 1 }) }) s
  else if x.state == 5 then setFwSlot k (fun y => { y with state := 4 }) s
  else s

/-- Step 4 of the boot (R427): STAGED, TRIAL, ACTIVE, PREVIOUS, the first that passes; each that fails becomes FAILED. The fuel is
the number of slots. -/
def chooseSet (readErrors refused : List Nat) : Nat → State → State
  | 0, s => s
  | n + 1, s =>
    match ([2, 3, 4, 5].map (fun st => slotIn s st)).findSome? id with
    | none => s
    | some k =>
      match slotFailure readErrors refused s k with
      | some f => chooseSet readErrors refused n (failSlot k f s)
      | none => installSlot k s

/-! ### Staging (R424 to R426) -/

/-- The target of a staging (R424). -/
def stageTarget (s : State) : Nat :=
  let busy := fun k => (fwSlot s k).state == 3 || (fwSlot s k).state == 4
  let prev := fun k => (fwSlot s k).state == 5
  if busy 0 then 1 else if busy 1 then 0 else if prev 0 && !prev 1 then 1 else 0

/-- A slot in STAGING or STAGED ends without a set: kind 0x0303 with its cause. -/
def endStaging (k cause : Nat) (s : State) : State :=
  let x := fwSlot s k
  let s := if x.state == 2 && x.revert then setFwSlot k (fun y => { y with state := 5, revert := false }) s else setFwSlot k (fun _ => {}) s
  gbk 0x0303 2 (le 1 k ++ le 1 cause) (modFw (fun f => { f with session := 0, total := 0, crc := 0, last := 0, packet := none }) s)

/-- IMAGE_BEGIN (R420, R424, R429). -/
def cmdImageBegin (p : Packet) (s : State) : State × Ans :=
  let b := p.payload
  let op := fld b 0 1
  let total := fld b 4 4
  let prefix_ := fld b 8 1
  let m := masterOf s p.path
  let prev := slotIn s 5
  if 2 < op || (op == 2 && prefix_ != 0 && (prefix_ < 8 || 30 < prefix_)) then (s, { status := .badParam })
  else if op == 0 && (total < 512 || 29360128 < total) then (s, { status := .range })
  else if (slotIn s 3).isSome || s.firmware.session != 0 then (s, { status := .wrongState })
  else if op == 0 then
    let k := stageTarget s
    let s := modFw (fun f => { f with session := 1, slot := k, total, crc := fld b 8 4, packet := some p }) (setFwSlot k (fun _ => { state := 1 }) s)
    (gbk 0x0301 m (le 1 k ++ le 4 total) s, { later := true })
  else if op == 1 then
    match prev with
    | none => (s, { status := .wrongState })
    | some k =>
      let x := fwSlot s k
      if x.epoch < s.firmware.epoch then (s, { status := .range })
      else (gbk 0x0307 m (le 1 k ++ le 4 x.version) (setFwSlot k (fun y => { y with state := 2, revert := true, cause := 0 }) s), { payload := le 1 k ++ zeros 7 })
  else
    let a := if prefix_ == 0 then none else some (fld b 4 4, prefix_, fld b 12 4)
    (gbk 0x0309 m (le 4 (fld b 4 4) ++ le 1 prefix_) (modFw (fun f => { f with stored := a }) s), { payload := le 1 0xFF ++ zeros 7 })

/-- SLOT_ERASE_COMPLETE (R424): the target slot is erased after `ms` ms, or the erase has failed. -/
def execSlotEraseComplete (ms : Nat) (ok : Bool) (s : State) : Host.Outcome State Fault Refusal :=
  let f := s.firmware
  if f.session != 1 then .next s
  else
    let reply := fun (a : Ans) (s : State) => match f.packet with | some p => answer p a s | none => s
    if ok then .next (reply { payload := le 1 f.slot ++ zeros 3 ++ le 4 ms } (modFw (fun x => { x with session := 2, last := s.uptime, packet := none }) s))
    else .next (reply { status := .storeError } (modFw (fun x => { x with session := 0, packet := none }) (setFwSlot f.slot (fun _ => {}) s)))

/-- IMAGE_DATA (R425, R426). -/
def cmdImageData (p : Packet) (s : State) : State × Ans :=
  let off := fld p.payload 0 4
  let data := p.payload.drop 8
  let f := s.firmware
  let held := (fwSlot s f.slot).bytes
  let ok : State × Ans := (s, { payload := le 4 held.length ++ zeros 4 })
  if fld p.payload 4 4 != (Config.crc32c data).toNat then (s, { status := .badParam })
  else if f.session != 2 then (s, { status := .wrongState })
  else if f.total < off + data.length then (s, { status := .badParam })
  else if off + data.length ≤ held.length then
    if (held.drop off).take data.length == data then ({ ok.1 with firmware := { f with last := s.uptime } }, ok.2) else (s, { status := .badParam })
  else if off != held.length then (s, { status := .badParam })
  else
    let s := modFw (fun x => { x with last := s.uptime, slots := modAt x.slots f.slot (fun y => { y with bytes := y.bytes ++ data }) }) s
    (s, { payload := le 4 (held.length + data.length) ++ zeros 4 })

/-- IMAGE_END (R425): the read-back begins. -/
def cmdImageEnd (p : Packet) (s : State) : State × Ans :=
  if s.firmware.session != 2 then (s, { status := .wrongState })
  else (modFw (fun f => { f with session := 3, packet := some p }) s, { later := true })

/-- IMAGE_ABORT (R423): a STAGING or STAGED slot ends; during a read-back it waits. -/
def cmdImageAbort (p : Packet) (s : State) : State × Ans :=
  let f := s.firmware
  if f.session == 3 then (if f.abort.isSome then (s, { status := .wrongState }) else (modFw (fun x => { x with abort := some p }) s, { later := true }))
  else if f.session != 0 then
    let s := match f.packet with | some q => answer q { status := .aborted } s | none => s
    (endStaging f.slot 0 s, {})
  else match slotIn s 2 with
    | some k => (endStaging k 0 s, {})
    | none => (s, { status := .wrongState })

/-- An IMAGE_ABORT that waited applies to the state that the read-back has left. -/
def releaseAbort (s : State) : State :=
  match s.firmware.abort with
  | none => s
  | some p =>
    let x := cmdImageAbort p (modFw (fun f => { f with abort := none }) s)
    answer p x.2 x.1

/-- IMAGE_READ_BACK_COMPLETE (R425): the slot is STAGED, or EMPTY when the total has not been received, the CRC-32C differs, or the
store cannot be read. -/
def execImageReadBackComplete (readError : Bool) (s : State) : Host.Outcome State Fault Refusal :=
  let f := s.firmware
  if f.session != 3 then .next s
  else
    let x := fwSlot s f.slot
    let crc := (Config.crc32c x.bytes).toNat
    let reply := fun (a : Ans) (s : State) => match f.packet with | some p => answer p a s | none => s
    if readError || x.bytes.length != f.total || crc != f.crc then
      .next (releaseAbort (reply { status := if readError then .storeError else .badParam } (endStaging f.slot 1 s)))
    else
      let s := modFw (fun y => { y with session := 0, packet := none }) (setFwSlot f.slot (fun y => { y.withHeader with state := 2 }) s)
      .next (releaseAbort (reply { payload := le 1 f.slot ++ le 1 2 ++ zeros 2 ++ le 4 crc } (gbk 0x0302 2 (le 1 f.slot ++ le 4 crc) s)))

/-- IMAGE_STAGING_IDLE (R423): 600 s without IMAGE_DATA. -/
def execImageStagingIdle (s : State) : Host.Outcome State Fault Refusal :=
  .next (if s.firmware.session == 2 && s.firmware.last + 600000 ≤ s.uptime then endStaging s.firmware.slot 2 s else s)

/-- IMAGE_STATUS. -/
def cmdImageStatus (_ : Packet) (s : State) : State × Ans :=
  let f := s.firmware
  let on := f.session != 0
  (s, { payload := le 1 f.session ++ le 1 (if on then f.slot else 0xFF) ++ zeros 2 ++ le 4 f.total ++ le 4 (if on then (fwSlot s f.slot).bytes.length else 0) ++ le 4 f.crc ++
          le 4 (if f.session == 2 then s.uptime - f.last else 0) ++ zeros 4 })

/-- The 48-byte item of a slot (FWSET_INFO): the fields after the state are 0 in EMPTY and STAGING, and in FAILED with cause 1. -/
def fwItem (x : FwSlot) : List Byte :=
  if x.state ≤ 1 || (x.state == 6 && x.cause == 1) then le 1 x.state ++ zeros 47
  else le 1 x.state ++ le 1 x.cause ++ le 1 x.trials ++ le 1 (b2n x.revert) ++ le 4 x.version ++ le 2 x.epoch ++ zeros 2 ++ le 4 x.length ++ (x.sections.map (le 4)).flatten ++ le 4 x.boot ++ zeros 4

/-- FWSET_INFO. -/
def cmdFwsetInfo (_ : Packet) (s : State) : State × Ans :=
  let run := if s.mode.coppice then 0xFF else s.firmware.running.getD 0xFF
  (s, { payload := le 1 run ++ zeros 1 ++ le 2 s.firmware.epoch ++ zeros 4 ++ fwItem (fwSlot s 0) ++ fwItem (fwSlot s 1) })

/-- TRIAL_COMPLETE (R428, R429): 600 s after the RESUME tick. -/
def execTrialComplete (s : State) : Host.Outcome State Fault Refusal :=
  .next (match slotIn s 3 with
    | some k =>
      let x := fwSlot s k
      if s.clerk.running && s.boot.resumeTick + 2400 ≤ s.clerk.tick && !x.failed then
        let e := max s.firmware.epoch x.epoch
        gbk 0x0306 0xFF (le 1 k ++ le 2 e) (modFw (fun f => { f with epoch := e }) (setFwSlot k (fun y => { y with state := 4 }) s))
      else s
    | none => s)

@[inherit_doc cmdImageBegin] def execImageBegin (p : Packet) (s : State) : Host.Outcome State Fault Refusal := .next (submit 0x1101 cmdImageBegin p s)
@[inherit_doc cmdImageData] def execImageData (p : Packet) (s : State) : Host.Outcome State Fault Refusal := .next (submit 0x1102 cmdImageData p s)
@[inherit_doc cmdImageEnd] def execImageEnd (p : Packet) (s : State) : Host.Outcome State Fault Refusal := .next (submit 0x1103 cmdImageEnd p s)
@[inherit_doc cmdImageStatus] def execImageStatus (p : Packet) (s : State) : Host.Outcome State Fault Refusal := .next (submit 0x1104 cmdImageStatus p s)
@[inherit_doc cmdImageAbort] def execImageAbort (p : Packet) (s : State) : Host.Outcome State Fault Refusal := .next (submit 0x1105 cmdImageAbort p s)
@[inherit_doc cmdFwsetInfo] def execFwsetInfo (p : Packet) (s : State) : Host.Outcome State Fault Refusal := .next (submit 0x1106 cmdFwsetInfo p s)

end Sys2Proof.Machine
end

