-- ==== Sys2Proof/Machine/Twin.lean ====
section
/-!
DEFINITION. Machine/Twin.lean: twin roles, heartbeats, duplicated paths, and the commands of ch. 20.
-/
namespace Sys2Proof.Machine

/-- Change the twin's part of the state. -/
def modTwin (f : Twin → Twin) (s : State) : State := { s with twin := f s.twin }

/-! ### Roles (R392, R393) -/

/-- What GLOBAL_STATUS.ROLE reports of a role. -/
def roleShown (r : Nat) : Nat := if r == 0 then 0 else if r == 1 then 1 else 2

/-- The higher of the own and the peer's epoch. -/
def topEpoch (s : State) : Nat := max s.twin.epoch ((s.twin.peer.map (fun (p : PeerInfo) => p.epoch)).getD 0)

/-- The shared addresses are announced on each port that has a link, as the module enters ACTIVE; the frame is shown with the address and
without its bytes. -/
def announceShared (s : State) : State :=
  let one := fun (port addr : Nat) => if linkUp s port then [({ port, addr } : Sent)] else []
  { s with paths := { s.paths with sent := s.paths.sent ++ one 0 s.twin.cfg.shared0 ++ one 1 s.twin.cfg.shared1 } }

/-- A change of role (R392): the epoch rises at each entry into ACTIVE; kind 0x1401, whose cause the spec does not number. -/
def setRole (new : Nat) (s : State) : State :=
  let old := s.twin.role
  if old == new then s
  else
    let s := if new == 1 then announceShared (modTwin (fun t => { t with epoch := (topEpoch s + 1) % 2 ^ 32 }) s) else s
    let s := { modTwin (fun t => { t with role := new, since := if new == 2 then s.uptime else t.since }) s with mode := { s.mode with role := roleShown new } }
    let y := drawFree s
    gbk 0x1401 0xFF (le 1 old ++ le 1 new ++ le 4 s.twin.epoch ++ le 1 y.1) y.2

/-- This module outranks a peer (R393): primary over secondary, then the lower serial. -/
def outranks (s : State) (p : PeerInfo) : Bool :=
  if s.twin.cfg.secondary != p.secondary then p.secondary else decide (Config.unitSerial.toNat < p.serial)

/-- The standby is current (R397): it holds and has computed every waybill up to the peer's last sealed tick. -/
def twinCurrent (s : State) : Bool := match s.twin.peer with | some p => decide (p.sealed ≤ s.clerk.lastTick) | none => false

/-- A sync is requested (R399). -/
def resync (cause : Nat) (s : State) : State := modTwin (fun t => { t with requested := true, syncCause := cause, records := [] }) (setRole 3 s)

/-- The TWIN alert (ch. 20): also a JOINING module that hears a beacon and no heartbeat (Table 2). -/
def twinAlert (s : State) : Bool :=
  let t := s.twin
  let heard := t.heardTw || t.heardUdp
  t.mismatch || ((t.role == 3 || t.role == 4) && !twinCurrent s) || (t.role == 1 && !heard) || (t.role == 2 && t.foreign && !heard)

/-! ### Heartbeats (R396) -/

/-- The heartbeat of this module (Table 3), before encryption. -/
def heartbeatBytes (s : State) : List Byte :=
  let t := s.twin
  let air := (List.range 4).any (transmitting s)
  [0x54, 0x48] ++ le 1 t.role ++ le 1 (b2n t.linkUp + 2 * b2n air) ++ le 4 t.epoch ++ le 8 Config.unitSerial.toNat ++ le 8 t.eui ++ le 8 s.clerk.lastTick ++ le 8 (tbmNs s) ++
    ((List.range 4).map (fun r => le 4 (seqOf s r).counter)).flatten ++ le 4 (fwSet s) ++ le 1 (b2n t.cfg.secondary) ++ zeros 3

/-- HEARTBEAT_SEND (R396): at every TB_M instant k × 125 ms, on the twin link and over UDP on both backhaul ports. The bytes stand as
before AES-256-GCM. -/
def execHeartbeatSend (s : State) : Host.Outcome State Fault Refusal :=
  if s.twin.role == 0 || !s.mode.ready then .next s
  else
    let b := heartbeatBytes s
    let out := (if s.twin.linkUp then [(⟨3, 0, 0, b⟩ : Sent)] else []) ++ ([0, 1].filter (linkUp s)).map (fun p => (⟨p, s.twin.cfg.peer, s.twin.cfg.udp, b⟩ : Sent))
    .next (count 0x1E0 { s with paths := { s.paths with sent := s.paths.sent ++ out } })

/-- What a heartbeat says. -/
def parseHeartbeat (b : List Byte) : PeerInfo :=
  { role := fld b 2 1, linkUp := bit (fld b 3 1) 0, onAir := bit (fld b 3 1) 1, epoch := fld b 4 4, serial := fld b 8 8, eui := fld b 16 8, sealed := fld b 24 8
    counters := (List.range 4).map (fun r => fld b (40 + 4 * r) 4), firmware := fld b 56 4, secondary := bit (fld b 60 1) 0 }

/-- Table 2 on a heartbeat from a peer: a JOINING module that finds an ACTIVE requests a sync; of two ACTIVE modules one loses. -/
def roleOnHeartbeat (p : PeerInfo) (s : State) : State :=
  if s.twin.role == 2 && p.role == 1 then resync 0 s
  else if s.twin.role == 1 && p.role == 1 && !(p.epoch < s.twin.epoch || (p.epoch == s.twin.epoch && outranks s p)) then modTwin (fun t => { t with losing := true }) s
  else s

/-- HEARTBEAT_RECEIVE (R393, R396, R397): a heartbeat of the peer on path 0 (twin link) or 1 (UDP). On the twin link a standby's TB_M
follows its send time. -/
def execHeartbeatReceive (path : Nat) (b : List Byte) (s : State) : Host.Outcome State Fault Refusal :=
  if s.twin.role == 0 || !s.mode.ready || 1 < path || b.length < 64 || b.take 2 != [0x54, 0x48] || fld b 8 8 == Config.unitSerial.toNat then .next s
  else
    let p := parseHeartbeat b
    let s := count (if path == 0 then 0x1E1 else 0x1E2) s
    let off : Int := (fld b 32 8 : Int) - (tbmNs s : Int)
    .next (roleOnHeartbeat p (modTwin (fun t =>
      { t with peer := some p, gotTw := t.gotTw || path == 0, gotUdp := t.gotUdp || path == 1, offset := if path == 0 && 2 ≤ t.role then off else t.offset }) s))

/-- A heartbeat path is lost or has returned: kind 0x1404. -/
def notePath (path : Nat) (was now : Bool) (s : State) : State := if was == now then s else gbk 0x1404 0xFF (le 1 path ++ le 1 (b2n now)) s

/-- HEARTBEAT_DEADLINE (R396): an expected heartbeat instant plus 25 ms: misses, and the conditions of a takeover. -/
def execHeartbeatDeadline (s : State) : Host.Outcome State Fault Refusal :=
  if s.twin.role == 0 || !s.mode.ready then .next s
  else
    let t := s.twin
    let s := if t.gotTw then s else count 0x1E3 s
    let s := if t.gotUdp then s else count 0x1E4 s
    let s := notePath 1 t.heardUdp t.gotUdp (notePath 0 t.heardTw t.gotTw s)
    let miss := if t.gotTw || t.gotUdp then 0 else t.missed + 1
    let s := modTwin (fun t => { t with heardTw := t.gotTw, heardUdp := t.gotUdp, gotTw := false, gotUdp := false, missed := miss, missedTw := t.missedTw + b2n (!t.gotTw), missedUdp := t.missedUdp + b2n (!t.gotUdp) }) s
    if s.twin.role != 4 then .next s
    else if !twinCurrent s then .next (resync 4 s)
    else if 8 ≤ miss && 3 ≤ s.twin.silent && s.twin.takeover.isNone then
      .next (modTwin (fun t => { t with takeover := some (0, if s.clerk.offset ≤ 245000 then s.clerk.tick + 1 else s.clerk.tick + 2) }) s)
    else .next s

/-- JOIN_TIMEOUT (R392 Table 2): a JOINING module hears no ACTIVE peer, no segment beacon and no JOINING peer of higher rank for 2 s
(primary) or 4 s (secondary). -/
def execJoinTimeout (s : State) : Host.Outcome State Fault Refusal :=
  let t := s.twin
  let wait := if t.cfg.secondary then 4000 else 2000
  let rival := match t.peer with | some p => p.role == 1 || (p.role == 2 && !outranks s p) | none => false
  .next (if t.role == 2 && s.mode.ready && t.since + wait ≤ s.uptime && !t.foreign && !rival then setRole 1 s else s)

/-- SYNC_RETRY (R392 Table 2): 60 s after a refusal, a new request. -/
def execSyncRetry (s : State) : Host.Outcome State Fault Refusal :=
  .next (if s.twin.role == 3 && !s.twin.requested then modTwin (fun t => { t with requested := true }) s else s)

/-! ### Links (R391, R397) -/

/-- LINK_STATE_CHANGE (R391): BH0 or BH1 comes up at a speed or goes down. -/
def execLinkStateChange (port speed : Nat) (s : State) : Host.Outcome State Fault Refusal :=
  .next (if port < 2 && speed < 3 && s.bhLink.getD port 0 != speed && 2 ≤ s.boot.stage then gbk 0x1407 0xFF (le 1 port ++ le 1 speed) { s with bhLink := setAt s.bhLink port speed } else s)

/-- What goes with an exported waybill (R397): the reply counters, and the windows of the remote key slots. -/
def exportBytes (s : State) (w : Waybill) : List Byte :=
  w.bytes ++ (s.paths.ownCounters.map (fun (x : Nat × Nat) => le 1 x.1 ++ le 8 x.2)).flatten ++
    (s.paths.windows.map (fun (x : Window) => le 1 x.slot ++ le 8 x.high ++ (x.seen.map (le 8)).flatten)).flatten

/-- Export the waybills that wait, oldest first (R397). -/
def exportQueue (s : State) : State :=
  if !s.twin.linkUp then s
  else
    let ws := s.twin.unsent.filterMap (fun t => s.clerk.ring.find? (fun (w : Waybill) => w.tick == t))
    countN 0x1E6 ws.length { modTwin (fun t => { t with unsent := [] }) s with paths := { s.paths with sent := s.paths.sent ++ ws.map (fun w => (⟨3, 0, 0, exportBytes s w⟩ : Sent)) } }

/-- A sealed waybill is exported; one that finds 16 unsent discards the queue (R397). -/
def exportWaybill (tick : Nat) (s : State) : State :=
  if s.twin.role != 1 then s
  else if 16 ≤ s.twin.unsent.length then modTwin (fun t => { t with unsent := [], syncCause := 4 }) s
  else exportQueue (modTwin (fun t => { t with unsent := t.unsent ++ [tick] }) s)

/-- The digest record of a tick is sent once it is formed (R397). -/
def exportRecord (r : DigestRec) (s : State) : State :=
  if s.twin.role != 1 || !s.twin.linkUp then s
  else { s with paths := { s.paths with sent := s.paths.sent ++ [(⟨3, 0, 0, le 8 r.tick ++ digestBytes r.d ++ digestBytes r.o ++ le 1 (b2n r.tainted)⟩ : Sent)] } }

/-- TWIN_LINK_STATE_CHANGE (R397): the twin link comes up or goes down; what waits is exported, and a standby's TB_M follows the active
only while it is up. -/
def execTwinLinkStateChange (up : Bool) (s : State) : Host.Outcome State Fault Refusal :=
  .next (exportQueue (modTwin (fun t => { t with linkUp := up, offset := if up then t.offset else 0 }) s))

/-! ### Commands -/

/-- TWIN_CONFIG as its payload spells it. -/
def parseTwinCfg (b : List Byte) : TwinCfg :=
  { enable := fld b 0 1 == 1, secondary := fld b 1 1 == 1, key := fld b 2 1, udp := fld b 4 2, eui := fld b 8 8, peer := fld b 16 16, shared0 := fld b 32 16, shared1 := fld b 48 16 }

/-- TWIN_CONFIG (R392). -/
def cmdTwinConfig (p : Packet) (s : State) : State × Ans :=
  let b := p.payload
  let c := parseTwinCfg b
  let old := s.twin.cfg
  let role := s.twin.role
  if 1 < fld b 0 1 || 1 < fld b 1 1 || 63 < c.key || c.udp < 1024 then (s, { status := .badParam })
  else match keyStatus s.vault.slots c.key 5 with
    | some st => (s, { status := st })
    | none =>
      if (old.enable && !c.enable && role != 0 && role != 1) || ((c.key != old.key || c.eui != old.eui) && role != 0) then (s, { status := .wrongState })
      else
        let s := modTwin (fun t => { t with cfg := c }) s
        if c.enable && role == 0 then (if s.clerk.running then modTwin (fun t => { t with entering := true }) s else setRole 1 s, {})
        else if !c.enable && role == 1 then (setRole 0 s, {})
        else if !c.enable then (modTwin (fun t => { t with entering := false }) s, {})
        else (s, {})

/-- TWIN_STATUS. -/
def cmdTwinStatus (_ : Packet) (s : State) : State × Ans :=
  let t := s.twin
  let p := t.peer
  let fl := b2n (twinCurrent s && (t.role == 3 || t.role == 4)) + 2 * b2n t.mismatch + 4 * b2n t.heardTw + 8 * b2n t.heardUdp + 16 * b2n (t.silent != 0)
  (s, { payload := le 1 t.role ++ le 1 fl ++ le 1 t.syncCause ++ le 1 (b2n t.cfg.secondary) ++ le 4 t.epoch ++ le 4 ((p.map (fun (x : PeerInfo) => x.epoch)).getD 0) ++ le 8 ((p.map (fun (x : PeerInfo) => x.serial)).getD 0) ++
          le 8 t.lastRx ++ le 8 t.lastCompared ++ le 4 t.mismatches ++ le 8 t.takeoverTick ++ le 8 t.takeoverP ++ leS 4 t.offset ++ le 1 (min t.missed 255) ++ zeros 3 })

/-- TWIN_SWITCH (R402). -/
def cmdTwinSwitch (p : Packet) (s : State) : State × Ans :=
  let mode := fld p.payload 0 1
  let t := s.twin
  let n := s.clerk.tick
  let ready := match t.peer with | some x => x.role == 4 && (t.heardTw || t.heardUdp || t.gotTw || t.gotUdp) | none => false
  if 1 < mode then (s, { status := .badParam })
  else if (mode == 0 && !(t.role == 1 && ready)) || (mode == 1 && t.role != 3 && t.role != 4) then (s, { status := .wrongState })
  else if mode == 0 then
    if t.handover.isSome then (s, { status := .busy })
    else
      let at_ := (n + 4 + 3) / 4 * 4
      (modTwin (fun t => { t with handover := some at_ }) s, { payload := le 8 at_ })
  else
    let at_ := if s.clerk.offset ≤ 245000 then n + 1 else n + 2
    (modTwin (fun t => { t with takeover := some (1, at_) }) s, { payload := le 8 at_ })

/-- PATH_STATUS. -/
def cmdPathStatus (_ : Packet) (s : State) : State × Ans :=
  let t := s.twin
  let port := fun k => le 1 (s.bhLink.getD k 0) ++ le 1 (b2n (t.role == 1)) ++ zeros 2 ++ le 4 (s.paths.accepted.getD k 0) ++ le 4 (s.paths.dropped.getD k 0)
  let group := fun g => le 1 (sumBy (fun r => b2n (radioState s r == 1) * 2 ^ r + b2n (radioState s r == 2) * 2 ^ (4 + r)) [2 * g, 2 * g + 1])
  (s, { payload := port 0 ++ port 1 ++ le 1 (b2n t.linkUp) ++ zeros 3 ++ le 4 t.missedTw ++ le 4 t.missedUdp ++ group 0 ++ group 1 ++ zeros 10 })

@[inherit_doc cmdTwinConfig] def execTwinConfig (p : Packet) (s : State) : Host.Outcome State Fault Refusal := .next (submit 0x1001 cmdTwinConfig p s)
@[inherit_doc cmdTwinStatus] def execTwinStatus (p : Packet) (s : State) : Host.Outcome State Fault Refusal := .next (submit 0x1002 cmdTwinStatus p s)
@[inherit_doc cmdTwinSwitch] def execTwinSwitch (p : Packet) (s : State) : Host.Outcome State Fault Refusal := .next (submit 0x1003 cmdTwinSwitch p s)
@[inherit_doc cmdPathStatus] def execPathStatus (p : Packet) (s : State) : Host.Outcome State Fault Refusal := .next (submit 0x1004 cmdPathStatus p s)

end Sys2Proof.Machine
end

