-- ==== Sys2Proof/Machine/Command.lean ====
section
/-!
DEFINITION. Machine/Command.lean: which command an opcode names, of those that do not enter the waybill (R120 Table 8), for the commands that
wait in an intake stile.
-/
namespace Sys2Proof.Machine

/-- The commands of areas 0x00 to 0x07 that do not enter the waybill. -/
def commandLow (op : Nat) : Option (Packet → State → State × Ans) :=
  match op with
  | 0x0001 => some cmdDeviceInfo
  | 0x0002 => some cmdEcho
  | 0x0008 => some cmdResetDevice
  | 0x0009 => some cmdDomainRestart
  | 0x000A => some cmdBootReport
  | 0x000B => some cmdRecoveryStatus
  | 0x0010 => some cmdRankGet
  | 0x0018 => some cmdMailboxBindGet
  | 0x0019 => some cmdMailboxBindSet
  | 0x0020 => some cmdRemoteCfgGet
  | 0x0021 => some cmdRemoteCfgSet
  | 0x0041 => some cmdStreamCredit
  | 0x0042 => some cmdStreamRead
  | 0x0043 => some cmdStreamStatus
  | 0x0106 => some cmdChannelReset
  | 0x0107 => some cmdChannelInfo
  | 0x0108 => some cmdChannelList
  | 0x0110 => some cmdLodgingGet
  | 0x0111 => some cmdPlacementHint
  | 0x0112 => some cmdChannelPin
  | 0x0113 => some cmdEngineStatus
  | 0x0201 => some cmdQuotaGet
  | 0x0210 => some cmdWaybillRead
  | 0x0211 => some cmdDigestRead
  | 0x0212 => some cmdCheckpointList
  | 0x0220 => some cmdReplay
  | 0x0221 => some cmdReplayStatus
  | 0x0222 => some cmdReplayAbort
  | 0x0301 => some cmdPlanBegin
  | 0x0302 => some cmdPlanLoad
  | 0x0304 => some cmdPlanAbort
  | 0x0305 => some cmdPlanStatus
  | 0x0310 => some cmdRegistryGet
  | 0x0311 => some cmdRegistryExport
  | 0x0312 => some cmdRegistryFind
  | 0x0403 => some cmdGroupStatus
  | 0x0404 => some cmdLanternLevelGet
  | 0x0412 => some cmdSolarGet
  | 0x0505 => some cmdEscortStatus
  | 0x0506 => some cmdTrackList
  | 0x0606 => some cmdLoopStatus
  | 0x0611 => some cmdTraceArm
  | 0x0612 => some cmdTraceRead
  | 0x0705 => some cmdDriveStatus
  | _ => none

/-- Those of areas 0x08 to 0x13. -/
def commandHigh (op : Nat) : Option (Packet → State → State × Ans) :=
  match op with
  | 0x0803 => some cmdCalStart
  | 0x0804 => some cmdCalStatus
  | 0x0806 => some cmdMeterRead
  | 0x0807 => some cmdHarmonicsRead
  | 0x0820 => some cmdEnergyRead
  | 0x0822 => some cmdIntervalRead
  | 0x0825 => some cmdBalanceRead
  | 0x0826 => some cmdHoldupResidueRead
  | 0x0904 => some cmdRadioStatus
  | 0x0905 => some cmdRegulatoryStatus
  | 0x0A01 => some cmdPartnerStatus
  | 0x0A03 => some cmdFaultList
  | 0x0A11 => some cmdSessionImageLoad
  | 0x0A12 => some cmdSessionStatus
  | 0x0B01 => some cmdTimeConfig
  | 0x0B02 => some cmdTimeStatus
  | 0x0B03 => some cmdTimeSelect
  | 0x0B04 => some cmdPtpPortConfig
  | 0x0B05 => some cmdPpsConfig
  | 0x0C01 => some cmdRtcSet
  | 0x0C02 => some cmdRtcGet
  | 0x0C03 => some cmdRtcTrim
  | 0x0C04 => some cmdWakeSet
  | 0x0D01 => some cmdStoreStatus
  | 0x0D02 => some cmdRegionList
  | 0x0D03 => some cmdPrunerConfig
  | 0x0D04 => some cmdRegionRetire
  | 0x0E01 => some cmdKeyGenerate
  | 0x0E02 => some cmdKeyImport
  | 0x0E03 => some cmdKeyInfo
  | 0x0E04 => some cmdKeyDestroy
  | 0x0E05 => some cmdAttest
  | 0x0E06 => some cmdLifecycleSet
  | 0x0E07 => some cmdDebugUnlock
  | 0x0F01 => some cmdGbkRead
  | 0x0F02 => some cmdGbkClear
  | 0x0F03 => some cmdGbkStatus
  | 0x1001 => some cmdTwinConfig
  | 0x1002 => some cmdTwinStatus
  | 0x1003 => some cmdTwinSwitch
  | 0x1004 => some cmdPathStatus
  | 0x1101 => some cmdImageBegin
  | 0x1102 => some cmdImageData
  | 0x1103 => some cmdImageEnd
  | 0x1104 => some cmdImageStatus
  | 0x1105 => some cmdImageAbort
  | 0x1106 => some cmdFwsetInfo
  | 0x1201 => some cmdCounterConfig
  | 0x1202 => some cmdCounterSnapshot
  | 0x1203 => some cmdTmuxUnlock
  | 0x1301 => some cmdSupplyStatus
  | 0x1302 => some cmdThermalConfig
  | 0x1303 => some cmdPowerReport
  | _ => none

/-- What a waiting command that does not enter the waybill does when the clerk takes it (R40). -/
def runWaiting (p : Packet) (s : State) : State :=
  match (commandLow p.opcode).orElse (fun _ => commandHigh p.opcode) with
  | some f => runNow f p s
  | none => answer p { status := .badOpcode } s

/-- CLERK_ACCEPT (R20, R25): the clerk takes the input at the head of a source's intake stile, `offset` µs into the tick; the network
block's queue moves on (R112). -/
def execClerkAccept (cls index offset : Nat) (s : State) : Host.Outcome State Fault Refusal :=
  let s := { s with clerk := { s.clerk with offset := max s.clerk.offset offset } }
  let s := if cls != 1 && s.mode.role == 2 then s else if taking s then acceptHead runWaiting cls index s else s
  .next (if cls == 1 && index == 3 then drainRemote s else s)

end Sys2Proof.Machine
end

