-- ==== Sys2Proof/Machine/Flags.lean ====
section
/-!
DEFINITION. Machine/Flags.lean: the alerts, interrupt requests, MSIs and output pins (R92, R93), computed from the flags that the
owning chapters hold, and what happens every 10 ms of Innkeeper firmware.
-/
namespace Sys2Proof.Machine

/-! ### ALERT_STATUS (R93) -/

/-- Flags of WBL_STATUS that raise the WAYBILL alert. -/
def waybillAlert (c : Clerk) : Bool := c.late || c.taint || c.replayMismatch || c.ckptFail || c.resumed

/-- UNDERRUN, UNCORR or CORR_OVER of any stile raises the STILE alert. -/
def stileAlert (i : Inn) : Bool := i.stiles.any (fun (x : Stile) => x.flags % 8 != 0)

/-- Any channel is FAULTED. -/
def channelAlert (o : Ordered) : Bool := o.channels.any (fun (c : Channel) => c.state == .faulted)

/-- The TIME alert: TB_M in NONE, FREE or HOLDOVER, the mismatch of R327, and PPS_IN (R333). -/
def timeAlert (t : TimeBases) : Bool := t.state == 0 || t.state == 1 || t.state == 4 || t.mismatch || t.ppsAlert

/-- The PARTNER alert: an open fault record is unacknowledged. -/
def partnerAlert (a : AirOrd) : Bool := a.faults.any (fun (f : FaultRec) => f.open_ && !f.acked)

/-- The METER alert: clipping, absent voltage, residual current, aged pulse backlogs (R251), and balances (R258). -/
def meterAlert (s : State) : Bool :=
  s.metro.alertClip || s.metro.alertAbsent || s.metro.alertResidual || s.metro.outs.any (·.aged) || s.ord.metering.meters.any (fun m => 2 ≤ m.overRun)

/-- Any drive fault is latched (R218). -/
def driveAlert (d : Drive) : Bool := d.strs.any (fun (x : StrRun) => x.cause != 0) || d.lums.any (fun (x : LumRun) => x.ntcCause != 0)

/-- Any loop slot's OSC flag is set, on a fast slot in D10 or a slow one. -/
def loopAlert (s : State) : Bool := s.drive.slots.any (·.osc) || s.ord.loops.any (fun (x : LoopSlot) => x.cls == 1 && x.osc)

/-- The HOSTLINK alert. -/
def hostlinkAlert (h : HostLink) : Bool := h.rings.any (fun (r : Ring) => r.dmaErr || r.descErr) || h.aerUncorr

/-- The MAILBOX alert. -/
def mailboxAlert (h : HostLink) : Bool := h.violation || h.mailboxes.any (fun (m : Mailbox) => bit m.odb 2)

/-- The bits of ALERT_STATUS, bit 0 first. -/
def alertBits (s : State) : List Bool :=
  [waybillAlert s.clerk, stileAlert s.inn, channelAlert s.ord, s.supply.flags != 0, s.supply.seen != 0, storeFlags s != 0, s.rtc.oscStop || s.rtc.vbatLow,
   timeAlert s.time, radioAlert s, partnerAlert s.ord.air, meterAlert s, driveAlert s.drive, loopAlert s, twinAlert s, s.vault.slots.any (·.bad),
   s.gbk.overflow || s.gbk.mramErr, hostlinkAlert s.host, mailboxAlert s.host]

/-- Flags as a number, the first in bit 0. -/
def packBits : List Bool → Nat
  | [] => 0
  | b :: r => b2n b + 2 * packBits r

/-- ALERT_STATUS. -/
def alertStatus (s : State) : Nat := packBits (alertBits s)

/-! ### Interrupts (R92) -/

/-- MBX_SUM. -/
def mbxSum (h : HostLink) : Nat :=
  packBits (h.mailboxes.map (fun (m : Mailbox) => m.odb &&& (0xFFFFFFFF - m.omask) != 0)) + 2 ^ 16 * packBits (h.mailboxes.map (·.oFull))

/-- INT_STATUS. -/
def intStatus (s : State) : Nat :=
  s.host.intRing % 16 + 16 * b2n (mbxSum s.host % 2 ^ 16 != 0) + 32 * b2n (alertStatus s &&& s.host.alertEnable != 0) + 64 * b2n s.host.readyChg

/-- The vectors of Table 10 for INT_STATUS bits 0 to 6. -/
def msiVector (k : Nat) : Nat := if k < 4 then k + 1 else if k == 4 then 5 else 0

/-- Each bit that rises to enabled sends one MSI, modulo the vectors granted (R92). -/
def signal (s : State) : State :=
  let now := intStatus s &&& s.host.intEnable
  let risen := (List.range 7).filter (fun k => bit now k && !bit s.host.signalled k)
  let h := { s.host with signalled := now }
  if s.host.msi == 0 || s.host.hostsel then { s with host := h }
  else countN 0x06D risen.length { s with host := { h with msiSent := s.host.msiSent ++ risen.map (fun k => msiVector k % s.host.msi) } }

/-- A row's effect, with the MSIs of what it changed. -/
def signalled (s : State) : Host.Outcome State Fault Refusal := .next (signal s)

/-! ### Pins (R92, R93, R405, R443, R463, R464) -/

/-- INT_N is driven low. -/
def intNLow (s : State) : Bool := bit s.host.globalCtl 0 && intStatus s &&& s.host.intEnable != 0

/-- INTA is asserted. -/
def intaAsserted (s : State) : Bool := !s.host.hostsel && s.host.msi == 0 && bit s.host.globalCtl 1 && intStatus s &&& s.host.intEnable != 0

/-- ALERT_N is driven low; D0 drives it whatever ALERTN_EN while a sequence fault is latched (R443). -/
def alertNLow (s : State) : Bool := s.supply.latch.isSome || (bit s.host.globalCtl 2 && alertStatus s &&& s.host.alertEnable != 0)

/-- The outputs are active: the module runs as ACTIVE or ALONE (R394, R405). -/
def outputsActive (s : State) : Bool := s.mode.ready && s.twin.role ≤ 1

/-- TW_ACTIVE (R464). -/
def twActive (s : State) : Bool := outputsActive s

/-- DRV_G of a string (R405, R215): its gate command. -/
def drvG (s : State) (i : Nat) : Bool := outputsActive s && (s.drive.strs[i]?).any (·.gate)

/-- PULSE_OUT of an output conducts (R463). -/
def pulseOut (s : State) (n : Nat) : Bool := outputsActive s && (s.metro.outs[n]?).any (·.active)

/-! ### The Innkeeper's beat -/

/-- INK_BEAT (R417): 10 ms of Innkeeper firmware: the counter advances with a kick; the failures of R110 are recorded at the end of each
minute. -/
def execInkBeat (s : State) : Host.Outcome State Fault Refusal :=
  let s := { s with uptime := s.uptime + 10 }
  if s.boot.stage < 2 then .next s
  else
    let s := { s with host := { s.host with inkBeat := (s.host.inkBeat + 1) % 2 ^ 32 } }
    signalled (if s.uptime % 60000 == 0 then recordFailures s else s)

/-! ### When no command waits -/

/-- One crystal cycle of the calendar clock (R336, R338), and the MSIs of what has risen (R92): what an empty queue leaves to happen (log
entry 4). -/
def idle (s : State) : State := signal (crystalCycle s)

end Sys2Proof.Machine
end

