-- ==== Sys2Proof/Machine/HostLink.lean ====
section
/-!
DEFINITION. Machine/HostLink.lean: the host link, its command rings and its mailboxes, and the service port (ch. 4; R420).
-/
namespace Sys2Proof.Machine

/-- Change the host link's part of the state. -/
def modHost (f : HostLink → HostLink) (s : State) : State := { s with host := f s.host }

/-- Change the paths' part of the state. -/
def modPaths (f : Paths → Paths) (s : State) : State := { s with paths := f s.paths }

/-- PCI Express is selected and the link is out of reset (R69). -/
def pcie (s : State) : Bool := !s.host.hostsel && s.boot.stage != 0

/-! ### The link (R70, R71) -/

/-- HOST_LINK_RESET (R70): a conventional or hot reset of the PCI Express link. The ring and interrupt registers take their reset values,
so nothing is in flight on a ring any more; commands already handed to the clerk are executed, and their completions are not written. -/
def execHostLinkReset (s : State) : Host.Outcome State Fault Refusal :=
  if !pcie s then .next s
  else
    let ring := fun (p : Path) => match p with | .ring .. => true | _ => false
    let s := modPaths (fun x => { x with flights := x.flights.filter (fun (f : Flight) => !ring f.path), outgoing := x.outgoing.filter (fun (r : Reply) => !ring r.path) }) s
    signalled (modHost (fun h => { h with rings := List.replicate 4 {}, intRing := 0, readyChg := false, intEnable := 0, alertEnable := 0x3FFFF }) s)

/-- HOST_LINK_STATE (R70): the PCI Express link comes up at a speed, with the MSI vectors granted, or goes down; `aer`: an uncorrectable
status of Advanced Error Reporting stands. Kind 0x0401. -/
def execHostLinkState (up : Bool) (speed msi : Nat) (aer : Bool) (s : State) : Host.Outcome State Fault Refusal :=
  if !pcie s then .next s
  else
    let speed := if up then (if speed == 2 then 2 else 1) else 0
    let msi := if up && [1, 2, 4, 8].contains msi then msi else 0
    let changed := s.host.linkUp != up || s.host.speed != speed
    let s := modHost (fun h => { h with linkUp := up, speed, msi, aerUncorr := aer }) s
    signalled (if changed then gbk 0x0401 0xFF (le 1 (b2n up) ++ le 1 speed) s else s)

/-- SPI_LINK_STATUS (R71, R72): an instruction byte on the quad SPI. LINK_STATUS returns its byte, and ERROR starts anew; an unknown
instruction is a malformed transaction. -/
def execSpiLinkStatus (instruction : Nat) (s : State) : Host.Outcome State Fault Refusal :=
  if !s.host.hostsel || s.boot.stage == 0 then .next s
  else if instruction == 0x05 then .next (modHost (fun h => { h with readValue := b2n s.mode.ready + 2 * b2n s.mode.coppice + 4 * b2n h.spiError, spiError := false }) s)
  else if instruction == 0x02 || instruction == 0x0B then .next s
  else .next (count 0x06E (modHost (fun h => { h with spiError := true }) s))

/-! ### Rings (R75 to R82) -/

/-- A ring of the host link. -/
def ringOf (s : State) (r : Nat) : Ring := (s.host.rings[r]?).getD {}

/-- Change a ring. -/
def modRing (r : Nat) (f : Ring → Ring) (s : State) : State := modHost (fun h => { h with rings := modAt h.rings r f }) s

/-- The path is a ring of that number. -/
def onRing (r : Nat) : Path → Bool
  | .ring r' .. => r == r'
  | _ => false

/-- Tags in flight on a ring (RING_STATUS.INFLIGHT). -/
def ringTags (s : State) (r : Nat) : Nat := (s.paths.flights.filter (fun (f : Flight) => onRing r f.path)).length

/-- RING_STATUS.ACTIVE: fetching is enabled, or a completion is still to be written (R82). -/
def ringActive (s : State) (r : Nat) : Bool :=
  (ringOf s r).enable || ringTags s r != 0 || s.paths.outgoing.any (fun (x : Reply) => onRing r x.path)

/-- RING_STATUS.CMP_FULL (R80). -/
def ringFull (x : Ring) : Bool := (x.cmpTail + 1) % 128 == x.cmpHead

/-- A write of RING_CTL (R82): the moderation fields only while the ring is disabled and inactive; enabling an inactive ring starts its
pointers and phase anew. -/
def writeRingCtl (r v : Nat) (s : State) : State :=
  let free := !ringActive s r
  modRing r (fun x =>
    let x := if free then { x with modCount := bits v 8 8, modUs := bits v 16 16 } else x
    let x := { x with irqEn := bit v 1 }
    if bit v 0 && free then { x with enable := true, cmdHead := 0, cmdTail := 0, cmpHead := 0, cmpTail := 0, phase := true, unsignalled := 0, held := 0 } else { x with enable := bit v 0 }) s

/-- RING_CTL_ENABLE (R82): a write of RING_CTL with ENABLE. -/
def execRingCtlEnable (ring value : Nat) (s : State) : Host.Outcome State Fault Refusal :=
  if pcie s && ring < 4 then .next (writeRingCtl ring (value ||| 1) s) else .next s

/-- RING_CTL_DISABLE (R82): a write of RING_CTL with ENABLE clear. -/
def execRingCtlDisable (ring value : Nat) (s : State) : Host.Outcome State Fault Refusal :=
  if pcie s && ring < 4 then .next (writeRingCtl ring (value / 2 * 2) s) else .next s

/-- A ring error with its record of kind 0x0402: ring, slot, 0 DMA or 1 descriptor. -/
def ringError (r slot : Nat) (desc : Bool) (s : State) : State :=
  gbk 0x0402 0xFF (le 1 r ++ le 1 slot ++ le 1 (b2n desc)) (modRing r (fun x => { x with dmaErr := x.dmaErr || !desc, descErr := x.descErr || desc }) s)

/-- A write of CMD_TAIL (R82). -/
def writeCmdTail (r v : Nat) (s : State) : State :=
  let tail := v % 64
  if tail == (ringOf s r).cmdHead then ringError r tail true s else modRing r (fun x => { x with cmdTail := tail }) s

/-- CMD_TAIL_DOORBELL (R77, R82). -/
def execCmdTailDoorbell (ring value : Nat) (s : State) : Host.Outcome State Fault Refusal :=
  if pcie s && ring < 4 then signalled (writeCmdTail ring value s) else .next s

/-- A descriptor follows Table 5, as far as it can be told without its packet (R81). -/
def descGood (d : List Byte) : Bool :=
  d.length == 32 && fld d 0 8 % 8 == 0 && fld d 8 8 % 8 == 0 && 16 ≤ fld d 16 2 && fld d 16 2 ≤ 4096 && 16 ≤ fld d 18 2 && fld d 18 2 ≤ 4096 && fld d 20 4 == 0

/-- A completion for a descriptor whose packet was not read (R81). -/
def ringReject (r slot : Nat) (path : Path) (st : Status) (s : State) : State :=
  let s := modRing r (fun x => { x with errSlot := slot }) (ringError r slot (st == .badLength) s)
  modPaths (fun x => { x with outgoing := x.outgoing ++ [{ path, tag := 0xFF, status := st.code, tick := tickNow s % 2 ^ 32, silent := true, refused := true }] }) s

/-- The packet of a ring, once read: the checks, then the intake (R78, R101). -/
def ringPacket (p : Packet) (s : State) : State :=
  match intakeCheck s p with
  | some st => refuse p st (if st == .busy then count 0x065 s else s)
  | none => enqueue p s

/-- DESCRIPTOR_FETCH (R77, R78, R81, R94, R112): the next descriptor of a ring and its packet (none: the read of the packet ended in an
error). -/
def execDescriptorFetch (ring : Nat) (desc : List Byte) (packet : Option (List Byte)) (s : State) : Host.Outcome State Fault Refusal :=
  let x := ringOf s ring
  if !pcie s || 4 ≤ ring || !s.mode.ready || !x.enable || x.cmdHead == x.cmdTail then .next s
  else if intakeFull s 0 then .next (count 0x07D s)
  else
    let slot := x.cmdHead
    let path : Path := .ring ring slot (fld desc 24 8) (fld desc 8 8) (fld desc 18 2)
    let s := count (0x060 + ring) (modRing ring (fun x => { x with cmdHead := (slot + 1) % 64 }) s)
    if !descGood desc then signalled (ringReject ring slot path .badLength s)
    else match packet with
      | none => signalled (ringReject ring slot path .aborted s)
      | some b => .next (ringPacket (parsePacket path (b.take (fld desc 16 2))) s)

/-- The completion entry of a reply (R76 Table 6, R79). -/
def completionBytes (r : Reply) (phase : Bool) : List Byte :=
  match r.path with
  | .ring _ slot cookie _ size =>
    let len := if r.final && !r.silent then r.bytes.length else 0
    let flags := b2n r.final + 2 * b2n (decide (size < len)) + 4 * b2n r.collision + 128 * b2n phase
    le 8 cookie ++ le 1 r.tag ++ le 1 r.status ++ le 1 flags ++ le 1 slot ++ le 2 len ++ zeros 2
  | _ => []

/-- The reply as it goes into its buffer (R77). -/
def replyWrites (r : Reply) : List HostWrite :=
  match r.path with
  | .ring _ _ _ addr size => if r.final && !r.silent then [⟨addr, r.bytes.take size⟩] else []
  | _ => []

/-- Take the first reply of a ring off those that wait. -/
def popReply (want : Path → Bool) : List Reply → Option (Reply × List Reply)
  | [] => none
  | r :: rest => if want r.path then some (r, rest) else (popReply want rest).map (fun q => (q.1, r :: q.2))

/-- A final completion is unsignalled until MOD_COUNT of them are (R92). -/
def signalRing (r : Nat) (s : State) : State :=
  let n := (ringOf s r).unsignalled + 1
  if (ringOf s r).irqEn && max 1 (ringOf s r).modCount ≤ n then modHost (fun h => { h with intRing := h.intRing ||| 2 ^ r }) (modRing r (fun x => { x with unsignalled := 0 }) s)
  else modRing r (fun x => { x with unsignalled := n }) s

/-- Write the next completion of a ring: the reply, then the entry (R76 to R79). -/
def writeCompletion (r : Nat) (s : State) : State :=
  match popReply (onRing r) s.paths.outgoing with
  | none => s
  | some (a, rest) =>
    let x := ringOf s r
    let entry : HostWrite := ⟨x.cmpHi * 2 ^ 32 + x.cmpLo + 16 * x.cmpTail, completionBytes a x.phase⟩
    let s := modHost (fun h => { h with hostWrites := h.hostWrites ++ replyWrites a ++ [entry] }) (modPaths (fun y => { y with outgoing := rest }) s)
    let s := count 0x064 (modRing r (fun x => { x with cmpTail := (x.cmpTail + 1) % 128, phase := if x.cmpTail == 127 then !x.phase else x.phase }) s)
    let s := if a.final && !a.refused then freeTag a.path a.tag s else s
    if a.final then signalRing r s else s

/-- A completion's turn comes: it is written, or held while the ring is full (R80). -/
def completionTurn (r : Nat) (s : State) : State :=
  if !s.paths.outgoing.any (fun (x : Reply) => onRing r x.path) then s
  else if ringFull (ringOf s r) then
    if (ringOf s r).held < (s.paths.outgoing.filter (fun (x : Reply) => onRing r x.path)).length then count 0x06C (modRing r (fun x => { x with held := x.held + 1 }) s) else s
  else writeCompletion r s

/-- COMPLETION_WRITE (R76 to R80). -/
def execCompletionWrite (ring : Nat) (s : State) : Host.Outcome State Fault Refusal :=
  if ring < 4 then signalled (completionTurn ring s) else .next s

/-- The held completions of a ring are written, as far as there is room; the fuel is how many are held. -/
def writeHeld (r : Nat) : Nat → State → State
  | 0, s => s
  | n + 1, s => if ringFull (ringOf s r) then s else writeHeld r n (modRing r (fun x => { x with held := x.held - 1 }) (writeCompletion r s))

/-- A write of CMP_HEAD (R80). -/
def writeCmpHead (r v : Nat) (s : State) : State :=
  let s := modRing r (fun x => { x with cmpHead := v % 128 }) s
  writeHeld r (ringOf s r).held s

/-- CMP_HEAD_ADVANCE (R80). -/
def execCmpHeadAdvance (ring value : Nat) (s : State) : Host.Outcome State Fault Refusal :=
  if pcie s && ring < 4 then signalled (writeCmpHead ring value s) else .next s

/-- RING_MODERATION_TIMEOUT (R92): the oldest unsignalled completion of a ring is MOD_US µs old. -/
def execRingModerationTimeout (ring : Nat) (s : State) : Host.Outcome State Fault Refusal :=
  let x := ringOf s ring
  if pcie s && ring < 4 && x.irqEn && x.modUs != 0 && x.unsignalled != 0 then
    signalled (modHost (fun h => { h with intRing := h.intRing ||| 2 ^ ring }) (modRing ring (fun x => { x with unsignalled := 0 }) s))
  else .next s

/-! ### Mailboxes (R84 to R91) -/

/-- A mailbox. -/
def mbxOf (s : State) (m : Nat) : Mailbox := (s.host.mailboxes[m]?).getD {}

/-- Change a mailbox. -/
def modMbx (m : Nat) (f : Mailbox → Mailbox) (s : State) : State := modHost (fun h => { h with mailboxes := modAt h.mailboxes m f }) s

/-- MBX_BIND.OPEN. -/
def mbxOpen (s : State) (m : Nat) : Bool := (mbxOf s m).masterA == hostMaster s

/-- The host reaches a closed mailbox (R85): kind 0x0403. -/
def mbxViolation (m : Nat) (s : State) : State :=
  gbk 0x0403 (hostMaster s) (le 1 m ++ le 1 (hostMaster s)) (count 0x069 (modHost (fun h => { h with violation := true }) s))

/-- The words of MBX_ILEN, MBX_OLEN and MBX_IACK. -/
def ilenWord (b : Mailbox) : Nat := b.iLen + 2 ^ 9 * b.iSeg + 2 ^ 13 * b2n b.iMore + 2 ^ 16 * b.iSeq
@[inherit_doc ilenWord] def olenWord (b : Mailbox) : Nat := b.oLen + 2 ^ 9 * b.oSeg + 2 ^ 13 * b2n b.oMore + 2 ^ 16 * b.oSeq + 2 ^ 24 * b2n b.oFull
@[inherit_doc ilenWord] def iackWord (b : Mailbox) : Nat := b.ackCode + 2 ^ 8 * b.ackSeq + 2 ^ 16 * b2n b.ackValid

/-- What a mailbox whose MASTER_A is 4 tells goes over the twin link (R395): the mailbox, the word, and the data of a message. -/
def twinMail (m word : Nat) (data : List Byte) (s : State) : State :=
  if (mbxOf s m).masterA == 4 && s.twin.linkUp then modPaths (fun x => { x with sent := x.sent ++ [⟨3, 0, 0, le 1 m ++ le 4 word ++ data⟩] }) s else s

/-- An inbound message is acknowledged with a code of Table 8 (R88). -/
def mbxAck (m code : Nat) (s : State) : State :=
  let s := modMbx m (fun b => { b with post := false, ackCode := code, ackSeq := b.iSeq, ackValid := true, odb := b.odb ||| 2 }) s
  count (if code ≤ 1 then 0x066 else 0x067) (twinMail m (iackWord (mbxOf s m)) [] s)

/-- A write of MBX_ILEN (R86). -/
def setIlen (v : Nat) (b : Mailbox) : Mailbox :=
  if b.post then { b with ignored := satAdd 8 b.ignored 1 } else { b with iLen := bits v 0 9, iSeg := bits v 9 4, iMore := bit v 13, iSeq := bits v 16 8 }

/-- POST: the message is pending (R86). -/
def mbxPost (m : Nat) (s : State) : State := modMbx m (fun b => if b.post then b else { b with post := true, ackValid := false }) s

/-- DISCARD: the partial packet and the pending message go, with code 0x17 (R87). -/
def mbxDiscard (m : Nat) (s : State) : State := mbxAck m 0x17 (modMbx m (fun b => { b with partial_ := [], nextSeg := 0 }) s)

/-- A write of MBX_IDB. -/
def writeIdb (m v : Nat) (s : State) : State :=
  let s := if bit v 0 then mbxPost m s else s
  if bit v 1 then mbxDiscard m s else s

/-- MBX_POST (R86): the write of MBX_IDB with POST. -/
def execMbxPost (mailbox value : Nat) (s : State) : Host.Outcome State Fault Refusal :=
  if 16 ≤ mailbox || s.boot.stage == 0 then .next s
  else signalled (if mbxOpen s mailbox then writeIdb mailbox (value ||| 1) s else mbxViolation mailbox s)

/-- MBX_DISCARD (R87): the write of MBX_IDB with DISCARD. -/
def execMbxDiscard (mailbox value : Nat) (s : State) : Host.Outcome State Fault Refusal :=
  if 16 ≤ mailbox || s.boot.stage == 0 then .next s
  else signalled (if mbxOpen s mailbox then writeIdb mailbox (value ||| 2) s else mbxViolation mailbox s)

/-- The commands in flight on a mailbox (R89). -/
def mbxFlights (s : State) (m : Nat) : Nat := (s.paths.flights.filter (fun (f : Flight) => sameLane f.path (.mailbox m))).length

/-- The intake of a mailbox's master cannot take a command: its stile is full, or, for the twin partner, its four commands wait (R112;
ch. 20). -/
def mbxIntakeFull (s : State) (m : Nat) : Bool := intakeFull s (mbxOf s m).masterA

/-- A joined packet: its return code (R88 Table 8), or none where it is handed over. -/
def packetCode (s : State) (m : Nat) (p : Packet) : Option Nat :=
  if 4 ≤ mbxFlights s m then some 0x12
  else if p.length + 16 ≠ p.received || p.received < 16 then some 0x16
  else if tagInFlight s p.path p.tag then some 0x13
  else if mbxIntakeFull s m then some 0x14
  else none

/-- A whole packet is handed to the clerk's intake; one that a check of R101 refuses is answered outbound and is in flight until that
reply is acknowledged (R85, R89). -/
def mbxPacket (p : Packet) (s : State) : State :=
  match intakeCheck s p with
  | some st => refuse p st (takeTag p s)
  | none => enqueue p s

/-- The pending message of a mailbox, judged (R87, R88, R94). -/
def mbxTake (m : Nat) (s : State) : State :=
  let b := mbxOf s m
  let drop := fun (b : Mailbox) => { b with partial_ := [], nextSeg := 0 }
  if !s.mode.ready then mbxAck m 0x15 s
  else if b.iLen == 0 || 256 < b.iLen || (b.iMore && b.iLen < 256) then mbxAck m 0x10 s
  else if b.iSeg != b.nextSeg || (b.iMore && b.iSeg == 15) then mbxAck m 0x11 (modMbx m drop s)
  else
    let data := b.partial_ ++ b.inBuf.take b.iLen
    if b.iMore then mbxAck m 0x01 (modMbx m (fun b => { b with partial_ := data, nextSeg := b.nextSeg + 1 }) s)
    else
      let p := parsePacket (.mailbox m) data
      match packetCode s m p with
      | some c => mbxAck m c s
      | none => mbxAck m 0x00 (modMbx m drop (mbxPacket p s))

/-- MBX_IACK (R88). -/
def execMbxIack (mailbox : Nat) (s : State) : Host.Outcome State Fault Refusal :=
  if mailbox < 16 && (mbxOf s mailbox).post then signalled (mbxTake mailbox s) else .next s

/-- The next sequence number of an outbound message: new, and otherwise the module's own choice (R90; free value). -/
def nextSeq (old : Nat) (s : State) : Nat × State := let y := drawFree s; ((old + 1 + y.1 % 255) % 256, y.2)

/-- Post bytes outbound as segment `seg` (R87, R90). -/
def postOut (m seg : Nat) (b : List Byte) (s : State) : State :=
  let y := nextSeq (mbxOf s m).oSeq s
  let s := modMbx m (fun x => { x with outBuf := b.take 256 ++ x.outBuf.drop (b.take 256).length, oLen := (b.take 256).length, oSeg := seg, oMore := decide (256 < b.length), oSeq := y.1, oFull := true, odb := x.odb ||| 1, outRest := b.drop 256 }) y.2
  twinMail m (olenWord (mbxOf s m)) (b.take 256) s

/-- The next message of a mailbox is posted: the next segment of the reply in progress, or the first of the next reply (R87, R90). -/
def outboundPost (m : Nat) (s : State) : State :=
  let b := mbxOf s m
  if b.oFull then s
  else if b.outTag.isSome then postOut m (b.oSeg + 1) b.outRest s
  else match popReply (fun p => p == .mailbox m) s.paths.outgoing with
    | none => s
    | some (r, rest) => postOut m 0 r.bytes (modMbx m (fun x => { x with outTag := some r.tag }) (modPaths (fun y => { y with outgoing := rest }) s))

/-- MBX_OUTBOUND_POST (R90). -/
def execMbxOutboundPost (mailbox : Nat) (s : State) : Host.Outcome State Fault Refusal :=
  if mailbox < 16 then signalled (outboundPost mailbox s) else .next s

/-- The posted message is released; the reply's last one frees its tag (R89, R90). -/
def releaseOut (m : Nat) (err : Bool) (s : State) : State :=
  let b := mbxOf s m
  let s := count 0x068 (modMbx m (fun x => { x with oFull := false, hostErr := if err then satAdd 8 x.hostErr 1 else x.hostErr }) s)
  match b.outRest.isEmpty, b.outTag with
  | true, some t => freeTag (.mailbox m) t (modMbx m (fun x => { x with outTag := none }) s)
  | _, _ => s

/-- A write of MBX_OACK (R90). -/
def writeOack (m v : Nat) (s : State) : State :=
  let b := mbxOf s m
  if !b.oFull || bits v 8 8 != b.oSeq then modMbx m (fun x => { x with seqErr := satAdd 8 x.seqErr 1 }) s
  else if bits v 0 8 == 0x80 then
    let y := nextSeq b.oSeq s
    let s := modMbx m (fun x => { x with oSeq := y.1, odb := x.odb ||| 1 }) y.2
    twinMail m (olenWord (mbxOf s m)) (b.outBuf.take b.oLen) s
  else releaseOut m (bits v 0 8 != 0) s

/-- MBX_OACK (R90). -/
def execMbxOack (mailbox value : Nat) (s : State) : Host.Outcome State Fault Refusal :=
  if 16 ≤ mailbox || s.boot.stage == 0 then .next s
  else signalled (if mbxOpen s mailbox then writeOack mailbox value s else mbxViolation mailbox s)

/-- MBX_AGED (R90): a message has been posted for 1 s. -/
def execMbxAged (mailbox : Nat) (s : State) : Host.Outcome State Fault Refusal :=
  if mailbox < 16 && (mbxOf s mailbox).oFull then signalled (count 0x06A (modMbx mailbox (fun b => { b with odb := b.odb ||| 4 }) s)) else .next s

/-! ### The service port (R420) -/

/-- SERVICE_CONNECTION_OPEN (R420): a connection attempt on the service port; while one is open, it is answered with a reset. -/
def execServiceConnectionOpen (s : State) : Host.Outcome State Fault Refusal :=
  if s.paths.serviceOpen || !taking s then .next s
  else .next (modPaths (fun x => { x with serviceOpen := true, serviceConn := x.serviceConn + 1 }) s)

/-- SERVICE_CONNECTION_CLOSE (R420): replies of commands already taken are not sent. -/
def execServiceConnectionClose (s : State) : Host.Outcome State Fault Refusal := .next (modPaths (fun x => { x with serviceOpen := false }) s)

/-- SERVICE_PACKET (R420): a packet of the open connection, master 2. Behind a full intake stile the TCP window is closed, and no packet
arrives (R112). One that fails check 2 ends the connection after its reply. -/
def execServicePacket (b : List Byte) (s : State) : Host.Outcome State Fault Refusal :=
  if !s.paths.serviceOpen || !taking s || intakeFull s 2 then .next s
  else
    let p := parsePacket (.service s.paths.serviceConn) b
    match intakeCheck s p with
    | none => .next (enqueue p s)
    | some st =>
      let s := refuse p st s
      let lost := p.version == 3 && (p.received < 16 || p.length > 4080 || p.length + 16 != p.received)
      .next (if lost then modPaths (fun x => { x with serviceOpen := false }) s else s)

end Sys2Proof.Machine
end

