-- ==== Sys2Proof/Machine/Ticks.lean ====
section
/-!
DEFINITION. Machine/Ticks.lean: the boundary that ends a tick, steps of TB_M, the issue step, the release of results, checkpoints, and
the replay's ticks (ch. 2).
-/
namespace Sys2Proof.Machine

/-! ### Held inputs (R25, R26) -/

/-- Change the clerk. -/
def modClerk (f : Clerk → Clerk) (s : State) : State := { s with clerk := f s.clerk }

/-- An input at the head of its source would be deferred now (R25). -/
def deferredHead (s : State) (w : Waiting) : Bool :=
  match w.body with
  | .raw _ => quotaSpent s (entryOf s w)
  | .command p => (opInfo p.opcode).any (·.w) && s.mode.lifecycle != 4 && !orderingClosed s && (dupOf s (masterOf s p.path) p.seq).isNone && quotaSpent s (entryOf s w)

/-- The inputs of a source in its stile and in its path's buffer ahead of it (R480). -/
def waitingAt (s : State) (cls index : Nat) : List Waiting :=
  (s.clerk.intake ++ s.paths.remoteQueue).filter (fun w => w.cls == cls && w.index == index)

/-- The inputs of a source that are held at a seal: all that wait, when the first is deferred (R25). -/
def heldAt (s : State) (cls index : Nat) : List Waiting :=
  match waitingAt s cls index with
  | [] => []
  | w :: r => if deferredHead s w then w :: r else []

/-- Every held input of a source has been held at one seal more. -/
def addHeld (cls index : Nat) (ws : List Waiting) : List Waiting :=
  ws.map (fun w => if w.cls == cls && w.index == index then { w with held := w.held + 1 } else w)

/-- One source at a seal: its held inputs, and its DEFER entry (R26). -/
def deferSource (s : State) (q : Quota) : State :=
  let ws := heldAt s q.cls q.index
  if ws.isEmpty then s
  else
    let oldest := ws.foldl (fun m (w : Waiting) => max m (w.held + 1)) 0
    let b := le 1 q.cls ++ le 1 q.index ++ le 2 ws.length ++ le 4 (sumBy (fun w => (entryOf s w).size) ws) ++ le 2 oldest ++ zeros 6
    let s := { s with clerk := { s.clerk with intake := addHeld q.cls q.index s.clerk.intake }, paths := { s.paths with remoteQueue := addHeld q.cls q.index s.paths.remoteQueue } }
    count 0x003 (placeClerk 0x0202 b s)

/-- The sources at a seal. -/
def deferSources (s : State) : State := s.ord.quotas.foldl deferSource s

/-- The clerk admits the held inputs of a source, in stile order; the fuel is how many wait. -/
def admitHeld (cls index : Nat) : Nat → State → State
  | 0, s => s
  | n + 1, s => match waitingAt s cls index with
    | [] => s
    | w :: _ =>
      let s' := acceptHead runWaiting cls index s
      if 0 < w.held && s'.clerk.intake.length != s.clerk.intake.length then admitHeld cls index n s' else s

/-- The held inputs of every source, after a seal (R25). -/
def admitSources (s : State) : State :=
  s.ord.quotas.foldl (fun s q => drainRemote (admitHeld q.cls q.index (waitingAt s q.cls q.index).length s)) s

/-- The clerk takes what waits of a source, as far as its quota goes; the fuel is how many wait. -/
def admitAll (cls index : Nat) : Nat → State → State
  | 0, s => s
  | n + 1, s => admitAll cls index n (acceptHead runWaiting cls index s)

/-! ### The seal (R20, R29, R30) -/

/-- The newest waybills that fit into the ring (64 MiB). -/
def trimRing (ws : List Waybill) : List Waybill :=
  (ws.foldr (fun (w : Waybill) (acc : List Waybill × Nat) => if acc.2 + w.size ≤ 67108864 then (w :: acc.1, acc.2 + w.size) else (acc.1, 67108865)) ([], 0)).1

/-- The PLAN_SWITCH entry of a waybill. -/
def switchOf (es : List Entry) : Option (List Byte) := (rawOf 0x0301 es).head?

/-- The open waybill with given entries, as it is sealed. -/
def closedWaybill (es : List Entry) (s : State) : Waybill :=
  { tick := s.clerk.tick, resume := s.clerk.resume, planChanged := (switchOf es).isSome, planGen := ((switchOf es).map (fun b => fld b 4 4)).getD s.ord.plan.gen
    prev := s.clerk.chain, entries := es }

/-- A sealed waybill joins the ring and the chain; contexts leave with the waybills they belong to, lines of R28 with their window. -/
def storeWaybill (w : Waybill) (s : State) : State :=
  let d := w.digest
  let ring := trimRing (s.clerk.ring ++ [w])
  let first := ((ring.head?).map (fun (x : Waybill) => x.tick)).getD 0
  let c := s.clerk
  { s with contexts := s.contexts.filter (fun x => first ≤ x.1)
           store := { s.store with badWaybills := s.store.badWaybills.filter (fun x => first ≤ x.1) }
           clerk := { c with resume := false, ring, chain := d, lastD := d, lastTick := w.tick, dups := c.dups.filter (fun (x : Dup) => w.tick + 1 < x.tick + 2400 || !x.released) } }

/-- The clerk's held entries enter the waybill just opened, as far as their limits go, oldest first (R27). -/
def releaseHeld (s : State) : State :=
  s.clerk.heldEntries.foldl (fun (s : State) (e : Entry) =>
    let mine := fun (x : Entry) => clerkGroup x.kind == clerkGroup e.kind && x.cls == 7
    if s.clerk.heldEntries.any mine || clerkLimit e.kind ≤ (s.clerk.open_.filter mine).length then modClerk (fun c => { c with heldEntries := c.heldEntries ++ [e] }) s
    else placeEntry { e with offset := 0 } s) (modClerk (fun c => { c with heldEntries := [] }) s)

/-! ### The computation of a sealed waybill (R22, R35, R36) -/

/-- What the computation sends to D10 and D9 goes into stiles 38 and 37. -/
def sendStiles (r : TickResult) (s : State) : State :=
  { s with drive := { s.drive with inbound := if r.drive.isEmpty then s.drive.inbound else s.drive.inbound ++ [(r.tick, r.drive)] }
           metro := { s.metro with inbound := if r.metro.isEmpty then s.metro.inbound else s.metro.inbound ++ [(r.tick, r.metro)] } }

/-- The first LUMINAIRE channel ungates D10, which starts anew. -/
def ungateDrive (before : Ordered) (s : State) : State :=
  if before.channels.any (fun c => hType c.handle == 5) || driveGated s then s else restartDrive s

/-- Channels newly tainted set WBL_STATUS.TAINT: kind 0x0506 (R36). -/
def noteTaints (before : Ordered) (tick : Nat) (s : State) : State :=
  (newTaints before s.ord).foldl (fun s h => gbk 0x0506 0xFF (le 4 h.toNat ++ le 8 tick) (modClerk (fun c => { c with taint := true }) s)) s

/-- The owners whose rebuild takes the place of the computation of a tick (R51). -/
def rebuiltFor (s : State) (tick : Nat) : List Handle := (s.inn.rebuilds.filter (fun r => r.since == tick)).map (·.handle)

/-- The owners whose computation of the tick reads poisoned data (R361): a finding since the last, a poisoned post, or a device computation
whose rebuild still waits. -/
def damagedOwners (s : State) : List Handle :=
  s.store.taint ++ s.store.postTaint ++ (s.inn.waiting.map (·.handle)).filter (fun h => hType h == 15)

/-- The computation of a sealed waybill: the ordered state after its tick and the results to be released. -/
def computeWaybill (w : Waybill) (d : Digest) (s : State) : State :=
  let x := contextOf s
  let before := s.ord
  let start : Calc := x.calc w.tick s.ord { s.early with tick := w.tick, d }
  let c := ({ start with entries := w.entries } : Calc).run (rebuiltFor s w.tick) (damagedOwners s)
  let s := { s with ord := c.ord, plan := c.plan, computed := s.computed ++ [(c.res, c.ord)], contexts := s.contexts ++ [(w.tick, x)], early := { tick := w.tick + 1 }, store := { s.store with taint := [], postTaint := [] } }
  let s := syncLodges before c.ord c.res.replies (sendStiles c.res s)
  noteTaints before w.tick (ungateDrive before s)

/-- The issue step on the newest computation (R153). -/
def issueLast (s : State) : State :=
  match s.computed.getLast? with
  | none => s
  | some (r, o) =>
    if r.issued then s
    else
      let x := lookD r.tick (contextOf s) s.contexts
      let c := (x.calc r.tick o r).issueNow
      { s with computed := s.computed.dropLast ++ [(c.res, c.ord)], ord := { s.ord with lanterns := c.ord.lanterns, backlog := c.ord.backlog } }

/-- ISSUE_STEP (R153). -/
def execIssueStep (s : State) : Host.Outcome State Fault Refusal := .next (issueLast s)

/-! ### The boundary (R20, Table 1) -/

/-- The waybill of the open tick is sealed with given entries, its tick computed and the next tick opened; `carry` are entries that go
on to the next waybill. -/
def closeTick (es carry : List Entry) (s : State) : State :=
  let w := closedWaybill es s
  let s := count 0x000 (storeWaybill w s)
  let s := modClerk (fun c => { c with open_ := carry, tick := w.tick + 1, offset := 0, long := false }) s
  let s := computeWaybill w s.clerk.lastD (releaseHeld (exportWaybill w.tick s))
  match s.computed.getLast? with
  | some (r, _) => r.clerk.foldl (fun s x => placeClerk x.1 x.2 s) s
  | none => s

/-- The slow slots that the computation has sampled (R185). -/
def sampledSlow (o : Ordered) : List Nat :=
  (o.loops.filter (fun x => x.cls == 1 && x.law != 0 && o.channels.any (fun c => c.handle == x.owner && c.sampling))).map (·.slot)

/-- The role changes that wait for a boundary (R392, R393). -/
def roleBoundary (s : State) : State :=
  let t := s.twin
  let s := if t.entering then setRole 1 (modTwin (fun t => { t with entering := false }) s) else s
  if t.losing && s.twin.role == 1 then
    let peer := ((s.twin.peer).map (fun (p : PeerInfo) => p.epoch)).getD 0
    resync 0 (gbk 0x1406 0xFF (le 4 s.twin.epoch ++ le 4 peer) (count 0x1EF (modTwin (fun t => { t with losing := false }) s)))
  else modTwin (fun t => { t with losing := false }) s

/-- What goes with a tick just opened: entries and switches of TB_M, held inputs, the AUTO snapshot, D9, traces of slow slots, wings that
restart. -/
def openTick (last : Nat) (s : State) : State :=
  let s := admitSources (tbmSwitch (placeTimeTick s))
  let s := if s.cnt.auto then takeSnapshot 1 s else s
  roleBoundary (moveRestarting (traceSample (sampledSlow s.ord) (metroBoundary last s)))

/-- What precedes a seal: the issue step if it is still due, the progress of sessions, and the DEFER entries. -/
def beforeSeal (s : State) : State :=
  let s := sessionProgress (issueLast s)
  deferSources (admitAll 6 0 (waitingAt s 6 0).length s)

/-- The boundary of a module whose clerk orders inputs. -/
def activeBoundary (s : State) : State :=
  let s := beforeSeal s
  let n := s.clerk.tick
  openTick n (closeTick s.clerk.open_ [] s)

/-- The boundary of a standby (R394, R397): its ticks count; its clerk orders nothing; METRO and DRIVE entries of its own D9 and D10 are
kept for 32 ticks. -/
def standbyBoundary (s : State) : State :=
  let n := s.clerk.tick
  let mine := (s.clerk.intake.filter (fun w => w.cls == 3 || w.cls == 5)).map (entryOf s)
  let s := modTwin (fun t => { t with kept := (t.kept ++ [(n, mine)]).filter (fun x => n < x.1 + 32) }) s
  let s := modClerk (fun c => { c with tick := n + 1, offset := 0, long := false, open_ := [], heldEntries := [], intake := c.intake.filter (fun (w : Waiting) => w.cls == 1) }) s
  let s := if s.cnt.auto then takeSnapshot 1 s else s
  moveRestarting (metroBoundary n s)

/-- The epoch that the new active of a handover will have (R392). -/
def nextEpoch (s : State) : Nat := (topEpoch s + 1) % 2 ^ 32

/-- The active's last boundary in a handover (R402): its waybill S − 1 ends with the HANDOVER entry, and it is READY from S on. -/
def handOver (at_ : Nat) (s : State) : State :=
  let peer := ((s.twin.peer).map (fun (p : PeerInfo) => p.serial)).getD 0
  let s := beforeSeal s
  let s := placeClerk 0x1002 (le 4 (nextEpoch s) ++ zeros 4 ++ le 8 at_ ++ le 8 peer) s
  let n := s.clerk.tick
  let s := modTwin (fun t => { t with handover := none }) (closeTick s.clerk.open_ [] s)
  let s := setRole 4 (modClerk (fun c => { c with open_ := [], heldEntries := [] }) s)
  let s := if s.cnt.auto then takeSnapshot 1 s else s
  metroBoundary n s

/-- The boundary that ends the open tick, in whatever role. -/
def boundary (s : State) : State :=
  if !s.clerk.running then s
  else if s.mode.role == 2 then standbyBoundary s
  else match s.twin.role, s.twin.handover with
    | 1, some t => if s.clerk.tick + 1 == t then handOver t s else activeBoundary s
    | _, _ => activeBoundary s

/-- TICK_BOUNDARY (R20): TB_M reaches the end of the open tick. `events`: what the stores show to the computations that start now (R352 to
R354, R365). -/
def execTickBoundary (events : List StoreEvent) (s : State) : Host.Outcome State Fault Refusal :=
  signalled (boundary (if s.clerk.running then events.foldl (fun s e => storeEvent e s) s else s))

/-! ### Steps of TB_M (R21, R322) -/

/-- A tick passed over: its waybill holds one TICK_SKIP entry and nothing else; what stands in the open waybill goes on to the next. -/
def skipTick (ns : Int) (s : State) : State :=
  let s := issueLast s
  let s := s.ord.quotas.foldl (fun (s : State) q =>
    if (heldAt s q.cls q.index).isEmpty then s
    else { s with clerk := { s.clerk with intake := addHeld q.cls q.index s.clerk.intake }, paths := { s.paths with remoteQueue := addHeld q.cls q.index s.paths.remoteQueue } }) s
  let e : Entry := { kind := 0x0204, cls := 7, index := 0, body := .raw (leS 8 ns) }
  closeTick [e] s.clerk.open_ (count 0x006 (count 0x001 s))

/-- Ticks are passed over one after the other. -/
def skipTicks (ns : Int) : Nat → State → State
  | 0, s => s
  | k + 1, s => skipTicks ns k (skipTick ns s)

/-- A forward step at 243,750 µs of the open tick: with `k` boundaries crossed, the open tick is sealed as usual and the k − 1 ticks passed
over after it are skipped. -/
def stepForward (ns : Int) (s : State) : State :=
  let us := 243750 + ns.toNat / 1000
  let k := us / 250000
  if k == 0 then modClerk (fun c => { c with offset := us }) s
  else
    let n := s.clerk.tick
    let s := beforeSeal s
    let s := skipTicks ns (k - 1) (closeTick s.clerk.open_ [] s)
    let s := if 2 ≤ k then gbk 0x0502 0xFF (le 8 (n + 1) ++ le 4 (k - 1)) s else s
    openTick n (modClerk (fun c => { c with offset := us % 250000 }) s)

/-- TBM_STEP (R322): the pending step is applied in slot 19 of the open tick; state LOCKED. -/
def execTbmStep (s : State) : Host.Outcome State Fault Refusal :=
  match s.time.pendingStep with
  | none => .next s
  | some (ns, cause) =>
    let s := count 0x189 { s with time := { s.time with pendingStep := none, bases := s.time.bases.map (fun (b : Base) => { b with o := b.o + ns * 65536 }) } }
    let s := setTbmState 3 s
    if !s.clerk.running || s.mode.role == 2 then
      let us : Int := (s.clerk.tick * 250000 + s.clerk.offset : Nat) + ns / 1000
      .next (modClerk (fun c => { c with tick := us.toNat / 250000, offset := us.toNat % 250000 }) s)
    else
      let s := if 0 ≤ ns then stepForward ns s else modClerk (fun c => { c with offset := max c.offset 243750, long := true }) s
      .next (placeTime 0x0B03 (leS 8 ns ++ le 1 3 ++ le 1 cause ++ zeros 6) s)

/-! ### What is emitted (R14, R207, R284, R292) -/

/-- The cyclic order of a leg's entries: from the entry that follows the largest gap, or the lowest number when gaps are equal
(R292). -/
def cyclic (es : List (Nat × Nat × Nat)) : List (Nat × Nat × Nat) :=
  let l := sortBy (fun (e : Nat × Nat × Nat) => e.1) es
  let last := ((l.getLast?).map Prod.fst).getD 0
  let gaps := (l.zip ((last, 0, 0) :: l)).map (fun (x : (Nat × Nat × Nat) × (Nat × Nat × Nat)) => if x.2.1 < x.1.1 then x.1.1 - x.2.1 else x.1.1 + 8192 - x.2.1)
  let best := gaps.foldl max 0
  let i := gaps.idxOf best
  l.drop i ++ l.take i

/-- The owners whose outputs a rebuild withholds for a tick (R51, R361): groups, and the device computations. -/
def withheldFor (s : State) (tick : Nat) : List Handle :=
  (s.inn.rebuilds.filter (fun b => b.since ≤ tick && (hType b.handle == 15 || (chanOf s.rel b.handle).any (fun c => c.state == .running)))).map (·.handle)

/-- The owner whose rebuild withholds an entry, when one does: its group, else the issue step. -/
def holderOf (s : State) (held : List Handle) (partner : Nat) : Option Handle :=
  match (look partner s.ord.members).filter held.contains with
  | some h => some h
  | none => if held.contains (compOwner 0) then some (compOwner 0) else none

/-- The field-frame entries of a result that go out (R14): not those that a rebuild withholds. -/
def fieldOut (s : State) (r : TickResult) : List (Nat × Nat × Nat × Nat) :=
  r.field.filter (fun x => (holderOf s (withheldFor s r.tick) x.2.1).isNone)

/-- Entries go to the radios for leg `tick + 2`, and those of lead lanterns to D10 (R14, R207). -/
def fieldEntries (tick : Nat) (es : List (Nat × Nat × Nat × Nat)) (s : State) : State :=
  let radio := fun (s : State) (q : Nat) =>
    let mine := (es.filter (fun x => x.1 == q)).map (fun x => (x.2.1, x.2.2.1, x.2.2.2))
    modSeq q (fun (y : Sequencer) => { y with field := put (tick + 2) (cyclic (lookD (tick + 2) [] y.field ++ mine)) (y.field.filter (fun x => s.clerk.tick ≤ x.1)) }) s
  let leads := s.ord.channels.filterMap (fun (c : Channel) => match c.body with | .luminaire x => if x.num.isSome then some x.lead else none | _ => none)
  let s := [0, 1, 2, 3].foldl radio s
  { s with drive := { s.drive with entries := s.drive.entries ++ (es.filter (fun x => leads.contains x.2.1)).map (fun x => (x.2.1, tick + 3, x.2.2.1, x.2.2.2)) } }

/-- What of a result goes out (R14). -/
def emitField (r : TickResult) (s : State) : State := fieldEntries r.tick (fieldOut s r) s

/-- Downlink frames reach the radios' queues. -/
def queueDown (fs : List (Nat × DownFrame)) (s : State) : State :=
  fs.foldl (fun s x => modSeq x.1 (fun q => { q with down := q.down ++ [{ x.2 with queued := s.clerk.tick }] }) s) s

/-- The downlink frames of a result, unless the partner step's rebuild withholds them. -/
def emitDown (r : TickResult) (s : State) : State := if (withheldFor s r.tick).contains (compOwner 1) then s else queueDown r.down s

/-- The powers of TX_POWER_SET apply (R285). -/
def emitPowers (r : TickResult) (s : State) : State := r.powers.foldl (fun s x => modSeq x.1 (fun q => { q with bcast := x.2.1, ucast := x.2.2 }) s) s

/-- A late result (R22): counted and recorded for each channel; nothing of it goes on the air, and its downlink frames end without an
acknowledgement. -/
def lateResult (r : TickResult) (s : State) : State :=
  let hs := if r.channels.isEmpty then [deviceHandle] else r.channels
  let s := hs.foldl (fun (s : State) h => gbk 0x0501 0xFF (le 4 h.toNat ++ le 8 r.tick) (count 0x005 (modClerk (fun c => { c with late := true, lateCnt := satAdd 32 c.lateCnt 1 }) s))) s
  r.down.foldl (fun s x => finishDown x.1 1 x.2 s) s

/-! ### Checkpoints (R33) -/

/-- Keep the table of R28 as it stands after a tick. -/
def dupsAt (tick : Nat) (s : State) : List Dup := s.clerk.dups.filter (fun d => d.tick ≤ tick)

/-- A checkpoint of the state after a tick. Its digest covers an image whose bytes the spec does not lay out: a free value. -/
def makeCkpt (tick : Nat) (chain : Digest) (o : Ordered) (installed : Bool) (s : State) : State × Checkpoint :=
  let y := drawFree s
  (y.2, { tick, ord := o, dups := (dupsAt tick s).map (fun (d : Dup) => { d with waiters := [] }), chain, digest := BitVec.ofNat 256 y.1, fw := fwVector s, format := (runningSet s).format, installed })

/-- The checkpoint region of the working store is in service. -/
def ckptRoom (s : State) : Bool := s.store.regions.any (fun r => r.state == 1 && r.area == 1)

/-- The checkpoint due after a tick, if one is (R33). -/
def takeCkpt (r : TickResult) (o : Ordered) (s : State) : State :=
  if (r.tick + 1) % 240 != 0 then s
  else if !ckptRoom s then gbk 0x0504 0xFF (le 8 r.tick ++ le 1 0) (count 0x008 (modClerk (fun c => { c with ckptFail := true }) s))
  else
    let y := makeCkpt r.tick r.d o false s
    let s := count 0x007 { y.1 with ckpts := lastN 11 (y.1.ckpts ++ [y.2]) }
    if (r.tick + 1) % 2400 == 0 then { s with saved := lastN 2 (s.saved ++ [y.2]) } else s

/-! ### The release (R22) -/

/-- The digest records kept: 62 days (R32). -/
def addRecord (d : DigestRec) (s : State) : State := modClerk (fun c => { c with records := lastN 21427200 (c.records ++ [d]) }) s

/-- The standby compares the digests of a tick once both are known (R398). -/
def compareTwin (tick : Nat) (s : State) : State :=
  match s.twin.records.find? (fun r => r.tick == tick), (s.clerk.records.reverse.find? (fun r => r.tick == tick)) with
  | some theirs, some ours =>
    let s := modTwin (fun t => { t with records := t.records.filter (fun r => r.tick != tick), lastCompared := max t.lastCompared tick }) s
    if theirs.tainted || ours.tainted then count 0x1E9 s
    else
      let s := count 0x1E8 s
      if theirs.d == ours.d && theirs.o == ours.o then s
      else
        let s := gbk 0x1402 0xFF (le 8 tick ++ le 1 (if theirs.d == ours.d then 1 else 0)) (count 0x1EA (modTwin (fun t => { t with mismatch := true, mismatches := satAdd 32 t.mismatches 1 }) s))
        if s.twin.role == 4 then resync 0 s else s
  | _, _ => s

/-- The items of the streams for a released tick (R115): its changes, its results, its waybill and its digest record. -/
def streamOut (r : TickResult) (o : Ordered) (rec : DigestRec) (s : State) : State :=
  let w := (s.clerk.ring.find? (fun (w : Waybill) => w.tick == r.tick)).map (·.bytes)
  let items := r.streamItems ++ changeItems s.rel o ++ (match w with | some b => [(0x0201, 0, b)] | none => []) ++ [(0x0202, 0, le 8 r.tick ++ digestBytes rec.d ++ digestBytes rec.o)]
  produce o r.tick items (syncStreams s.rel o s)

/-- The final reply of a PLAN_COMMIT that began the preparation has gone: the time of the preparation counts from here. -/
def commitReplied (r : TickResult) (s : State) : State :=
  if s.plan.state == 2 && s.plan.replied == 0 && r.replies.any (fun a => a.packet.opcode == 0x0303 && a.status == Status.ok.code) then { s with plan := { s.plan with replied := s.uptime } } else s

/-- The results of a tick are released, in time or late. -/
def releaseResult (r : TickResult) (o : Ordered) (s : State) : State :=
  let standby := s.mode.role == 2
  let late := decide (r.tick + 1 < s.clerk.tick)
  let s := r.counts.foldl (fun s c => countN c.1 c.2 s) s
  let s := r.noted.foldl (fun s d => gbk d.kind d.master d.detail s) (r.derived.foldl (fun s d => gbkDerived r.tick d s) s)
  let rec_ : DigestRec := { tick := r.tick, d := r.d, o := r.output, tainted := r.tainted }
  let s := exportRecord rec_ (addRecord rec_ s)
  let s := commitReplied r ((orderedReplies r).foldl (fun s a => releaseReply a s) s)
  let s := if late then (if standby then s else lateResult r s) else if standby then s else emitDown r (emitField r s)
  let s := { emitPowers r s with vault := { s.vault with requests := s.vault.requests ++ r.vault } }
  let held := withheldFor s r.tick
  let mine := fun (h : Handle) => ({ tick := r.tick, entries := r.field.filter (fun x => holderOf s held x.2.1 == some h), frames := if h == compOwner 1 then r.down else [] } : Withheld)
  let s := { s with inn := { s.inn with rebuilds := s.inn.rebuilds.map (fun (b : Rebuild) => if held.contains b.handle && !late then { b with withheld := b.withheld ++ [mine b.handle] } else b) } }
  let s := if standby then s else streamOut r o rec_ s
  compareTwin r.tick (takeCkpt r o { s with rel := o, relTick := r.tick })

/-- RESULT_RELEASE (R22, R31, R32): the oldest results not yet released. The newest cannot go before the issue step of their tick. -/
def execResultRelease (s : State) : Host.Outcome State Fault Refusal :=
  let s := if s.computed.length ≤ 1 then issueLast s else s
  signalled (match s.computed with
    | [] => s
    | (r, o) :: rest => releaseResult r o { s with computed := rest })

/-! ### REPLAY (R37, R38) -/

/-- Change the replay job. -/
def modReplay (f : Replay → Replay) (s : State) : State := modClerk (fun c => { c with replay := f c.replay }) s

/-- The ramp records at a skipped boundary that opens tick `n` (R412): both steps of R150. -/
def skipRecords (n : Nat) (o : Ordered) : Ordered :=
  { o with lanterns := o.lanterns.map (fun (x : Nat × Lantern) => (x.1, { x.2 with record := x.2.record.map (LevelRec.boundary n) })) }

/-- A replay ends when its last tick is done (R38). -/
def endReplay (s : State) : State :=
  let r := s.clerk.replay
  if r.state == 1 && r.last < r.next then modReplay (fun r => { r with state := if r.mismatches == 0 then 3 else 4 }) s else s

/-- A mismatch of a tick, with kind bits 0 D and 1 O, and the first differing section, which only a recorded record could tell. -/
def replayMismatch (tick kind : Nat) (s : State) : State :=
  let y := drawFree s
  let s := modClerk (fun c => { c with replayMismatch := true }) y.2
  let s := modReplay (fun r => { r with mismatch := if r.mismatches == 0 then kind else r.mismatch, section_ := if r.mismatches == 0 then (if bit kind 1 then y.1 % 2 ^ 16 else 0) else r.section_, mismatchTick := if r.mismatches == 0 then tick else r.mismatchTick, mismatches := satAdd 32 r.mismatches 1 }) s
  let s := gbk 0x0505 0xFF (le 4 s.clerk.replay.job ++ le 8 tick ++ le 1 kind) s
  if s.clerk.replay.mode == 0 then modReplay (fun r => { r with state := 4 }) s else s

/-- One waybill is recomputed and compared with its digest record. Ticks before the range only bring the state up to it. -/
def replayWaybill (w : Waybill) (s : State) : State :=
  let x := lookD w.tick (contextOf s) s.contexts
  let d := w.digest
  let c := recompute x w d s.replayOrd
  let s := { s with replayOrd := c.ord }
  let r := s.clerk.replay
  if w.tick < r.first then s
  else
    let s := count 0x009 (modReplay (fun r => { r with done := r.done + 1 }) s)
    if s.store.logBad.contains (.digest w.tick) then logReadFails (.digest w.tick) s
    else match s.clerk.records.reverse.find? (fun (y : DigestRec) => y.tick == w.tick) with
    | none => s
    | some y =>
      let skip := y.tainted || c.res.tainted
      let differs := c.res.output != y.o
      let s := if skip && differs then count 0x00B s else s
      let kind := b2n (d != y.d) + 2 * b2n (!skip && differs)
      if kind == 0 then s else replayMismatch w.tick kind s

/-- REPLAY_TICK (R37, R38): the next tick of the running replay. -/
def execReplayTick (s : State) : Host.Outcome State Fault Refusal :=
  .next (if s.clerk.replay.state != 1 then s
    else
      let t := s.clerk.replay.next
      let s := modReplay (fun r => { r with next := t + 1 }) s
      match s.clerk.ring.find? (fun (w : Waybill) => w.tick == t) with
      | some w => if s.store.badWaybills.any (fun (x : Nat × Nat) => x.1 == t) then abortReplay 1 s else endReplay (replayWaybill w s)
      | none =>
        if inGap s.clerk t then
          endReplay (modReplay (fun r => if r.first ≤ t then { r with done := r.done + 1 } else r) { s with replayOrd := skipRecords (t + 1) s.replayOrd })
        else abortReplay 1 s)

end Sys2Proof.Machine
end

