-- ==== Sys2Proof/Machine/Registers.lean ====
section
/-!
DEFINITION. Machine/Registers.lean: the host window: what a read of each register returns, what a write of each does (R8, R10, R39,
R73, R434).
-/
namespace Sys2Proof.Machine

/-! ### Stiles (R61 to R66, Table 10) -/

/-- Producer domain, consumer domain, depth in words, and whether the consumer is privileged, of each stile (Table 10). -/
def stileRows : List (Nat × Nat × Nat × Bool) :=
  [(6, 1, 512, false), (6, 1, 512, false), (7, 1, 512, false), (7, 1, 512, false)] ++ List.replicate 3 (1, 1, 256, false) ++ List.replicate 2 (8, 1, 256, false) ++
    [(9, 1, 256, false), (8, 1, 64, false), (10, 1, 64, false), (5, 1, 128, false), (1, 2, 256, false), (1, 3, 256, false), (1, 4, 256, false)] ++
    [(2, 1, 128, true), (3, 1, 128, true), (4, 1, 128, true), (2, 3, 512, false), (2, 4, 512, false), (3, 2, 512, false), (3, 4, 512, false), (4, 2, 512, false), (4, 3, 512, false)] ++
    [(2, 5, 256, false), (3, 5, 256, false), (4, 5, 256, false), (5, 2, 512, false), (5, 3, 512, false), (5, 4, 512, false), (1, 5, 256, false), (5, 1, 256, false)] ++
    [(1, 6, 512, false), (1, 7, 512, false), (1, 8, 512, false), (1, 8, 256, false), (1, 9, 64, false), (1, 10, 128, false), (10, 1, 128, false), (1, 11, 64, true), (11, 1, 64, true)] ++
    [(1, 0, 128, true), (0, 1, 32, true), (1, 0, 32, false), (6, 1, 64, true), (7, 1, 64, true), (8, 1, 256, false)]

/-- The row of a stile. -/
def stileRow (k : Nat) : Nat × Nat × Nat × Bool := (stileRows[k]?).getD (0, 0, 0, false)

/-- The words an input takes in its stile. -/
def waitingWords (w : Waiting) : Nat := match w.body with | .command p => stileWords p | .raw b => (b.length + 7) / 8

/-- The inputs that stand in an intake stile, or ahead of it (Table 10). -/
def stileInputs (s : State) (k : Nat) : List Waiting :=
  let of_ := fun (cls index : Nat) => s.clerk.intake.filter (fun (w : Waiting) => w.cls == cls && w.index == index)
  if k < 4 then of_ 2 k else if k < 9 then of_ 1 (k - 4) else if k == 9 then of_ 3 0 else if k == 10 then of_ 4 0 else if k == 11 then of_ 5 0 else if k == 12 then of_ 6 0 else []

/-- Words and packets in a stile; packets hold at most 32 words (R61). What passes a stile within one row of the table never stands in
it. -/
def stileLoad (s : State) (k : Nat) : Nat × Nat :=
  let depth := (stileRow k).2.2.1
  let ws := (stileInputs s k).map waitingWords
  (min depth (sumBy id ws), if k < 13 then sumBy (fun w => (w + 31) / 32) ws else 0)

/-- STILE_FILL. -/
def stileFill (s : State) (k : Nat) : Nat :=
  let l := stileLoad s k
  l.1 + 2 ^ 10 * (l.2 % 1024) + 2 ^ 20 * b2n (l.1 == 0) + 2 ^ 21 * b2n (l.1 == (stileRow k).2.2.1)

/-- Change a stile's diagnostics. -/
def modStile (k : Nat) (f : Stile → Stile) (s : State) : State := { s with inn := { s.inn with stiles := modAt s.inn.stiles k f } }

/-- A register of a stile's block. -/
def stileReg (s : State) (k reg : Nat) : Nat :=
  let x := (s.inn.stiles[k]?).getD {}
  let r := stileRow k
  match reg with
  | 0x00 => k + 2 ^ 8 * r.1 + 2 ^ 12 * r.2.1 + 2 ^ 16 * r.2.2.1 + 2 ^ 26 * b2n r.2.2.2
  | 0x04 => stileFill s k
  | 0x08 => x.hwm
  | 0x0C => x.flags % 16
  | 0x10 => x.corrected
  | 0x14 => x.uncorrectable
  | 0x18 => x.underruns
  | 0x1C => x.stalls
  | 0x20 => x.packets
  | _ => 0

/-- The sum registers of the stiles: bits of 48 stiles, low or high half. -/
def stileSum (s : State) (mask : Nat) (high : Bool) : Nat :=
  let v := packBits (s.inn.stiles.map (fun (x : Stile) => x.flags &&& mask != 0))
  if high then bits v 32 16 else bits v 0 32

/-! ### Reads -/

/-- Identity and global control. -/
def readGlobal (s : State) (off : Nat) : Nat :=
  match off with
  | 0x00 => devId
  | 0x04 => bits Config.unitSerial.toNat 0 32
  | 0x08 => bits Config.unitSerial.toNat 32 32
  | 0x0C => fwSet s
  | 0x10 => b2n s.host.hostsel + 2 * b2n s.host.bootsel + 4 * s.host.speed + 2 ^ 8 * s.host.msi
  | 0x14 => b2n s.mode.ready + 2 * b2n s.mode.coppice + 4 * b2n s.clerk.running + 8 * b2n s.host.bindLocked + 16 * s.mode.role
  | 0x18 => s.host.globalCtl
  | 0x1C => s.host.scratch
  | 0x20 => s.host.inkBeat
  | _ => 0

/-- Interrupts and alerts. -/
def readInt (s : State) (off : Nat) : Nat :=
  match off with
  | 0x100 => intStatus s
  | 0x104 => s.host.intEnable
  | 0x108 => alertStatus s
  | 0x10C => s.host.alertEnable
  | _ => 0

/-- Two 16-bit fields, low and high. -/
def halves (lo hi : Nat) : Nat := lo % 2 ^ 16 + 2 ^ 16 * (hi % 2 ^ 16)

/-- Supply and thermal status. -/
def readSupply (s : State) (off : Nat) : Nat :=
  let x := s.supply
  let mv := fun (k : Nat) => (x.mv[k]?).getD 0
  let t := fun (k : Nat) => ofSigned 16 (((temperatures s)[k]?).getD 0)
  match off with
  | 0x200 => supplyStatusReg s
  | 0x204 => x.flags
  | 0x208 => pfwStatusReg s
  | 0x20C => halves (mv 0) (mv 1)
  | 0x210 => halves (mv 2) (mv 3)
  | 0x214 => t 0
  | 0x218 => halves (t 1) (t 2)
  | 0x21C => halves (t 3) (t 4)
  | 0x220 => x.stage + 4 * x.hot + 16 * b2n x.derate + 2 ^ 8 * x.seen
  | 0x224 => poweredMask s
  | _ => 0

/-- The registers of a ring. -/
def readRing (s : State) (r reg : Nat) : Nat :=
  let x := ringOf s r
  match reg with
  | 0x00 => b2n x.enable + 2 * b2n x.irqEn + 2 ^ 8 * x.modCount + 2 ^ 16 * x.modUs
  | 0x04 => x.cmdLo
  | 0x08 => x.cmdHi
  | 0x0C => x.cmpLo
  | 0x10 => x.cmpHi
  | 0x14 => x.cmdTail
  | 0x18 => x.cmdHead
  | 0x1C => x.cmpHead
  | 0x20 => x.cmpTail + 2 ^ 7 * b2n x.phase
  | 0x24 => ringTags s r + 2 ^ 7 * b2n (ringActive s r) + 2 ^ 8 * b2n x.dmaErr + 2 ^ 9 * b2n x.descErr + 2 ^ 10 * b2n (ringFull x)
  | 0x28 => x.errSlot
  | _ => 0

/-- The registers of a mailbox. -/
def readMbx (s : State) (m reg : Nat) : Nat :=
  let b := mbxOf s m
  match reg with
  | 0x00 => b.masterA + 2 ^ 4 * b.masterB + 2 ^ 8 * b2n (mbxOpen s m)
  | 0x04 => ilenWord b
  | 0x08 => b2n b.post
  | 0x0C => iackWord b
  | 0x10 => olenWord b
  | 0x14 => b.odb
  | 0x18 => b.omask
  | 0x20 => b.ignored + 2 ^ 8 * b.seqErr + 2 ^ 16 * b.hostErr + 2 ^ 24 * min 7 (mbxFlights s m)
  | _ => 0

/-- The Guestbook window. -/
def readGbk (s : State) (off : Nat) : Nat :=
  let g := s.gbk
  match off with
  | 0x2100 => b2n g.freeze + 2 * b2n g.autoInc
  | 0x2104 => g.status
  | 0x2108 => g.sel
  | 0x210C => g.newestSeq
  | 0x2110 => g.oldestSeq
  | 0x2114 => g.lost
  | 0x2118 => g.clearedTo
  | _ => if 0x2140 ≤ off && off < 0x2180 then fld g.data (off - 0x2140) 4 else 0

/-- The count that CNT_VAL shows (R434). -/
def cntValue (c : CountersTest) (k : Nat) : Nat :=
  if c.view then ((c.snap.values[k]?).map Prod.snd).getD 0 else ((c.counters[k]?).map (·.count)).getD 0

/-- The counter block and the test multiplexer. -/
def readCnt (s : State) (off : Nat) : Nat :=
  let c := s.cnt
  match off with
  | 0x2200 => 4 * b2n c.auto + 8 * b2n c.view
  | 0x2204 => c.ovf
  | 0x2208 => bits c.snap.tick 0 32
  | 0x220C => bits c.snap.tick 32 32
  | 0x2210 => min c.snap.offset 0x3FFFF + 2 ^ 18 * c.snap.cause + 2 ^ 20 * b2n c.snap.valid
  | 0x2214 => c.snap.ovf
  | 0x2400 => b2n (muxFree s || muxLeased s) + 2 * b2n (muxLeased s) + 2 ^ 8 * leaseLeft s
  | 0x2414 => c.muxDiv
  | 0x2418 => c.muxSlot
  | _ =>
    if 0x2280 ≤ off && off < 0x2300 then match c.counters[(off - 0x2280) / 4]? with | some x => x.source + 2 ^ 9 * b2n x.en | none => 0
    else if 0x2300 ≤ off && off < 0x2400 then
      let v := cntValue c ((off - 0x2300) / 8)
      if off % 8 == 0 then bits v 0 32 else bits v 32 16
    else if 0x2404 ≤ off && off < 0x2414 then (c.muxSel[(off - 0x2404) / 4]?).getD 0
    else 0

/-- Any source holds deferred inputs (WBL_STATUS.DEFER_ACTIVE). -/
def deferActive (s : State) : Bool := s.clerk.intake.any (fun (w : Waiting) => w.held != 0) || s.paths.remoteQueue.any (fun (w : Waiting) => w.held != 0) || s.ord.quotas.any (fun q => !(heldAt s q.cls q.index).isEmpty)

/-- Bytes of the open waybill (R29). -/
def openBytes (s : State) : Nat := 64 + sumBy Entry.size s.clerk.open_

/-- Tick and waybill status. -/
def readWbl (s : State) (off : Nat) : Nat :=
  let c := s.clerk
  match off with
  | 0x2800 => bits (tickNow s) 0 32
  | 0x2804 => bits (tickNow s) 32 32
  | 0x2808 => if c.running then min c.offset 262143 + 2 ^ 18 * (c.tick % 4) + 2 ^ 20 + 2 ^ 21 * b2n c.long else 0
  | 0x280C => if c.running then c.open_.length + 2 ^ 17 * ((openBytes s + 1023) / 1024) else 0
  | 0x2810 => b2n (deferActive s) + 2 * b2n c.late + 4 * b2n c.taint + 8 * b2n c.replay.busy + 16 * b2n c.replayMismatch + 32 * b2n c.ckptFail + 64 * b2n (decide (c.ring.length < 2400)) + 128 * b2n c.resumed
  | 0x2814 => c.deferCnt
  | 0x2818 => c.lateCnt
  | 0x2840 => bits c.lastTick 0 32
  | 0x2844 => bits (((s.ckpts.getLast?).map (fun (x : Checkpoint) => x.tick)).getD 0) 0 32
  | 0x2848 => bits (((c.ring.head?).map (fun (w : Waybill) => w.tick)).getD 0) 0 32
  | _ => if 0x2820 ≤ off && off < 0x2840 then bits c.lastD.toNat (8 * (off - 0x2820)) 32 else 0

/-- Stile diagnostics. -/
def readStile (s : State) (off : Nat) : Nat :=
  if off < 0x3C00 then stileReg s ((off - 0x3000) / 0x40) (off % 0x40)
  else match off with
  | 0x3C00 => stileSum s 1 false
  | 0x3C04 => stileSum s 1 true
  | 0x3C08 => stileSum s 6 false
  | 0x3C0C => stileSum s 6 true
  | 0x3C10 => s.inn.threshold
  | 0x3C14 => s.inn.evsel
  | _ => 0

/-- The live value of a register whose read has no effect; 0 where no register stands (R10). -/
def readPlain (s : State) (off : Nat) : Nat :=
  if off < 0x100 then readGlobal s off
  else if off < 0x200 then readInt s off
  else if off < 0x300 then readSupply s off
  else if off < 0x400 then 0
  else if off < 0x800 then (if s.host.hostsel then 0 else readRing s ((off - 0x400) / 0x100) (off % 0x100))
  else if off < 0x1000 then 0
  else if off < 0x1400 then readMbx s ((off - 0x1000) / 0x40) (off % 0x40)
  else if off == 0x1600 then s.host.mbxWin
  else if off == 0x1604 then mbxSum s.host
  else if off == 0x1608 then b2n s.host.bindLocked + 2 * b2n s.host.violation
  else if off == 0x2000 then rtcStatus s.rtc
  else if off == 0x2024 then s.rtc.stgTime
  else if off == 0x2028 then s.rtc.stgDate
  else if off == 0x202C then s.rtc.trim % 2 ^ 16
  else if off == 0x2030 then s.rtc.wakePeriod + 2 ^ 25 * b2n s.rtc.wakenEn
  else if off == 0x2034 then s.rtc.vbatMv
  else if off < 0x2100 then 0
  else if off < 0x2200 then readGbk s off
  else if off < 0x2500 then readCnt s off
  else if 0x2800 ≤ off && off < 0x2900 then readWbl s off
  else if 0x3000 ≤ off && off < 0x4000 then readStile s off
  else 0

/-- Bytes of an aperture (R85): those of a closed mailbox read 0. -/
def readAperture (off size : Nat) (s : State) : Nat × State :=
  let m := s.host.mbxWin
  let b := mbxOf s m
  if mbxOpen s m then (if off < 0x1500 then fld b.inBuf (off - 0x1400) size else fld b.outBuf (off - 0x1500) size, s) else (0, mbxViolation m s)

/-- A read of a tick or digest register with its shadow (R39). -/
def readShadowed (off : Nat) (s : State) : Nat × State :=
  let c := s.clerk
  if off == 0x2800 then (readWbl s off, modClerk (fun c => { c with tickShadow := some (readWbl s 0x2804) }) s)
  else if off == 0x2804 then (c.tickShadow.getD (readWbl s 0x2804), modClerk (fun c => { c with tickShadow := none }) s)
  else if off == 0x2820 then (readWbl s off, modClerk (fun c => { c with digestShadow := some (c.lastD, c.lastTick) }) s)
  else
    let x := c.digestShadow.getD (c.lastD, c.lastTick)
    if off == 0x2840 then (bits x.2 0 32, modClerk (fun c => { c with digestShadow := none }) s)
    else (bits x.1.toNat (8 * (off - 0x2820)) 32, s)

/-- A read of CNT_VAL with its shadow (R434). -/
def readCntVal (off : Nat) (s : State) : Nat × State :=
  let k := (off - 0x2300) / 8
  let v := readCnt s off
  if off % 8 == 0 then (v, modCnt (fun c => { c with valShadow := some (k, bits (cntValue c k) 32 16) }) s)
  else match s.cnt.valShadow with
    | some (j, h) => if j == k then (h, modCnt (fun c => { c with valShadow := none }) s) else (v, s)
    | none => (v, s)

/-- A 32-bit read of a register with its effect. -/
def readReg (off : Nat) (s : State) : Nat × State :=
  if 0x2008 ≤ off && off ≤ 0x2020 then rtcRead ((off - 0x2008) / 4) s
  else if off == 0x217C then (readGbk s off, if s.gbk.autoInc then loadSel ((s.gbk.sel + 1) % 2 ^ 32) s else s)
  else if 0x2300 ≤ off && off < 0x2400 then readCntVal off s
  else if off == 0x2800 || off == 0x2804 || (0x2820 ≤ off && off ≤ 0x2840) then readShadowed off s
  else (readPlain s off, s)

/-- The offset lies in a mailbox aperture. -/
def inAperture (off : Nat) : Bool := 0x1400 ≤ off && off < 0x1600

/-- An access of `size` bytes that the host link admits (R72, R73): 32 bits and aligned, or, over PCI Express, 8 and 16 bits in the
apertures. -/
def goodAccess (s : State) (off size : Nat) : Bool :=
  off < 0x10000 && (size == 4 || ((size == 1 || size == 2) && inAperture off && !s.host.hostsel)) && off % size == 0

/-- A malformed access (R72, R73). -/
def badAccess (s : State) : State := count 0x06E (modHost (fun h => { h with spiError := h.spiError || h.hostsel, readValue := 0 }) s)

/-- REGISTER_SHADOW_READ (R39, R434, R8, R10): a host read at an offset of the window; the value stands in `readValue`. -/
def execRegisterShadowRead (offset size : Nat) (s : State) : Host.Outcome State Fault Refusal :=
  if s.boot.stage == 0 then .next s
  else if !goodAccess s offset size then signalled (badAccess s)
  else
    let y := if inAperture offset then readAperture offset size s else readReg offset s
    signalled (modHost (fun h => { h with readValue := y.1 }) y.2)

/-- SHADOW_TIMEOUT (R39, R434): 1 ms after the read at that offset loaded its shadow. -/
def execShadowTimeout (offset : Nat) (s : State) : Host.Outcome State Fault Refusal :=
  if offset == 0x2800 then .next (modClerk (fun c => { c with tickShadow := none }) s)
  else if offset == 0x2820 then .next (modClerk (fun c => { c with digestShadow := none }) s)
  else if 0x2300 ≤ offset && offset < 0x2400 then
    .next (modCnt (fun c => { c with valShadow := match c.valShadow with | some (k, h) => if k == (offset - 0x2300) / 8 then none else some (k, h) | none => none }) s)
  else .next s

/-! ### Writes -/

/-- The bits of `old` that a write of ones to `mask` leaves (W1C, R8). -/
def w1c (old v : Nat) : Nat := old - (old &&& v)

/-- A flag under W1C at a bit. -/
def w1cFlag (old : Bool) (v k : Nat) : Bool := old && !bit v k

/-- Identity, interrupts and alerts. -/
def writeGlobal (off v : Nat) (s : State) : State :=
  match off with
  | 0x18 => modHost (fun h => { h with globalCtl := v % 8 }) s
  | 0x1C => modHost (fun h => { h with scratch := v % 2 ^ 32 }) s
  | 0x100 => modHost (fun h => { h with intRing := w1c h.intRing (v % 16), readyChg := w1cFlag h.readyChg v 6 }) s
  | 0x104 => modHost (fun h => { h with intEnable := v % 2 ^ 7 }) s
  | 0x10C => modHost (fun h => { h with alertEnable := v % 2 ^ 18 }) s
  | 0x204 => modSupply (fun x => { x with flags := w1c x.flags (v % 2 ^ 11) }) s
  | 0x220 => modSupply (fun x => { x with seen := w1c x.seen (bits v 8 3) }) s
  | _ => s

/-- The registers of a ring: the bases only while it is disabled and inactive (R82). -/
def writeRing (r reg v : Nat) (s : State) : State :=
  let base := fun (f : Ring → Ring) => if ringActive s r then s else modRing r f s
  match reg with
  | 0x00 => writeRingCtl r v s
  | 0x04 => base (fun x => { x with cmdLo := bits v 0 32 / 2048 * 2048 })
  | 0x08 => base (fun x => { x with cmdHi := bits v 0 32 })
  | 0x0C => base (fun x => { x with cmpLo := bits v 0 32 / 2048 * 2048 })
  | 0x10 => base (fun x => { x with cmpHi := bits v 0 32 })
  | 0x14 => writeCmdTail r v s
  | 0x1C => writeCmpHead r v s
  | 0x24 => modRing r (fun x => { x with dmaErr := w1cFlag x.dmaErr v 8, descErr := w1cFlag x.descErr v 9 }) s
  | _ => s

/-- The registers of a mailbox; a write to a closed one is a violation (R85). -/
def writeMbx (m reg v : Nat) (s : State) : State :=
  if 0x20 < reg then s else if !mbxOpen s m then mbxViolation m s
  else match reg with
  | 0x04 => modMbx m (setIlen v) s
  | 0x08 => writeIdb m v s
  | 0x14 => modMbx m (fun b => { b with odb := w1c b.odb (v % 2 ^ 32) }) s
  | 0x18 => modMbx m (fun b => { b with omask := v % 2 ^ 32 }) s
  | 0x1C => writeOack m v s
  | _ => s

/-- A write into an aperture (R86): ignored and counted while the message is pending; the outbound one is read only. -/
def writeAperture (off size v : Nat) (s : State) : State :=
  let m := s.host.mbxWin
  if !mbxOpen s m then mbxViolation m s
  else if 0x1500 ≤ off then s
  else modMbx m (fun b => if b.post then { b with ignored := satAdd 8 b.ignored 1 } else { b with inBuf := b.inBuf.take (off - 0x1400) ++ le size v ++ b.inBuf.drop (off - 0x1400 + size) }) s

/-- The calendar clock's registers; while BUSY is 1 the staging registers ignore writes (R342). -/
def writeRtc (off v : Nat) (s : State) : State :=
  let mod := fun (f : Rtc → Rtc) => { s with rtc := f s.rtc }
  match off with
  | 0x2000 => mod (fun r => { r with dateErr := w1cFlag r.dateErr v 4, setDenied := w1cFlag r.setDenied v 5, wake := w1cFlag r.wake v 8, wakeN := r.wakeN && !bit v 8, battUsed := w1cFlag r.battUsed v 10 })
  | 0x2004 =>
    let s := if bit v 0 then effRtcCommitWrite s else s
    if bit v 1 then { s with rtc := { s.rtc with shadow := none } } else s
  | 0x2024 => if rtcBusy s.rtc then s else mod (fun r => { r with stgTime := v % 2 ^ 32 })
  | 0x2028 => if rtcBusy s.rtc then s else mod (fun r => { r with stgDate := v &&& 0x0FFF0F1F })
  | 0x202C => trimWrite v s
  | 0x2030 => if bits v 0 25 ≤ 22118400 then setWake (bits v 0 25) (bit v 25) (hostMaster s) s else s
  | _ => s

/-- The Guestbook window. -/
def writeGbk (off v : Nat) (s : State) : State :=
  match off with
  | 0x2100 => modGbk (fun g => { g with freeze := bit v 0, autoInc := bit v 1 }) s
  | 0x2104 => modGbk (fun g => { g with overflow := w1cFlag g.overflow v 3, mramErr := w1cFlag g.mramErr v 4, timedOut := w1cFlag g.timedOut v 5 }) s
  | 0x2108 => loadSel (v % 2 ^ 32) s
  | _ => s

/-- The counter block and the test multiplexer. -/
def writeCnt (off v : Nat) (s : State) : State :=
  match off with
  | 0x2200 =>
    let s := setCntCtl v s
    if bit v 1 then clearEnabled (takeSnapshot 0 s) else if bit v 0 then takeSnapshot 0 s else s
  | 0x2204 => modCnt (fun c => { c with ovf := w1c c.ovf (v % 2 ^ 32) }) s
  | 0x2414 => modCnt (fun c => { c with muxDiv := min 12 (max 4 (v % 16)) }) s
  | 0x2418 => modCnt (fun c => { c with muxSlot := v % 2 ^ 7 }) s
  | _ =>
    if 0x2280 ≤ off && off < 0x2300 then writeCntCfg ((off - 0x2280) / 4) v s
    else if 0x2404 ≤ off && off < 0x2414 then modCnt (fun c => { c with muxSel := setAt c.muxSel ((off - 0x2404) / 4) (v % 2 ^ 9) }) s
    else s

/-- Tick and waybill status, and stile diagnostics. -/
def writeDiag (off v : Nat) (s : State) : State :=
  if off == 0x2810 then
    modClerk (fun c => { c with late := w1cFlag c.late v 1, taint := w1cFlag c.taint v 2, replayMismatch := w1cFlag c.replayMismatch v 4, ckptFail := w1cFlag c.ckptFail v 5, resumed := w1cFlag c.resumed v 7 }) s
  else if 0x3000 ≤ off && off < 0x3C00 then
    let k := (off - 0x3000) / 0x40
    if off % 0x40 == 0x08 then modStile k (fun x => { x with hwm := v % 2 ^ 10 }) s
    else if off % 0x40 == 0x0C then modStile k (fun x => { x with flags := w1c x.flags (v % 16) }) s
    else s
  else if off == 0x3C10 then { s with inn := { s.inn with threshold := v % 2 ^ 16 } }
  else if off == 0x3C14 then { s with inn := { s.inn with evsel := v % 2 ^ 6 } }
  else s

/-- A 32-bit write of a register; offsets that no chapter assigns ignore it (R10). -/
def writeReg (off v : Nat) (s : State) : State :=
  if off < 0x400 then writeGlobal off v s
  else if off < 0x800 then (if s.host.hostsel then s else writeRing ((off - 0x400) / 0x100) (off % 0x100) v s)
  else if off < 0x1000 then s
  else if off < 0x1400 then writeMbx ((off - 0x1000) / 0x40) (off % 0x40) v s
  else if off == 0x1600 then modHost (fun h => { h with mbxWin := v % 16 }) s
  else if off == 0x1608 then modHost (fun h => { h with violation := w1cFlag h.violation v 1 }) s
  else if off < 0x2000 then s
  else if off < 0x2100 then writeRtc off v s
  else if off < 0x2200 then writeGbk off v s
  else if off < 0x2500 then writeCnt off v s
  else writeDiag off v s

/-- REGISTER_WRITE (R8, R10, R72, R73): a host write of `size` bytes at an offset of the window. -/
def execRegisterWrite (offset value size : Nat) (s : State) : Host.Outcome State Fault Refusal :=
  if s.boot.stage == 0 then .next s
  else
    let s := signal s
    if !goodAccess s offset size then signalled (badAccess s)
    else signalled (if inAperture offset then writeAperture offset size value s else writeReg offset value s)

end Sys2Proof.Machine
end

