-- ==== Sys2Proof/Machine/Boot.lean ====
section
/-!
DEFINITION. Machine/Boot.lean: the boot up to READY, the restore, and the RESUME tick (R407 to R412).
-/
namespace Sys2Proof.Machine

/-- Change the boot's part of the state. -/
def modBoot (f : Boot → Boot) (s : State) : State := { s with boot := f s.boot }

/-! ### What a boot writes from what D0 and the stores have kept -/

/-- One record due at the boot (R131, R417, R418, Table 4 of ch. 22). -/
def dueRecord (d : Nat × Nat) (s : State) : State :=
  match d.1 with
  | 0x0205 => gbk 0x0205 0xFF (le 4 d.2) s
  | 0x0206 => gbk 0x0206 0xFF (le 1 d.2) s
  | 0x0303 => gbk 0x0303 2 (le 1 d.2 ++ le 1 3) s
  | 0x0702 => gbk 0x0702 0xFF (le 4 d.2 ++ le 1 2) s
  | _ => s

/-- The records of D0: sequence fault, unwarned loss, VCORE late, time untrusted (R343, R441, R443, R449). -/
def supplyRecords (s : State) : State :=
  let x := s.supply
  let s := match x.seqRecord with | some v => gbk 0x0103 0xFF (le 2 v.1 ++ le 2 v.2) (modSupply (fun y => { y with seqFault := true, seqRecord := none }) s) | none => s
  let s := if x.unwarned then gbk 0x0104 0xFF [] (modSupply (fun y => { y with flags := y.flags ||| 0x400, unwarned := false }) s) else s
  let s := match x.late with | some ms => gbk 0x0105 0xFF (le 4 ms) (modSupply (fun y => { y with late := none }) s) | none => s
  match s.rtc.untrustedDue with
  | some cause => gbk 0x1001 0xFF (le 1 cause ++ s.rtc.now.stampBytes) { s with rtc := { s.rtc with untrustedDue := none } }
  | none => s

/-- A valid image of the front buffer comes back before anything that has entered it since (R446, R448); the tick record says which tick
was sealed last. -/
def loadSave (s : State) : State :=
  if !s.boot.powerOn then s
  else
    let sealed := if s.boot.code == 1 then ((s.supply.save.tick).map Prod.fst).getD 0 else 0
    let front := s.supply.save.front.getD []
    modBoot (fun b => { b with sealed }) (modSupply (fun x => { x with save := { tick := if s.boot.code == 1 then x.save.tick else none } })
      (modGbk (fun g => { g with front := (front ++ g.front).take 256 }) s))

/-- Everything a boot writes first. -/
def bootRecords (s : State) : State :=
  let due := s.boot.due
  supplyRecords (due.foldl (fun s d => dueRecord d s) (modBoot (fun b => { b with due := [] }) (loadSave s)))

/-- The boot record of kind 0x0201. -/
def bootRecord (restore : Nat) (s : State) : State := gbk 0x0201 0xFF (le 1 s.boot.code ++ le 1 restore ++ le 4 (fwSet s)) s

/-! ### Coppice mode (R419) -/

/-- Coppice mode is entered, with its cause: the boot ends. -/
def enterCoppice (cause : Nat) (s : State) : State :=
  let s := modBoot (fun b => { b with stage := 3, flags := 1, restore := 0, wasCoppice := true, coppice := false }) { s with mode := { s.mode with coppice := true, ready := false } }
  bootRecord 0 (gbk 0x0308 8 (le 1 cause) (gbk 0x0207 8 (le 1 cause) s))

/-! ### Step 5: keys, binding, plan, calibration -/

/-- The vault's check of the filled slots (R370): those that fail become BAD_SLOT. -/
def checkSlots (bad : List Nat) (s : State) : State :=
  bad.foldl (fun s k => match s.vault.slots[k]? with | some x => if x.attr != 0 && !x.bad then badSlot k 0 s else s | none => s) s

/-- The default binding table (Table 7 of ch. 4). -/
def defaultBinding (h m : Nat) : Nat × Nat := (h, if m < 12 then 5 else if m < 14 then 6 else 7)

/-- The vault loads and locks the mailbox binding (R84). -/
def loadBinding (s : State) : State :=
  let of_ := fun (m : Nat) => match s.host.bindRecord with
    | some b => (fld b (2 * m) 1, fld b (2 * m + 1) 1)
    | none => defaultBinding (hostMaster s) m
  modHost (fun h => { h with bindLocked := true, bindWaiting := false, mailboxes := h.mailboxes.zipIdx.map (fun (x : Mailbox × Nat) => { x.1 with masterA := (of_ x.2).1, masterB := (of_ x.2).2 }) }) s

/-- A commit record meets the first two conditions of R125: its valid mark is set, and its slot's digest equals its own. -/
def recordGood (s : State) (r : CommitRec) : Bool := r.valid && !r.bad && ((s.plan.slots[r.slot]?).getD {}).digest == r.digest

/-- The commit record of the generation in force at a boot (R125); none: generation 0. -/
def recordInForce (s : State) : Option CommitRec :=
  (s.plan.records.filter (recordGood s)).foldl (fun (acc : Option CommitRec) r => match acc with | some a => if a.gen < r.gen then some r else some a | none => some r) none

/-- The newer commit record, when it fails its digest: kind 0x0707 and the STORE alert (R125). -/
def checkRecords (damaged : List Nat) (s : State) : State :=
  let s := { s with plan := { s.plan with records := s.plan.records.zipIdx.map (fun (x : CommitRec × Nat) => if damaged.contains (x.2 + 1) then { x.1 with bad := true } else x.1) } }
  let newer := (s.plan.records.filter (fun (r : CommitRec) => r.valid)).foldl (fun (acc : Option CommitRec) r => match acc with | some a => if a.gen < r.gen then some r else some a | none => some r) none
  match newer with
  | some r => if recordGood s r then s else gbk 0x0707 0xFF (le 4 r.gen ++ le 1 r.slot) (latchStore 6 s)
  | none => s

/-- The factory constants of an input (R240): kind 0 voltage, 1 current. -/
def factoryInput (kind i : Nat) (x : MetIn) : MetIn :=
  let v := fun path => Config.factoryCal kind i path
  { x with offset := [(v 0).1, (v 1).1], gain := [(v 0).2.1, (v 1).2.1], phase := [(v 0).2.2, (v 1).2.2] }

/-- A calibration set that fails its digest is replaced by the factory set (R240). -/
def checkCalibration (damaged : List Nat) (s : State) : State :=
  if !damaged.contains 0 && s.metro.storeGood then s
  else
    let m := s.ord.metering
    let m := { m with vin := m.vin.zipIdx.map (fun (x : MetIn × Nat) => factoryInput 0 x.2 x.1), iin := m.iin.zipIdx.map (fun (x : MetIn × Nat) => factoryInput 1 x.2 x.1) }
    gbk 0x0C04 0xFF (zeros 3 ++ le 4 m.calCount ++ le 1 1) (latchStore 7 { s with ord := { s.ord with metering := m }, metro := { s.metro with storeGood := true } })

/-- TB_M leaves NONE when the calendar clock is trusted (R321 Table 4). -/
def startTbm (s : State) : State :=
  if s.rtc.oscStop || s.time.state != 0 then s
  else
    let us : Int := ((s.rtc.now.unix : Int) + utcOffset s.time) * 1000000 + (s.rtc.now.sub * 1000000 / 32768 : Nat) - 946684832 * 1000000
    setTbmState 1 { s with clerk := { s.clerk with tick := us.toNat / 250000, offset := us.toNat % 250000 } }

/-- READY rises (R94, R407 step 6). -/
def raiseReady (s : State) : State :=
  let s := modHost (fun h => { h with readyChg := true, mailboxes := h.mailboxes.map (fun (m : Mailbox) => if m.masterA == hostMaster s then { m with odb := m.odb ||| 8 } else m) }) s
  modBoot (fun b => { b with stage := 2, readyMs := s.uptime - b.released, life := s.mode.lifecycle }) { s with mode := { s.mode with ready := true }, twin := { s.twin with since := s.uptime } }

/-- Steps 5 and 6 of Table 3. -/
def bootToReady (badKeys damaged : List Nat) (s : State) : State :=
  raiseReady (startTbm (checkCalibration damaged (checkRecords damaged (loadBinding (checkSlots badKeys s)))))

/-- Steps 1 to 6 of Table 3 (R407): the firmware set is chosen, or coppice mode entered (R419). -/
def bootFirst (readErrors refused badKeys damaged : List Nat) (s : State) : State :=
  let once := s.boot.coppice
  let was := s.boot.wasCoppice
  let s := bootRecords (modBoot (fun b => { b with rst := false, porst := false, boots := satAdd 32 b.boots 1 }) s)
  if s.host.bootsel then enterCoppice 0 s
  else if once then enterCoppice 1 s
  else
    let s := chooseSet readErrors refused 3 s
    if s.firmware.running.isNone then enterCoppice 2 s
    else bootToReady badKeys damaged (if was then gbk 0x0208 0xFF [] (modBoot (fun b => { b with wasCoppice := false }) s) else s)

/-! ### The restore (R410, R411, R430) -/

/-- The channels lodge anew (R46, R348): regions in use are free of owners, and an evacuation that a reset broke off is due again. -/
def clearLodges (s : State) : State :=
  let broken := (s.store.regions.zipIdx.filter (fun (x : Region × Nat) => x.1.state == 2)).map (fun x => (x.2, 0))
  let one := fun (r : Region) =>
    let r := { r with owners := [], state := if r.state == 2 then 1 else r.state }
    if r.state == 1 && r.area == 3 then { r with state := 0, strong := none } else r
  { s with store := { s.store with regions := s.store.regions.map one, queue := broken ++ s.store.queue }, inn := { s.inn with lodges := [] } }

/-- The ramp records at the skipped boundaries (R412): those that open ticks `n`, `n + 1` and so on, `k` of them. Records at rest stay as
they are. -/
def skipBoundaries : Nat → Nat → Ordered → Ordered
  | 0, _, o => o
  | k + 1, n, o =>
    let o' := skipRecords n o
    let waits := o.lanterns.any (fun (x : Nat × Lantern) => match x.2.record with | some r => !r.queue.isEmpty | none => false)
    if !waits && o'.lanterns == o.lanterns then o else skipBoundaries k (n + 1) o'

/-- The lines of R28's table that a waybill's commands make. -/
def dupLines (w : Waybill) : List Dup :=
  w.entries.zipIdx.filterMap (fun (x : Entry × Nat) => match x.1.body with
    | .command p => if x.1.kind == 0x0201 then some ({ master := x.1.index, seq := p.seq, tick := w.tick, entry := x.2 } : Dup) else none
    | .raw _ => none)

/-- One ring waybill is re-run (R410): the state after it, its lines of R28, and, where the reset came before them, its digest record
and its Guestbook records (R32, R386). Replies formed are kept for retries (R413). -/
def rerunWaybill (w : Waybill) (o : Ordered) (s : State) : State × Ordered :=
  let d := w.digest
  let c := recompute (lookD w.tick (contextOf s) s.contexts) w d o
  let lines := dupLines w
  let fresh := !(s.clerk.records.any (fun (r : DigestRec) => r.tick == w.tick))
  let s := modClerk (fun k => { k with chain := d, lastD := d, lastTick := w.tick, dups := k.dups.filter (fun (x : Dup) => w.tick + 1 < x.tick + 2400 || !x.released) ++ lines }) s
  let s := if fresh then c.res.derived.foldl (fun s x => gbkDerived w.tick x s) (addRecord { tick := w.tick, d, o := c.res.output, tainted := c.res.tainted } s) else s
  ((orderedReplies c.res).foldl (fun s a => releaseReply a s) s, c.ord)

/-- A waybill continues a state after a tick: no tick lies between, or none of them has a waybill (R32, R412). -/
def follows (s : State) (w : Waybill) : Bool :=
  let p := s.clerk.lastTick
  w.tick == p + 1 || (p + 1 < w.tick && inGap s.clerk (p + 1) && inGap s.clerk (w.tick - 1))

/-- The waybills that follow each other from a state on, as far as each chains to the one before and can be read (R410). -/
def rerunAll : List Waybill → Ordered → State → State × Ordered
  | [], o, s => (s, o)
  | w :: r, o, s =>
    if w.prev == s.clerk.chain && follows s w && !s.store.badWaybills.any (fun (x : Nat × Nat) => x.1 == w.tick) then
      let y := rerunWaybill w (skipBoundaries (w.tick - 1 - s.clerk.lastTick) (s.clerk.lastTick + 2) o) s
      rerunAll r y.2 y.1
    else (s, o)

/-- A checkpoint is installed (R410, R411). -/
def installCkpt (c : Checkpoint) (s : State) : State :=
  modClerk (fun k => { k with chain := c.chain, lastD := c.chain, lastTick := c.tick, dups := c.dups }) s

/-- The ordered state of a restore in which no checkpoint verifies (R411): no channels, under the generation in force. -/
def emptyOrd (s : State) : Ordered :=
  match recordInForce s with
  | none => s.ord
  | some r => (((contextOf s).calc 0 s.ord { tick := 0 }).readSwitch (planSwitchBytes 0 r.gen 1 r.digest)).ord

/-- Each slot's generation counter: the larger of two (R43). -/
def mergeGens (a b : List (Nat × Nat)) : List (Nat × Nat) := b.foldl (fun acc (x : Nat × Nat) => put x.1 (max x.2 (lookD x.1 1 acc)) acc) a

/-- The ordered state as a restore installs it: with the larger generation counters (R43) and the calibration constants of the
persistent store (R240). -/
def restoredOrd (o : Ordered) (s : State) : Ordered :=
  let m := s.ord.metering
  let cal := fun (mine : List MetIn) (x : MetIn × Nat) => let y := (mine[x.2]?).getD x.1; { x.1 with offset := y.offset, gain := y.gain, phase := y.phase }
  { o with gens := mergeGens o.gens s.ord.gens, metering := { o.metering with vin := o.metering.vin.zipIdx.map (cal m.vin), iin := o.metering.iin.zipIdx.map (cal m.iin), calCount := m.calCount } }

/-- The restored state takes its place, and the domains are brought to it (R407 step 7). -/
def settleRestore (tick : Nat) (o : Ordered) (s : State) : State :=
  let s := syncStreams {} o (syncLodges {} o [] (clearLodges { s with ord := o, rel := o, relTick := tick, computed := [], early := { tick := tick + 1 } }))
  let power := fun (s : State) (r : Nat) => modSeq r (fun q => { q with bcast := (radioOrd o r).bcast, ucast := (radioOrd o r).ucast }) s
  [0, 1, 2, 3].foldl power { s with vault := { s.vault with requests := s.vault.requests ++ [.deriveForPlan (((recordInForce s).map (·.gen)).getD 0)] } }

/-- A checkpoint counts as verifying (R410, R430): its digest does, and the running core section reads its format. -/
def ckptGood (damaged : List Nat) (s : State) (c : Checkpoint) : Bool :=
  let x := runningSet s
  !damaged.contains (16 + c.tick) && x.oldest ≤ c.format && c.format ≤ x.format

/-- The cold restore (R411). -/
def coldRestore (damaged : List Nat) (s : State) : State :=
  match (s.saved.filter (ckptGood damaged s)).getLast? with
  | some c =>
    let s := { s with saved := s.saved.map (fun (x : Checkpoint) => { x with installed := x.tick == c.tick }) }
    settleRestore c.tick (restoredOrd c.ord s) (modBoot (fun b => { b with restore := 2, installed := c.tick, rerun := c.tick }) (installCkpt c s))
  | none => settleRestore 0 (emptyOrd s) (modBoot (fun b => { b with restore := 0, installed := 0, rerun := 0 }) (installCkpt { tick := 0, ord := {} } s))

/-- The warm restore from a working-store checkpoint (R410). With another firmware set than the one that wrote it, no waybill is re-run
(R430). -/
def warmRestore (c : Checkpoint) (s : State) : State :=
  let ws := if c.fw == fwVector s then s.clerk.ring.filter (fun (w : Waybill) => c.tick < w.tick) else []
  let y := rerunAll ws c.ord (installCkpt c s)
  let s := y.1
  let p := s.clerk.lastTick
  let o := restoredOrd y.2 s
  let z := makeCkpt p s.clerk.chain o true s
  let s := { z.1 with ckpts := lastN 11 ((z.1.ckpts.map (fun (x : Checkpoint) => { x with installed := false })).filter (fun x => x.tick < p) ++ [z.2]) }
  let s := modClerk (fun k => { k with ring := k.ring.filter (fun (w : Waybill) => w.tick ≤ p) }) s
  settleRestore p o (modBoot (fun b => { b with restore := 1, installed := p, rerun := p }) s)

/-- Step 7 of Table 3. -/
def bootRestore (damaged : List Nat) (s : State) : State :=
  let s := if s.boot.powerOn then coldRestore damaged s
    else match (s.ckpts.filter (ckptGood damaged s)).getLast? with
      | some c => warmRestore c { s with ckpts := s.ckpts.filter (ckptGood damaged s) }
      | none => coldRestore damaged (gbk 0x0209 0xFF (le 1 0) (modBoot (fun b => { b with flags := b.flags ||| 4 }) { s with ckpts := [] }))
  let s := modBoot (fun b => { b with stage := 3, restoreMs := s.uptime - b.released }) s
  bootRecord s.boot.restore s

/-- BOOT (R407, R409 to R411, R419, R430): first the steps up to READY or coppice mode, then the restore (log entry 31). `readErrors` and
`refused` are image store slots that cannot be read or that the boot ROM refuses; `badKeys` key slots whose CMAC fails; `damaged` what
does not verify: 0 the calibration set, 1 and 2 the commit records of slots A and B, 16 + t the checkpoint of tick t. `failed`: a step
has failed. -/
def execBoot (readErrors refused badKeys damaged : List Nat) (failed : Bool) (s : State) : Host.Outcome State Fault Refusal :=
  if heldInReset s || (s.boot.stage != 1 && s.boot.stage != 2) then .next s
  else if failed then .next (deviceReset 6 s)
  else if s.boot.stage == 1 then signalled (bootFirst readErrors refused badKeys damaged s)
  else signalled (bootRestore damaged s)

/-! ### The RESUME tick (R412) -/

/-- The reason code of the RESUME entry (Table 1). -/
def resumeReason (s : State) : Nat :=
  match s.boot.code with
  | 1 => if s.supply.save.tick.isSome then 0 else 4
  | 3 => 1
  | 4 => 2
  | 5 => 3
  | _ => 4

/-- The circuits of the restored state: circuit number and phases. -/
def restoredCircuits (o : Ordered) : List (Nat × Nat) :=
  sortBy Prod.fst (o.channels.filterMap (fun (c : Channel) => match c.body with | .circuit x => x.num.map (fun k => (k, x.phases.length)) | _ => none))

/-- The valid save record to be applied (R262): the one that froze last, when that was after the restored state. -/
def saveToApply (p : Nat) (s : State) : Option (SaveRec × Nat) :=
  (s.metro.saves.zipIdx.filter (fun (x : SaveRec × Nat) => x.1.valid && p < x.1.freeze)).foldl
    (fun (acc : Option (SaveRec × Nat)) x => match acc with | some a => if a.1.freeze < x.1.freeze then some x else some a | none => some x) none

/-- The HOLDUP entry of a circuit (Table 4 of ch. 12). -/
def holdupBytes (r : SaveRec) (k phases : Nat) : List Byte :=
  let m := (r.meters[k]?).getD {}
  let whole := (List.range 5).map (fun q => sumBy (fun (f : List Nat) => (f[q]?).getD 0) m.phases)
  le 1 k ++ le 1 phases ++ zeros 2 ++ le 4 m.seq ++ le 8 r.freeze ++ le 8 m.start ++ le 4 m.s0 ++ zeros 4 ++
    ((whole :: m.phases).map (fun (f : List Nat) => (f.map (le 12)).flatten)).flatten ++ (m.snapshot.map (le 8)).flatten

/-- The registers after the gap: HOLDUP entries from a valid later save (R262), else a metrology gap of each circuit (R263). -/
def resumeMeters (p t : Nat) (s : State) : State :=
  let cs := restoredCircuits s.ord
  match saveToApply p s with
  | some (r, i) =>
    let place := fun (s : State) (c : Nat × Nat) => placeEntry { kind := 0x0804, cls := 3, index := 0, body := .raw (holdupBytes r c.1 c.2) } s
    let s := cs.foldl place s
    let s := if cs.isEmpty then s else modBoot (fun b => { b with flags := b.flags ||| 8 }) s
    { s with metro := { s.metro with saves := modAt s.metro.saves i (fun (x : SaveRec) => { x with valid := false }) } }
  | none => cs.foldl (fun s (c : Nat × Nat) => gbk 0x0C05 0xFF (le 1 c.1 ++ le 8 (p + 1) ++ le 4 (t - 1 - p)) s) s

/-- The PLAN_SWITCH entry of R131, when the restored state stands under another generation than the one in force. -/
def resumePlan (s : State) : State :=
  let r := (recordInForce s).getD {}
  let old := s.ord.plan.gen
  if r.gen == old then s
  else modBoot (fun b => { b with flags := b.flags ||| 16 }) (placeClerk 0x0301 (planSwitchBytes old r.gen 1 r.digest) s)

/-- The stretch of ticks without a waybill (R32). -/
def addGap (first last : Nat) (s : State) : State :=
  if last < first then s else modClerk (fun c => { c with gaps := c.gaps.filter (fun (g : Nat × Nat) => last ≤ g.2 + 21427200) ++ [(first, last)] }) s

/-- D9 takes the restored configuration; the circuits that run are measured from the RESUME tick on. -/
def restoreMetro (t : Nat) (s : State) : State :=
  let m := s.ord.metering
  let s := { s with metro := { s.metro with
    vin := m.vin, iin := m.iin, nominal := m.nominal, calCount := m.calCount
    outs := s.metro.outs.zipIdx.map (fun (x : PulseOut × Nat) => { x.1 with cfg := (m.outs[x.2]?).getD {} })
    ins := s.metro.ins.zipIdx.map (fun (x : PulseIn × Nat) => { x.1 with cfg := (m.ins[x.2]?).getD {} }) } }
  (s.ord.channels.filter (fun (c : Channel) => hType c.handle == 4 && (c.judged == .running || c.judged == .held))).foldl (fun s c => metroMsg t s (.start c.handle t)) s

/-- D10 takes the restored configuration, as after a restart (R199, R208, R414): luminaires resume at the first boundary after the RESUME
tick. -/
def restoreDrive (t : Nat) (s : State) : State :=
  let live := s.ord.channels.filter (fun (c : Channel) => c.judged == .running || c.judged == .held)
  let s := { s with drive := {
    slots := (s.ord.loops.filter (fun (x : LoopSlot) => x.cls == 0)).map LoopSlot.restarted
    sets := s.ord.loopSets.map (fun (x : LoopSet) => { owner := x.owner, set := x.set, members := x.members })
    running := (live.filter (fun (c : Channel) => hType c.handle == 5 || hType c.handle == 6)).map (fun (c : Channel) => c.handle) } }
  let body := fun (s : State) (c : Channel) => match c.body with
    | .luminaire x => driveMsg (.lum c.handle x) s
    | .trace x => driveMsg (.trace c.handle x) s
    | _ => s
  let s := s.ord.channels.foldl body s
  let s := { s with drive := { s.drive with lums := s.drive.lums.map (fun (l : LumRun) => { l with start := if s.drive.running.contains l.handle then some (t + 1) else none, seq := l.cfg.seqs.foldl max 0 }) } }
  (live.filter (fun (c : Channel) => hType c.handle == 6 && c.state == .held)).foldl (fun (s : State) (c : Channel) => driveChan c.handle 2 t s) s

/-- The RESUME tick opens (R412, R34): its waybill begins with RESUME, then PLAN_SWITCH and the HOLDUP entries. -/
def openResume (t : Nat) (s : State) : State :=
  let p := s.clerk.lastTick
  let reason := resumeReason s
  let s := addGap (p + 1) (t - 1) { s with ord := skipBoundaries (t - 1 - p) (p + 2) s.ord }
  let s := modClerk (fun c => { c with running := true, tick := t, offset := 0, long := false, resume := true, resumed := true, open_ := [] }) s
  let s := { s with early := { tick := t } }
  let s := modBoot (fun b => { b with stage := 4, resumeTick := t, flags := b.flags ||| (2 * b2n (s.time.state == 1)) }) s
  let s := placeClerk 0x0203 (le 8 p ++ le 1 reason ++ zeros 7) s
  let s := resumeMeters p t (resumePlan s)
  let s := gbk 0x0202 0xFF (le 8 p ++ le 8 t ++ le 4 (t - 1 - p)) (gbk 0x0503 0xFF (le 8 p ++ le 1 reason) s)
  placeTimeTick (restoreDrive t (restoreMetro t (modSupply (fun x => { x with save := {} }) s)))

/-- RESUME_TICK_OPEN (R407 step 8, R412): the first boundary after the restore at which TB_M is not NONE, on a module that is ALONE or
ACTIVE. -/
def execResumeTickOpen (tick : Nat) (s : State) : Host.Outcome State Fault Refusal :=
  if s.boot.stage != 3 || s.mode.coppice || s.clerk.running || s.mode.role == 2 || s.time.state == 0 || tick ≤ s.clerk.lastTick then .next s
  else signalled (openResume tick s)

end Sys2Proof.Machine
end

