-- ==== Sys2Proof/Machine/Recovery.lean ====
section
/-!
DEFINITION. Machine/Recovery.lean: rebuilds of channels and computations (R51, R361), and packets that pass or are lost in a stile (R61
to R67).
-/
namespace Sys2Proof.Machine

/-! ### Rebuilds -/

/-- Change the Innkeeper's part of the state. -/
def modInn (f : Inn → Inn) (s : State) : State := { s with inn := f s.inn }

/-- A channel that is not FAULTED becomes so (R51). -/
def faultUnlessFaulted (h : Handle) (cause : Nat) (s : State) : State :=
  if (chanOf s.ord h).any (fun (c : Channel) => c.state != .faulted) then placeFault h cause 0 s else s

/-- A rebuild that cannot be made: the channel's fault, or, for the device computations, a device reset (R361 Table 7). -/
def rebuildFails (b : Rebuild) (cause : Nat) (s : State) : State :=
  if hType b.handle == 15 then deviceReset 6 s
  else
    let s := faultUnlessFaulted b.handle cause s
    match b.packet with
    | some p => answer p { status := .range } s
    | none => s

/-- A waiting rebuild starts with the boundary that ends the open tick (R51): it takes the place of that tick's computation, and a
CHANNEL_RESET is answered now. The estimate of its time is open: a free value. -/
def startRebuild (b : Rebuild) (s : State) : State :=
  match newestCkpt s with
  | none => rebuildFails b 2 s
  | some c =>
    if !ringHolds s c.tick then rebuildFails b 3 s
    else
      let s := modInn (fun i => { i with rebuilds := i.rebuilds ++ [{ b with ckpt := c.tick, since := s.clerk.tick, packet := none }] }) { s with store := { s.store with taint := s.store.taint.filter (· != b.handle) } }
      match b.packet with
      | some p => let y := drawFree s; answer p { payload := le 8 c.tick ++ le 4 y.1 ++ zeros 4 } y.2
      | none => s

/-- REBUILD_START (R51, R361): just before a boundary, the waiting rebuild of an owner takes its place, when fewer than four run. -/
def execRebuildStart (owner : Handle) (s : State) : Host.Outcome State Fault Refusal :=
  match s.inn.waiting.find? (fun b => b.handle == owner) with
  | none => .next s
  | some b =>
    if 4 ≤ s.inn.rebuilds.length || !s.clerk.running then .next s
    else signalled (startRebuild b (modInn (fun i => { i with waiting := i.waiting.filter (fun x => x.handle != owner) }) s))

/-- The withheld results of a tick (R22): late ones are counted and recorded, the others go out after all. -/
def releaseWithheld (h : Handle) (x : Withheld) (s : State) : State :=
  if x.tick + 1 < s.clerk.tick then
    let s := gbk 0x0501 0xFF (le 4 (ownerShown h).toNat ++ le 8 x.tick) (count 0x005 (modClerk (fun c => { c with late := true, lateCnt := satAdd 32 c.lateCnt 1 }) s))
    x.frames.foldl (fun s f => finishDown f.1 1 f.2 s) s
  else queueDown x.frames (fieldEntries x.tick x.entries s)

/-- A rebuild has run through every waybill (R51): its withheld results end, and a FAULTED channel is restored. -/
def finishRebuild (b : Rebuild) (s : State) : State :=
  let s := b.withheld.foldl (fun s x => releaseWithheld b.handle x s) s
  let s := modBoot (fun x => { x with rebuilds := satAdd 32 x.rebuilds 1 }) (count 0x029 s)
  let s := if b.finding then count 0x1AF (gbk 0x1109 0xFF (le 4 (ownerShown b.handle).toNat ++ le 8 b.ckpt) s) else s
  if (chanOf s.ord b.handle).any (fun (c : Channel) => c.state == .faulted) then placeClerk 0x0102 (le 4 b.handle.toNat ++ zeros 4 ++ le 8 b.ckpt) s else s

/-- REBUILD_COMPLETE (R51): the rebuild has reached the last sealed tick; a waybill that has left the ring meanwhile stops it. -/
def execRebuildComplete (owner : Handle) (s : State) : Host.Outcome State Fault Refusal :=
  match s.inn.rebuilds.find? (fun b => b.handle == owner) with
  | none => .next s
  | some b =>
    if s.clerk.tick ≤ b.since then .next s
    else
      let s := modInn (fun i => { i with rebuilds := i.rebuilds.filter (fun x => x.handle != owner) }) s
      signalled (if ringHolds s b.ckpt then finishRebuild b s else rebuildFails b 3 s)

/-! ### Stiles -/

/-- Count `n` of an event of any stile, and of the selected one when this is it (R431). -/
def stileEvent (k src sel n : Nat) (s : State) : State :=
  let s := if src == 0 then s else countN src n s
  if sel != 0 && s.inn.evsel == k then countN sel n s else s

/-- Days of TB_L since 2000. -/
def dayNow (s : State) : Nat := s.rtc.now.secs / 86400

/-- The diagnostics of a stile after a packet (R63 to R67). -/
def stilePacket (k words corrected uncorrectable : Nat) (underrun : Bool) (stalls peak : Nat) (s : State) : State :=
  let row := stileRow k
  let day := dayNow s
  let lost := uncorrectable != 0 || (underrun && !row.2.2.2)
  let s := modStile k (fun x =>
    let today := (if x.day == day then x.today else 0) + corrected
    let above := s.inn.threshold != 0 && s.inn.threshold ≤ today && corrected != 0
    { x with
      hwm := max x.hwm (min peak row.2.2.1)
      flags := x.flags ||| b2n (underrun && !row.2.2.2) ||| 2 * b2n (uncorrectable != 0) ||| 4 * b2n above ||| 8 * b2n (stalls != 0 || row.2.2.1 ≤ peak)
      corrected := satAdd 32 x.corrected corrected, uncorrectable := satAdd 32 x.uncorrectable uncorrectable, underruns := satAdd 32 x.underruns (b2n underrun)
      stalls := satAdd 32 x.stalls stalls, packets := satAdd 32 x.packets 1, today, day, losses := if lost then x.losses else 0 }) s
  let s := stileEvent k 0x043 0x04C stalls (stileEvent k 0x042 0x04B (b2n underrun) (stileEvent k 0x040 0x04A corrected s))
  stileEvent k 0 0x049 1 (stileEvent k 0 0x048 words (countN 0x041 uncorrectable s))

/-- The input at the head of a stile never enters a waybill (R67 Table 11). -/
def dropInput (k : Nat) (s : State) : State :=
  match stileInputs s k with
  | [] => s
  | w :: _ => modClerk (fun c => { c with intake := c.intake.erase w }) s

/-- A packet is lost (R67): kind 0x0605, and the consequence of Table 11. A post is read by the next computation of its reader, a store
response by the one that asked for it. -/
def losePacket (k cause : Nat) (reader : Handle) (s : State) : State :=
  let s := gbk 0x0605 0xFF (le 1 k ++ le 1 cause) (count 0x044 s)
  if k ≤ 12 then dropInput k s
  else if 19 ≤ k && k ≤ 24 then { s with store := { s.store with postTaint := s.store.postTaint ++ [reader] } }
  else if 25 ≤ k && k ≤ 30 then taintOwner reader s
  else modStile k (fun x => { x with losses := x.losses + 1 }) s

/-- STILE_PACKET_READ (R63 to R67): a consumer reads a packet of `words` words, of which some were corrected or uncorrectable, perhaps
with an empty read within it; `stalls` writes were refused meanwhile, and at most `peak` words stood in the stile. `reader` owns what
posts and store responses carry. -/
def execStilePacketRead (stile words corrected uncorrectable : Nat) (underrun : Bool) (stalls peak : Nat) (reader : Handle) (s : State) : Host.Outcome State Fault Refusal :=
  if 48 ≤ stile then .next s
  else
    let s := stilePacket stile words corrected uncorrectable underrun stalls peak s
    signalled (if uncorrectable != 0 then losePacket stile 0 reader s else if underrun && !(stileRow stile).2.2.2 then losePacket stile 1 reader s else s)

/-- The domain at the far end of a stile restarts (R67, R416). -/
def restartFarEnd (d : Nat) (s : State) : State :=
  if d == 0 || d == 1 || d == 5 || d == 8 then deviceReset 6 s
  else if s.boot.domains.any (fun x => x.1 == d) then s
  else beginRestart d { s with boot := { s.boot with domains := s.boot.domains ++ [(d, s.uptime, none)] } }

/-- STILE_RESEND (R67 Table 11): 1 ms after a loss the sender repeats the message; after the third loss of the same message the domain at
the far end restarts. -/
def execStileResend (stile : Nat) (s : State) : Host.Outcome State Fault Refusal :=
  match s.inn.stiles[stile]? with
  | none => .next s
  | some x =>
    if x.losses < 3 then .next s
    else signalled (restartFarEnd (stileRow stile).2.1 (modStile stile (fun x => { x with losses := 0 }) s))

end Sys2Proof.Machine
end

