-- ==== Sys2Proof/Machine/TwinRun.lean ====
section
/-!
DEFINITION. Machine/TwinRun.lean: what a standby takes in from the active, syncs, takeovers and handovers, and the frames of the twin
link (R395 to R402).
-/
namespace Sys2Proof.Machine

/-! ### Replication (R397, R398) -/

/-- The partner frame counters that the AIR_FRAME entries of a waybill show (R397). -/
def countersOf (es : List Entry) (cs : List (Nat × Nat)) : List (Nat × Nat) :=
  (rawOf 0x0901 es).foldl (fun acc b => put (fld b 20 8) (max (lookD (fld b 20 8) 0 acc) (fld b 28 4)) acc) cs

/-- The switch tick that a HANDOVER entry names, when this module is the new active (R402 Table 4). -/
def handoverIn (es : List Entry) : Option Nat :=
  ((rawOf 0x1002 es).find? (fun b => fld b 16 8 == Config.unitSerial.toNat)).map (fun b => fld b 8 8)

/-- A waybill of the active joins the ring and is computed as an own tick (R397). -/
def importWaybill (w : Waybill) (s : State) : State :=
  let s := storeWaybill w s
  let s := modClerk (fun c => { c with dups := c.dups ++ dupLines w }) s
  let s := { s with air := { s.air with counters := countersOf w.entries s.air.counters } }
  let s := modTwin (fun t => { t with lastRx := w.tick, handover := (handoverIn w.entries).or t.handover }) s
  issueLast (computeWaybill w s.clerk.lastD s)

/-- The reply counters and the windows of remote key slots that come with a waybill (R397). -/
def importPaths (counters : List (Nat × Nat)) (windows : List (Nat × Nat × List Nat)) (s : State) : State :=
  let win := fun (ws : List Window) (x : Nat × Nat × List Nat) => ws.filter (fun (w : Window) => w.slot != x.1) ++ [{ slot := x.1, high := x.2.1, seen := x.2.2 }]
  modPaths (fun p => { p with ownCounters := counters.foldl (fun acc (x : Nat × Nat) => put x.1 x.2 acc) p.ownCounters, windows := windows.foldl win p.windows }) s

/-- The active's digest record of a tick waits for the own one, or is compared with it (R398). -/
def importRecord (tick : Nat) (digest : List Byte) (tainted : Bool) (s : State) : State :=
  if digest.length != 64 then s
  else
    let r : DigestRec := { tick, d := BitVec.ofNat 256 (fld digest 0 32), o := BitVec.ofNat 256 (fld digest 32 32), tainted }
    compareTwin tick (modTwin (fun t => { t with records := t.records.filter (fun x => x.tick != tick) ++ [r] }) s)

/-- WAYBILL_IMPORT (R397, R398): an exported waybill (none: empty) with what travels with it, and the digest record of a tick (none:
empty). A waybill that does not continue the chain held is not taken. -/
def execWaybillImport (waybill : List Byte) (counters : List (Nat × Nat)) (windows : List (Nat × Nat × List Nat)) (digestTick : Nat) (digest : List Byte) (tainted : Bool)
    (s : State) : Host.Outcome State Fault Refusal :=
  if (s.twin.role != 3 && s.twin.role != 4) || !s.twin.linkUp then .next s
  else
    let w := parseWaybill waybill
    let s := if waybill.isEmpty then s
      else
        let s := count 0x1E7 s
        if s.clerk.running && w.tick == s.clerk.lastTick + 1 && w.prev == s.clerk.chain then importPaths counters windows (importWaybill w s) else s
    signalled (importRecord digestTick digest tainted s)

/-! ### Sync (R399) -/

/-- The plan that the active sent is committed in the free slot (R125, R399). -/
def takePlan (f : InForce) (s : State) : State :=
  if f.gen == ((recordInForce s).map (·.gen)).getD 0 then s
  else
    let k := 1 - ((recordInForce s).map (·.slot)).getD 1
    { s with plan := { s.plan with slots := setAt s.plan.slots k f.plan, records := setAt s.plan.records k { gen := f.gen, slot := k, digest := f.plan.digest, tick := f.fromTick, valid := f.gen != 0 } } }

/-- The checkpoint of a sync is installed. -/
def takeCheckpoint (c : Checkpoint) (s : State) : State :=
  let s := modClerk (fun k => { k with ring := [], records := k.records, open_ := [], heldEntries := [], intake := k.intake.filter (fun (w : Waiting) => w.cls == 1) }) (installCkpt c s)
  settleRestore c.tick c.ord { s with ckpts := [{ c with installed := true }], contexts := [] }

/-- SYNC_COMPLETE (R399): the sync asked for is refused with a cause, or has brought a plan, a checkpoint and every waybill since, and the
standby is READY. -/
def execSyncComplete (cause : Nat) (plan : InForce) (ckpt : Checkpoint) (waybills : List (List Byte)) (s : State) : Host.Outcome State Fault Refusal :=
  if s.twin.role != 3 || !s.twin.requested then .next s
  else
    let s := modTwin (fun t => { t with requested := false, syncCause := cause }) s
    if cause != 0 then signalled (gbk 0x1405 0xFF (le 1 cause) s)
    else
      let s := takeCheckpoint ckpt (takePlan plan s)
      let s := waybills.foldl (fun (s : State) b =>
        let w := parseWaybill b
        if w.tick == s.clerk.lastTick + 1 && w.prev == s.clerk.chain then importWaybill w s else s) s
      let s := modClerk (fun c => { c with running := true, tick := max c.tick (c.lastTick + 1) }) s
      let s := restoreDrive s.clerk.tick (restoreMetro s.clerk.tick (modBoot (fun b => { b with stage := 4 }) s))
      signalled (gbk 0x1405 0xFF (le 1 0) (setRole 4 (count 0x1EC (modTwin (fun t => { t with mismatch := false }) s))))

/-! ### Takeover (R400) -/

/-- The entries that the own D9 and D10 formed for a tick, as far as they are kept (R397). -/
def keptEntries (s : State) (n : Nat) : List Entry := ((s.twin.kept.find? (fun x => x.1 == n)).map Prod.snd).getD []

/-- The open tick of a standby ends: the entries of its own D9 and D10 are kept with those of the ticks before. -/
def keepEntries (s : State) : State :=
  let mine := (s.clerk.intake.filter (fun (w : Waiting) => w.cls == 3 || w.cls == 5)).map (entryOf s)
  let s := modTwin (fun t => { t with kept := t.kept ++ [(s.clerk.tick, mine)] }) s
  modClerk (fun c => { c with open_ := [], heldEntries := [], intake := c.intake.filter (fun (w : Waiting) => w.cls == 1) }) s

/-- Waybills with one TAKEOVER entry each are sealed and computed, for `k` ticks from `n` on (R400 steps 2 and 3). What their computations
give the clerk waits for the tick that follows. -/
def catchUp (cause p t : Nat) : Nat → Nat → State → State
  | 0, _, s => s
  | k + 1, n, s =>
    let e : Entry := { kind := 0x1001, cls := 7, index := 0, body := .raw (le 4 s.twin.epoch ++ le 1 cause ++ zeros 3 ++ le 8 p ++ le 8 t) }
    let s := closeTick (e :: keptEntries s n) s.clerk.open_ (modClerk (fun c => { c with tick := n }) s)
    catchUp cause p t k (n + 1) (issueLast s)

/-- Own frame counters above every one of the failed module (R400 step 4). -/
def raiseCounters (s : State) : State :=
  let peer := ((s.twin.peer).map (fun (p : PeerInfo) => p.counters)).getD []
  [0, 1, 2, 3].foldl (fun (s : State) r => modSeq r (fun q =>
    let m := max q.counter ((peer[r]?).getD 0) + 262144
    let c := m + (r + 4 - m % 4) % 4
    { q with counter := c, saved := c }) s) s

/-- The takeover at the boundary B that opens `t` (R400). -/
def takeOver (cause t : Nat) (s : State) : State :=
  let p := s.clerk.lastTick
  let s := modTwin (fun x => { x with takeover := none, handover := none, takeoverTick := t, takeoverP := p, offset := 0, records := [] }) (keepEntries s)
  let s := raiseCounters (setRole 1 s)
  let s := modPaths (fun x => { x with ownCounters := x.ownCounters.map (fun (y : Nat × Nat) => (y.1, y.2 + 65536)) }) s
  let s := catchUp cause p t (t - 1 - p) (p + 1) s
  let s := gbk 0x1403 0xFF (le 8 p ++ le 8 t ++ le 1 cause ++ le 4 s.twin.epoch) (count 0x1EB s)
  openTick (t - 1) (modClerk (fun c => { c with tick := t, offset := 0, long := false }) s)

/-- TAKEOVER (R400): at the first boundary that the takeover decided allows. A module that no sync has given ticks starts them as after
an ordinary boot. -/
def execTakeover (s : State) : Host.Outcome State Fault Refusal :=
  match s.twin.takeover with
  | none => .next s
  | some (cause, at_) =>
    if (s.twin.role != 3 && s.twin.role != 4) then .next s
    else if !s.clerk.running then signalled (setRole 1 (modTwin (fun t => { t with takeover := none }) s))
    else if s.clerk.tick + 1 < at_ then .next s
    else signalled (takeOver cause (s.clerk.tick + 1) s)

/-! ### Handover (R402) -/

/-- The peer enters ACTIVE with switch tick `at_`, whose boundary it may already have passed as standby. -/
def enterHandover (at_ : Nat) (s : State) : State :=
  let passed := decide (at_ ≤ s.clerk.tick)
  let s := modTwin (fun t => { t with handover := none, takeover := none, offset := 0, records := [] }) (if passed then s else keepEntries s)
  let s := setRole 1 s
  if passed then admitSources (placeTimeTick s) else openTick (at_ - 1) (modClerk (fun c => { c with tick := at_, offset := 0, long := false }) s)

/-- HANDOVER (R402): at the boundary that opens the switch tick, the active becomes READY, and the READY peer, which has computed the tick
before, ACTIVE. -/
def execHandover (s : State) : Host.Outcome State Fault Refusal :=
  match s.twin.handover with
  | none => .next s
  | some at_ =>
    if s.twin.role == 1 then (if s.clerk.tick + 1 == at_ then signalled (boundary s) else .next s)
    else if s.twin.role == 4 && s.clerk.lastTick + 1 == at_ && at_ ≤ s.clerk.tick + 1 then signalled (enterHandover at_ s)
    else .next s

/-! ### Twin-link frames (R395) -/

/-- A message for a mailbox whose MASTER_A is 4: its data, its MBX_ILEN word, and POST (R86, R395). -/
def twinPost (m ilen : Nat) (data : List Byte) (s : State) : State :=
  if (mbxOf s m).post then modMbx m (setIlen ilen) s
  else mbxPost m (modMbx m (fun b => setIlen ilen { b with inBuf := (data ++ b.inBuf.drop data.length).take 256 }) s)

/-- TWIN_FRAME_RECEIVE (R395, R112): a frame whose tag fails is discarded. A command waits in the sending module while this module's
intake is full. -/
def execTwinFrameReceive (ok : Bool) (frame : TwinFrame) (s : State) : Host.Outcome State Fault Refusal :=
  if s.twin.role == 0 || !s.twin.linkUp || !s.mode.ready then .next s
  else if !ok then .next (count 0x1ED s)
  else match frame with
    | .command b =>
      let p := parsePacket (.twin 0) b
      match intakeCheck s p with
      | some st => signalled (refuse p st s)
      | none => if intakeFull s 4 then .next s else signalled (enqueue p s)
    | .post m ilen data => if m < 16 && (mbxOf s m).masterA == 4 then signalled (twinPost m ilen data s) else .next s
    | .ack m v => if m < 16 && (mbxOf s m).masterA == 4 then signalled (writeOack m v s) else .next s

/-- TWIN_FRAME_RESEND (R395): 1 ms after the peer has discarded it, the last frame is sent again. -/
def execTwinFrameResend (s : State) : Host.Outcome State Fault Refusal :=
  match (s.paths.sent.filter (fun (x : Sent) => x.port == 3)).getLast? with
  | some f => .next (if s.twin.linkUp then modPaths (fun p => { p with sent := p.sent ++ [f] }) s else s)
  | none => .next s

end Sys2Proof.Machine
end

