-- ==== Sys2Proof/Machine/Dispatch.lean ====
section
/-!
DEFINITION. Machine/Dispatch.lean: one arm per constructor of Instr, each one direct call of its meaning.
-/
namespace Sys2Proof.Machine

def exec (i : Instr) (s : State) : Host.Outcome State Fault Refusal :=
  match i with
  | .deviceInfo p => Sys2Proof.Machine.execDeviceInfo p s
  | .echo p => Sys2Proof.Machine.execEcho p s
  | .rankGet p => Sys2Proof.Machine.execRankGet p s
  | .rankSet p => Sys2Proof.Machine.execRankSet p s
  | .mailboxBindGet p => Sys2Proof.Machine.execMailboxBindGet p s
  | .mailboxBindSet p => Sys2Proof.Machine.execMailboxBindSet p s
  | .remoteCfgGet p => Sys2Proof.Machine.execRemoteCfgGet p s
  | .remoteCfgSet p => Sys2Proof.Machine.execRemoteCfgSet p s
  | .streamConfig p => Sys2Proof.Machine.execStreamConfig p s
  | .streamCredit p => Sys2Proof.Machine.execStreamCredit p s
  | .streamRead p => Sys2Proof.Machine.execStreamRead p s
  | .streamStatus p => Sys2Proof.Machine.execStreamStatus p s
  | .resetDevice p => Sys2Proof.Machine.execResetDevice p s
  | .domainRestart p => Sys2Proof.Machine.execDomainRestart p s
  | .bootReport p => Sys2Proof.Machine.execBootReport p s
  | .recoveryStatus p => Sys2Proof.Machine.execRecoveryStatus p s
  | .channelCreate p => Sys2Proof.Machine.execChannelCreate p s
  | .channelStart p => Sys2Proof.Machine.execChannelStart p s
  | .channelHold p => Sys2Proof.Machine.execChannelHold p s
  | .channelRelease p => Sys2Proof.Machine.execChannelRelease p s
  | .channelDestroy p => Sys2Proof.Machine.execChannelDestroy p s
  | .channelReset p => Sys2Proof.Machine.execChannelReset p s
  | .channelInfo p => Sys2Proof.Machine.execChannelInfo p s
  | .channelList p => Sys2Proof.Machine.execChannelList p s
  | .lodgingGet p => Sys2Proof.Machine.execLodgingGet p s
  | .placementHint p => Sys2Proof.Machine.execPlacementHint p s
  | .channelPin p => Sys2Proof.Machine.execChannelPin p s
  | .engineStatus p => Sys2Proof.Machine.execEngineStatus p s
  | .quotaGet p => Sys2Proof.Machine.execQuotaGet p s
  | .quotaSet p => Sys2Proof.Machine.execQuotaSet p s
  | .waybillRead p => Sys2Proof.Machine.execWaybillRead p s
  | .digestRead p => Sys2Proof.Machine.execDigestRead p s
  | .checkpointList p => Sys2Proof.Machine.execCheckpointList p s
  | .replay p => Sys2Proof.Machine.execReplay p s
  | .replayStatus p => Sys2Proof.Machine.execReplayStatus p s
  | .replayAbort p => Sys2Proof.Machine.execReplayAbort p s
  | .planBegin p => Sys2Proof.Machine.execPlanBegin p s
  | .planLoad p => Sys2Proof.Machine.execPlanLoad p s
  | .planCommit p => Sys2Proof.Machine.execPlanCommit p s
  | .planAbort p => Sys2Proof.Machine.execPlanAbort p s
  | .planStatus p => Sys2Proof.Machine.execPlanStatus p s
  | .registryGet p => Sys2Proof.Machine.execRegistryGet p s
  | .registryExport p => Sys2Proof.Machine.execRegistryExport p s
  | .registryFind p => Sys2Proof.Machine.execRegistryFind p s
  | .groupConfig p => Sys2Proof.Machine.execGroupConfig p s
  | .groupMembers p => Sys2Proof.Machine.execGroupMembers p s
  | .groupStatus p => Sys2Proof.Machine.execGroupStatus p s
  | .lanternLevelGet p => Sys2Proof.Machine.execLanternLevelGet p s
  | .scheduleConfig p => Sys2Proof.Machine.execScheduleConfig p s
  | .holidaySet p => Sys2Proof.Machine.execHolidaySet p s
  | .solarGet p => Sys2Proof.Machine.execSolarGet p s
  | .override p => Sys2Proof.Machine.execOverride p s
  | .overrideCancel p => Sys2Proof.Machine.execOverrideCancel p s
  | .curfewSet p => Sys2Proof.Machine.execCurfewSet p s
  | .fallbackSet p => Sys2Proof.Machine.execFallbackSet p s
  | .escortConfig p => Sys2Proof.Machine.execEscortConfig p s
  | .escortProfile p => Sys2Proof.Machine.execEscortProfile p s
  | .chainageSet p => Sys2Proof.Machine.execChainageSet p s
  | .trafficHint p => Sys2Proof.Machine.execTrafficHint p s
  | .escortStatus p => Sys2Proof.Machine.execEscortStatus p s
  | .trackList p => Sys2Proof.Machine.execTrackList p s
  | .loopConfig p => Sys2Proof.Machine.execLoopConfig p s
  | .loopCoeff p => Sys2Proof.Machine.execLoopCoeff p s
  | .loopCompTable p => Sys2Proof.Machine.execLoopCompTable p s
  | .loopHold p => Sys2Proof.Machine.execLoopHold p s
  | .loopRelease p => Sys2Proof.Machine.execLoopRelease p s
  | .loopStatus p => Sys2Proof.Machine.execLoopStatus p s
  | .contentionSet p => Sys2Proof.Machine.execContentionSet p s
  | .oscConfig p => Sys2Proof.Machine.execOscConfig p s
  | .traceConfig p => Sys2Proof.Machine.execTraceConfig p s
  | .traceArm p => Sys2Proof.Machine.execTraceArm p s
  | .traceRead p => Sys2Proof.Machine.execTraceRead p s
  | .luminaireConfig p => Sys2Proof.Machine.execLuminaireConfig p s
  | .stringConfig p => Sys2Proof.Machine.execStringConfig p s
  | .colourTable p => Sys2Proof.Machine.execColourTable p s
  | .derateSet p => Sys2Proof.Machine.execDerateSet p s
  | .driveStatus p => Sys2Proof.Machine.execDriveStatus p s
  | .stringFaultClear p => Sys2Proof.Machine.execStringFaultClear p s
  | .circuitConfig p => Sys2Proof.Machine.execCircuitConfig p s
  | .meterInputConfig p => Sys2Proof.Machine.execMeterInputConfig p s
  | .calStart p => Sys2Proof.Machine.execCalStart p s
  | .calStatus p => Sys2Proof.Machine.execCalStatus p s
  | .calCommit p => Sys2Proof.Machine.execCalCommit p s
  | .meterRead p => Sys2Proof.Machine.execMeterRead p s
  | .harmonicsRead p => Sys2Proof.Machine.execHarmonicsRead p s
  | .energyRead p => Sys2Proof.Machine.execEnergyRead p s
  | .intervalConfig p => Sys2Proof.Machine.execIntervalConfig p s
  | .intervalRead p => Sys2Proof.Machine.execIntervalRead p s
  | .pulseOutConfig p => Sys2Proof.Machine.execPulseOutConfig p s
  | .pulseInConfig p => Sys2Proof.Machine.execPulseInConfig p s
  | .balanceRead p => Sys2Proof.Machine.execBalanceRead p s
  | .holdupResidueRead p => Sys2Proof.Machine.execHoldupResidueRead p s
  | .radioConfig p => Sys2Proof.Machine.execRadioConfig p s
  | .slotPlanSet p => Sys2Proof.Machine.execSlotPlanSet p s
  | .hopSet p => Sys2Proof.Machine.execHopSet p s
  | .radioStatus p => Sys2Proof.Machine.execRadioStatus p s
  | .regulatoryStatus p => Sys2Proof.Machine.execRegulatoryStatus p s
  | .txPowerSet p => Sys2Proof.Machine.execTxPowerSet p s
  | .partnerStatus p => Sys2Proof.Machine.execPartnerStatus p s
  | .partnerSlotAssign p => Sys2Proof.Machine.execPartnerSlotAssign p s
  | .faultList p => Sys2Proof.Machine.execFaultList p s
  | .faultAck p => Sys2Proof.Machine.execFaultAck p s
  | .sessionConfig p => Sys2Proof.Machine.execSessionConfig p s
  | .sessionImageLoad p => Sys2Proof.Machine.execSessionImageLoad p s
  | .sessionStatus p => Sys2Proof.Machine.execSessionStatus p s
  | .sessionAbort p => Sys2Proof.Machine.execSessionAbort p s
  | .timeConfig p => Sys2Proof.Machine.execTimeConfig p s
  | .timeStatus p => Sys2Proof.Machine.execTimeStatus p s
  | .timeSelect p => Sys2Proof.Machine.execTimeSelect p s
  | .ptpPortConfig p => Sys2Proof.Machine.execPtpPortConfig p s
  | .ppsConfig p => Sys2Proof.Machine.execPpsConfig p s
  | .rtcSet p => Sys2Proof.Machine.execRtcSet p s
  | .rtcGet p => Sys2Proof.Machine.execRtcGet p s
  | .rtcTrim p => Sys2Proof.Machine.execRtcTrim p s
  | .wakeSet p => Sys2Proof.Machine.execWakeSet p s
  | .storeStatus p => Sys2Proof.Machine.execStoreStatus p s
  | .regionList p => Sys2Proof.Machine.execRegionList p s
  | .prunerConfig p => Sys2Proof.Machine.execPrunerConfig p s
  | .regionRetire p => Sys2Proof.Machine.execRegionRetire p s
  | .keyGenerate p => Sys2Proof.Machine.execKeyGenerate p s
  | .keyImport p => Sys2Proof.Machine.execKeyImport p s
  | .keyInfo p => Sys2Proof.Machine.execKeyInfo p s
  | .keyDestroy p => Sys2Proof.Machine.execKeyDestroy p s
  | .attest p => Sys2Proof.Machine.execAttest p s
  | .lifecycleSet p => Sys2Proof.Machine.execLifecycleSet p s
  | .debugUnlock p => Sys2Proof.Machine.execDebugUnlock p s
  | .gbkRead p => Sys2Proof.Machine.execGbkRead p s
  | .gbkClear p => Sys2Proof.Machine.execGbkClear p s
  | .gbkStatus p => Sys2Proof.Machine.execGbkStatus p s
  | .twinConfig p => Sys2Proof.Machine.execTwinConfig p s
  | .twinStatus p => Sys2Proof.Machine.execTwinStatus p s
  | .twinSwitch p => Sys2Proof.Machine.execTwinSwitch p s
  | .pathStatus p => Sys2Proof.Machine.execPathStatus p s
  | .imageBegin p => Sys2Proof.Machine.execImageBegin p s
  | .imageData p => Sys2Proof.Machine.execImageData p s
  | .imageEnd p => Sys2Proof.Machine.execImageEnd p s
  | .imageStatus p => Sys2Proof.Machine.execImageStatus p s
  | .imageAbort p => Sys2Proof.Machine.execImageAbort p s
  | .fwsetInfo p => Sys2Proof.Machine.execFwsetInfo p s
  | .counterConfig p => Sys2Proof.Machine.execCounterConfig p s
  | .counterSnapshot p => Sys2Proof.Machine.execCounterSnapshot p s
  | .tmuxUnlock p => Sys2Proof.Machine.execTmuxUnlock p s
  | .supplyStatus p => Sys2Proof.Machine.execSupplyStatus p s
  | .thermalConfig p => Sys2Proof.Machine.execThermalConfig p s
  | .powerReport p => Sys2Proof.Machine.execPowerReport p s
  | .registerWrite offset value size => Sys2Proof.Machine.execRegisterWrite offset value size s
  | .registerShadowRead offset size => Sys2Proof.Machine.execRegisterShadowRead offset size s
  | .shadowTimeout offset => Sys2Proof.Machine.execShadowTimeout offset s
  | .spiLinkStatus instruction => Sys2Proof.Machine.execSpiLinkStatus instruction s
  | .hostLinkReset => Sys2Proof.Machine.execHostLinkReset s
  | .hostLinkState up speed msi aer => Sys2Proof.Machine.execHostLinkState up speed msi aer s
  | .ringCtlEnable ring value => Sys2Proof.Machine.execRingCtlEnable ring value s
  | .ringCtlDisable ring value => Sys2Proof.Machine.execRingCtlDisable ring value s
  | .cmdTailDoorbell ring value => Sys2Proof.Machine.execCmdTailDoorbell ring value s
  | .descriptorFetch ring desc packet => Sys2Proof.Machine.execDescriptorFetch ring desc packet s
  | .completionWrite ring => Sys2Proof.Machine.execCompletionWrite ring s
  | .cmpHeadAdvance ring value => Sys2Proof.Machine.execCmpHeadAdvance ring value s
  | .ringModerationTimeout ring => Sys2Proof.Machine.execRingModerationTimeout ring s
  | .intakeTimeout path tag => Sys2Proof.Machine.execIntakeTimeout path tag s
  | .mbxPost mailbox value => Sys2Proof.Machine.execMbxPost mailbox value s
  | .mbxDiscard mailbox value => Sys2Proof.Machine.execMbxDiscard mailbox value s
  | .mbxIack mailbox => Sys2Proof.Machine.execMbxIack mailbox s
  | .mbxOutboundPost mailbox => Sys2Proof.Machine.execMbxOutboundPost mailbox s
  | .mbxOack mailbox value => Sys2Proof.Machine.execMbxOack mailbox value s
  | .mbxAged mailbox => Sys2Proof.Machine.execMbxAged mailbox s
  | .remoteDatagram port addr udp dest b => Sys2Proof.Machine.execRemoteDatagram port addr udp dest b s
  | .serviceConnectionOpen => Sys2Proof.Machine.execServiceConnectionOpen s
  | .servicePacket b => Sys2Proof.Machine.execServicePacket b s
  | .serviceConnectionClose => Sys2Proof.Machine.execServiceConnectionClose s
  | .clerkAccept cls index offset => Sys2Proof.Machine.execClerkAccept cls index offset s
  | .tickBoundary events => Sys2Proof.Machine.execTickBoundary events s
  | .channelFaultDetect channel cause => Sys2Proof.Machine.execChannelFaultDetect channel cause s
  | .issueStep => Sys2Proof.Machine.execIssueStep s
  | .resultRelease => Sys2Proof.Machine.execResultRelease s
  | .streamMessageSend stream => Sys2Proof.Machine.execStreamMessageSend stream s
  | .streamResend stream message => Sys2Proof.Machine.execStreamResend stream message s
  | .replayTick => Sys2Proof.Machine.execReplayTick s
  | .rebuildStart owner => Sys2Proof.Machine.execRebuildStart owner s
  | .rebuildComplete owner => Sys2Proof.Machine.execRebuildComplete owner s
  | .placementReview work moves errors => Sys2Proof.Machine.execPlacementReview work moves errors s
  | .dataMoveComplete slot damaged => Sys2Proof.Machine.execDataMoveComplete slot damaged s
  | .stilePacketRead stile words corrected uncorrectable underrun stalls peak reader => Sys2Proof.Machine.execStilePacketRead stile words corrected uncorrectable underrun stalls peak reader s
  | .stileResend stile => Sys2Proof.Machine.execStileResend stile s
  | .planSessionIdle => Sys2Proof.Machine.execPlanSessionIdle s
  | .planCommitRecordValid => Sys2Proof.Machine.execPlanCommitRecordValid s
  | .overrideExpiry group slot => Sys2Proof.Machine.execOverrideExpiry group slot s
  | .refreshDue lantern => Sys2Proof.Machine.execRefreshDue lantern s
  | .travellerTimeout zone traveller => Sys2Proof.Machine.execTravellerTimeout zone traveller s
  | .occupyExpiry zone link => Sys2Proof.Machine.execOccupyExpiry zone link s
  | .fastSample sense ntc vbus => Sys2Proof.Machine.execFastSample sense ntc vbus s
  | .loopReleaseEffect slot => Sys2Proof.Machine.execLoopReleaseEffect slot s
  | .driveEntryReceive => Sys2Proof.Machine.execDriveEntryReceive s
  | .driveTickMessage ntc vbus => Sys2Proof.Machine.execDriveTickMessage ntc vbus s
  | .luminaireFallback luminaire => Sys2Proof.Machine.execLuminaireFallback luminaire s
  | .dimmingFrameStart => Sys2Proof.Machine.execDimmingFrameStart s
  | .switchingCycle string subPeriod afterHigh afterLow => Sys2Proof.Machine.execSwitchingCycle string subPeriod afterHigh afterLow s
  | .comparatorTrip string => Sys2Proof.Machine.execComparatorTrip string s
  | .meteringSample v i1 i16 vh cross => Sys2Proof.Machine.execMeteringSample v i1 i16 vh cross s
  | .calJobComplete cause done volts amps freq mean angle => Sys2Proof.Machine.execCalJobComplete cause done volts amps freq mean angle s
  | .pulseOutEdge output => Sys2Proof.Machine.execPulseOutEdge output s
  | .pulseOutEnd output => Sys2Proof.Machine.execPulseOutEnd output s
  | .pulseBacklogAged output => Sys2Proof.Machine.execPulseBacklogAged output s
  | .pulseInLevelAccept input level heldMs => Sys2Proof.Machine.execPulseInLevelAccept input level heldMs s
  | .intervalClose circuit => Sys2Proof.Machine.execIntervalClose circuit s
  | .balanceClose circuit => Sys2Proof.Machine.execBalanceClose circuit s
  | .metroDomainGate quiet => Sys2Proof.Machine.execMetroDomainGate quiet s
  | .pfwAccept residue parts us => Sys2Proof.Machine.execPfwAccept residue parts us s
  | .lastSaveCancel => Sys2Proof.Machine.execLastSaveCancel s
  | .slotStart radio slot sfdNs => Sys2Proof.Machine.execSlotStart radio slot sfdNs s
  | .radioAlertExpiry radio => Sys2Proof.Machine.execRadioAlertExpiry radio s
  | .frameReceive radio slot mini f => Sys2Proof.Machine.execFrameReceive radio slot mini f s
  | .receiveWindowTimeout radio slot mini => Sys2Proof.Machine.execReceiveWindowTimeout radio slot mini s
  | .downlinkAgeTimeout radio ref => Sys2Proof.Machine.execDownlinkAgeTimeout radio ref s
  | .changeInstant radio => Sys2Proof.Machine.execChangeInstant radio s
  | .radioFail radio cause => Sys2Proof.Machine.execRadioFail radio cause s
  | .occurrenceMissed partner index => Sys2Proof.Machine.execOccurrenceMissed partner index s
  | .primaryReturnMove partner => Sys2Proof.Machine.execPrimaryReturnMove partner s
  | .faultMeterTest record => Sys2Proof.Machine.execFaultMeterTest record s
  | .sessionDurationExpiry session => Sys2Proof.Machine.execSessionDurationExpiry session s
  | .ptpMessageReceive port domain m => Sys2Proof.Machine.execPtpMessageReceive port domain m s
  | .baseHoldover base => Sys2Proof.Machine.execBaseHoldover base s
  | .tbmEvaluation taiNs => Sys2Proof.Machine.execTbmEvaluation taiNs s
  | .tbmStep => Sys2Proof.Machine.execTbmStep s
  | .tbmSwitch => Sys2Proof.Machine.execTbmSwitch s
  | .tblComparison => Sys2Proof.Machine.execTblComparison s
  | .ppsInEdge falling offset => Sys2Proof.Machine.execPpsInEdge falling offset s
  | .ppsInLoss => Sys2Proof.Machine.execPpsInLoss s
  | .ppsOutPulse second => Sys2Proof.Machine.execPpsOutPulse second s
  | .rtcCtlCommit => Sys2Proof.Machine.execRtcCtlCommit s
  | .rtcCtlShadowRel => Sys2Proof.Machine.execRtcCtlShadowRel s
  | .rtcShadowRead reg => Sys2Proof.Machine.execRtcShadowRead reg s
  | .rtcShadowTimeout => Sys2Proof.Machine.execRtcShadowTimeout s
  | .rtcCommit => Sys2Proof.Machine.execRtcCommit s
  | .rtcTrimRegisterWrite value => Sys2Proof.Machine.execRtcTrimRegisterWrite value s
  | .rtcWakeWrite value => Sys2Proof.Machine.execRtcWakeWrite value s
  | .rtcRangeEnd => Sys2Proof.Machine.execRtcRangeEnd s
  | .oscStopDetect dip => Sys2Proof.Machine.execOscStopDetect dip s
  | .d0SupplySwitch millivolts => Sys2Proof.Machine.execD0SupplySwitch millivolts s
  | .vbatMeasure millivolts => Sys2Proof.Machine.execVbatMeasure millivolts s
  | .wakeFire => Sys2Proof.Machine.execWakeFire s
  | .wakeNRelease => Sys2Proof.Machine.execWakeNRelease s
  | .prunerBurst words owner => Sys2Proof.Machine.execPrunerBurst words owner s
  | .evacuationStart => Sys2Proof.Machine.execEvacuationStart s
  | .evacuationComplete => Sys2Proof.Machine.execEvacuationComplete s
  | .regionTestComplete region error => Sys2Proof.Machine.execRegionTestComplete region error s
  | .prunerOverdue => Sys2Proof.Machine.execPrunerOverdue s
  | .mramScrub errors => Sys2Proof.Machine.execMramScrub errors s
  | .vaultRequest => Sys2Proof.Machine.execVaultRequest s
  | .guestbookRecordEntry kind master detail => Sys2Proof.Machine.execGuestbookRecordEntry kind master detail s
  | .guestbookDrain => Sys2Proof.Machine.execGuestbookDrain s
  | .gbkCtlFreeze value => Sys2Proof.Machine.execGbkCtlFreeze value s
  | .gbkFreezeTimeout ms => Sys2Proof.Machine.execGbkFreezeTimeout ms s
  | .gbkSelWrite value => Sys2Proof.Machine.execGbkSelWrite value s
  | .gbkData15Read => Sys2Proof.Machine.execGbkData15Read s
  | .gbkEraseComplete => Sys2Proof.Machine.execGbkEraseComplete s
  | .heartbeatSend => Sys2Proof.Machine.execHeartbeatSend s
  | .heartbeatReceive path b => Sys2Proof.Machine.execHeartbeatReceive path b s
  | .heartbeatDeadline => Sys2Proof.Machine.execHeartbeatDeadline s
  | .takeover => Sys2Proof.Machine.execTakeover s
  | .waybillImport waybill counters windows digestTick digest tainted => Sys2Proof.Machine.execWaybillImport waybill counters windows digestTick digest tainted s
  | .twinFrameReceive ok frame => Sys2Proof.Machine.execTwinFrameReceive ok frame s
  | .twinFrameResend => Sys2Proof.Machine.execTwinFrameResend s
  | .joinTimeout => Sys2Proof.Machine.execJoinTimeout s
  | .syncComplete cause plan ckpt waybills => Sys2Proof.Machine.execSyncComplete cause plan ckpt waybills s
  | .syncRetry => Sys2Proof.Machine.execSyncRetry s
  | .handover => Sys2Proof.Machine.execHandover s
  | .linkStateChange port speed => Sys2Proof.Machine.execLinkStateChange port speed s
  | .powerOn hostsel bootsel d0Kept lateMs => Sys2Proof.Machine.execPowerOn hostsel bootsel d0Kept lateMs s
  | .porstNLow hostsel bootsel => Sys2Proof.Machine.execPorstNLow hostsel bootsel s
  | .rstNLow us takes => Sys2Proof.Machine.execRstNLow us takes s
  | .resetDeviceAssert => Sys2Proof.Machine.execResetDeviceAssert s
  | .boot readErrors refused badKeys damaged failed => Sys2Proof.Machine.execBoot readErrors refused badKeys damaged failed s
  | .resumeTickOpen tick => Sys2Proof.Machine.execResumeTickOpen tick s
  | .inkBeat => Sys2Proof.Machine.execInkBeat s
  | .watchdogExpiry ms => Sys2Proof.Machine.execWatchdogExpiry ms s
  | .bootRomSilent => Sys2Proof.Machine.execBootRomSilent s
  | .pwrcycRelease => Sys2Proof.Machine.execPwrcycRelease s
  | .domainRestartComplete domain ms => Sys2Proof.Machine.execDomainRestartComplete domain ms s
  | .trialComplete => Sys2Proof.Machine.execTrialComplete s
  | .imageStagingIdle => Sys2Proof.Machine.execImageStagingIdle s
  | .supplyMonitorCrossing supply above beyond mv => Sys2Proof.Machine.execSupplyMonitorCrossing supply above beyond mv s
  | .sequenceFault vcore vio => Sys2Proof.Machine.execSequenceFault vcore vio s
  | .sequenceFaultClear kept => Sys2Proof.Machine.execSequenceFaultClear kept s
  | .thermalReading temps mv ma => Sys2Proof.Machine.execThermalReading temps mv ma s
  | .cntCtlSnap value => Sys2Proof.Machine.execCntCtlSnap value s
  | .cntCtlSnapClear value => Sys2Proof.Machine.execCntCtlSnapClear value s
  | .cntCfgWrite counter value => Sys2Proof.Machine.execCntCfgWrite counter value s
  | .counterClear counter value => Sys2Proof.Machine.execCounterClear counter value s
  | .tmuxLeaseExpiry => Sys2Proof.Machine.execTmuxLeaseExpiry s
  | .boundaryScanInstruction code => Sys2Proof.Machine.execBoundaryScanInstruction code s
  | .driveControlArrival => Sys2Proof.Machine.execDriveControlArrival s
  | .metroControlArrival => Sys2Proof.Machine.execMetroControlArrival s
  | .announceReceiptTimeout port inst => Sys2Proof.Machine.execAnnounceReceiptTimeout port inst s
  | .ptpDelayReqSend port inst stamp => Sys2Proof.Machine.execPtpDelayReqSend port inst stamp s
  | .twinLinkStateChange up => Sys2Proof.Machine.execTwinLinkStateChange up s
  | .slotEraseComplete ms ok => Sys2Proof.Machine.execSlotEraseComplete ms ok s
  | .imageReadBackComplete readError => Sys2Proof.Machine.execImageReadBackComplete readError s

end Sys2Proof.Machine
end

