-- ==== Sys2Proof/Machine/Step.lean ====
section
/-!
DEFINITION. Machine/Step.lean: one step of the block: the command at the front of its queue, or, when none waits, one crystal cycle of the
calendar clock.
-/
namespace Sys2Proof.Machine

/-- One step. On an empty queue the calendar counts one crystal cycle (R336, R338), and what has risen to an enabled interrupt is
signalled (R92): DESIGN CHOICE, log entry 4. -/
def step (s : State) : Host.Outcome State Fault Refusal :=
  match s.pending with
  | [] => .next (idle s)
  | c :: rest => exec c { s with pending := rest }

/-- The command a word spells stands at the front of the queue. The table gives no row any bits, so no word spells one, and the queue
stays as it is. -/
def State.withFetchWord (s : State) (nbits w : Nat) : State :=
  match Sys2Proof.decodeTableWord nbits w with
  | some c => { s with pending := c :: s.pending }
  | none => s

end Sys2Proof.Machine
end

