-- ==== Sys2Proof/Safety.lean ====
section
/-!
DEFINITION. Safety.lean: what holds of the block whatever commands come: the invariant that every step keeps, and what no command touches.
-/
namespace Sys2Proof.Machine

/-- The event counters: 32 of them, each of 48 bits (R431). -/
def CountersOk (cs : List Counter) : Prop := cs.length = 32 ∧ ∀ c ∈ cs, c.count < 2 ^ 48

/-- The Guestbook: at most 256 places in the front buffer (R382); the stored records in strictly rising sequence, each below the next
sequence number. -/
def GuestbookOk (front : List GbkPlace) (stored : List GbkRec) (next : Nat) : Prop :=
  front.length ≤ 256 ∧ (stored.map (·.seq)).Pairwise (· < ·) ∧ ∀ q ∈ stored.map (·.seq), q < next

/-- The invariant: the counters and the Guestbook are well formed, GLOBAL_STATUS.ROLE shows the role (R392), the lifecycle state is one
of Table 4 of chapter 18 (R378), and the calendar shows a date and time that exist (R336, R337). -/
def Inv (s : State) : Prop :=
  CountersOk s.cnt.counters ∧ GuestbookOk s.gbk.front s.gbk.stored s.gbk.next ∧ s.mode.role = roleShown s.twin.role ∧ s.mode.lifecycle ≤ 4 ∧ s.rtc.now.valid = true

/-- From `s` to `t` the queue of waiting commands stands as it was, and the invariant is kept. -/
def Keeps (s t : State) : Prop := t.pending = s.pending ∧ (Inv s → Inv t)

/-- Whatever next state the outcome holds, `Keeps` relates it to `s`. -/
def KeepsAll (s : State) (o : Host.Outcome State Fault Refusal) : Prop := ∀ t, o = .next t → Keeps s t

/-- A command packet of opcode `op` that its path hands on: the path is served, the intake checks pass (R101), and nothing of its master
waits ahead of it (R83). -/
structure Taken (op : Nat) (p : Packet) (s : State) : Prop where
  opcode : p.opcode = op
  served : served s p = true
  passes : intakeCheck s p = none
  alone : s.clerk.intake.any (fun w => w.cls == 1 && w.index == masterOf s p.path) = false

/-- A command that does not enter the waybill and executes at once (R40, R45): its handle passes; no re-run holds back what it reads
(R409), and in RETIRED it only reads (R378). -/
structure Executes (op : Nat) (p : Packet) (s : State) : Prop extends Taken op p s where
  handle : ∃ i, opInfo op = some i ∧ i.w = false ∧ handleCheck s.ord i.handle p.handle = none
  running : s.boot.stage = 2 → readsState op = false
  lifecycle : s.mode.lifecycle = 4 → changes p = false

/-- A command that enters the waybill and finds room there (R20, R25): ticks run, the module is not RETIRED and no standby, it is no retry
(R28), and its master's quota has room. -/
structure Orders (op : Nat) (p : Packet) (s : State) : Prop extends Taken op p s where
  enters : ∃ i, opInfo op = some i ∧ i.w = true
  lifecycle : s.mode.lifecycle ≠ 4
  open_ : orderingClosed s = false
  fresh : dupOf s (masterOf s p.path) p.seq = none
  room : quotaSpent s (entryOf s (waitingOf s p)) = false

/-- The command is carried out: the next state is `t`, and the answer `a` goes out on the packet's path. -/
abbrev Answered (c : Instr) (p : Packet) (s : State) (a : Ans) (t : State) : Prop := exec c s = .next (answer p a t)

/-- The query is answered, and nothing changes but that: `P` holds of the answer. -/
def Reports (c : Instr) (p : Packet) (s : State) (P : Ans → Prop) : Prop := ∃ a, Answered c p s a (takeTag p s) ∧ a.later = false ∧ P a

/-- The commands that enter the waybill, with their opcodes (R103). -/
def orderedRows : List ((Packet → Instr) × Nat) :=
  [(.rankSet, 0x0011), (.streamConfig, 0x0040), (.channelCreate, 0x0101), (.channelStart, 0x0102), (.channelHold, 0x0103), (.channelRelease, 0x0104),
   (.channelDestroy, 0x0105), (.quotaSet, 0x0202), (.planCommit, 0x0303), (.groupConfig, 0x0401), (.groupMembers, 0x0402), (.scheduleConfig, 0x0410),
   (.holidaySet, 0x0411), (.override, 0x0420), (.overrideCancel, 0x0421), (.curfewSet, 0x0430), (.fallbackSet, 0x0431), (.escortConfig, 0x0501),
   (.escortProfile, 0x0502), (.chainageSet, 0x0503), (.trafficHint, 0x0504), (.loopConfig, 0x0601), (.loopCoeff, 0x0602), (.loopCompTable, 0x0603)] ++
  [(.loopHold, 0x0604), (.loopRelease, 0x0605), (.contentionSet, 0x0607), (.oscConfig, 0x0608), (.traceConfig, 0x0610), (.luminaireConfig, 0x0701),
   (.stringConfig, 0x0702), (.colourTable, 0x0703), (.derateSet, 0x0704), (.stringFaultClear, 0x0706), (.circuitConfig, 0x0801), (.meterInputConfig, 0x0802),
   (.calCommit, 0x0805), (.intervalConfig, 0x0821), (.pulseOutConfig, 0x0823), (.pulseInConfig, 0x0824), (.radioConfig, 0x0901), (.slotPlanSet, 0x0902),
   (.hopSet, 0x0903), (.txPowerSet, 0x0906), (.partnerSlotAssign, 0x0A02), (.faultAck, 0x0A04), (.sessionConfig, 0x0A10), (.sessionAbort, 0x0A13)]

/-- The commands that do not enter the waybill, with their opcodes (R40). -/
def immediateRows : List ((Packet → Instr) × Nat) :=
  [(.deviceInfo, 0x0001), (.echo, 0x0002), (.resetDevice, 0x0008), (.domainRestart, 0x0009), (.bootReport, 0x000A), (.recoveryStatus, 0x000B),
   (.rankGet, 0x0010), (.mailboxBindGet, 0x0018), (.mailboxBindSet, 0x0019), (.remoteCfgGet, 0x0020), (.remoteCfgSet, 0x0021), (.streamCredit, 0x0041),
   (.streamRead, 0x0042), (.streamStatus, 0x0043), (.channelReset, 0x0106), (.channelInfo, 0x0107), (.channelList, 0x0108), (.lodgingGet, 0x0110),
   (.placementHint, 0x0111), (.channelPin, 0x0112), (.engineStatus, 0x0113), (.quotaGet, 0x0201), (.waybillRead, 0x0210), (.digestRead, 0x0211)] ++
  [(.checkpointList, 0x0212), (.replay, 0x0220), (.replayStatus, 0x0221), (.replayAbort, 0x0222), (.planBegin, 0x0301), (.planLoad, 0x0302),
   (.planAbort, 0x0304), (.planStatus, 0x0305), (.registryGet, 0x0310), (.registryExport, 0x0311), (.registryFind, 0x0312), (.groupStatus, 0x0403),
   (.lanternLevelGet, 0x0404), (.solarGet, 0x0412), (.escortStatus, 0x0505), (.trackList, 0x0506), (.loopStatus, 0x0606), (.traceArm, 0x0611),
   (.traceRead, 0x0612), (.driveStatus, 0x0705), (.calStart, 0x0803), (.calStatus, 0x0804), (.meterRead, 0x0806), (.harmonicsRead, 0x0807)] ++
  [(.energyRead, 0x0820), (.intervalRead, 0x0822), (.balanceRead, 0x0825), (.holdupResidueRead, 0x0826), (.radioStatus, 0x0904), (.regulatoryStatus, 0x0905),
   (.partnerStatus, 0x0A01), (.faultList, 0x0A03), (.sessionImageLoad, 0x0A11), (.sessionStatus, 0x0A12), (.timeConfig, 0x0B01), (.timeStatus, 0x0B02),
   (.timeSelect, 0x0B03), (.ptpPortConfig, 0x0B04), (.ppsConfig, 0x0B05), (.rtcSet, 0x0C01), (.rtcGet, 0x0C02), (.rtcTrim, 0x0C03),
   (.wakeSet, 0x0C04), (.storeStatus, 0x0D01), (.regionList, 0x0D02), (.prunerConfig, 0x0D03), (.regionRetire, 0x0D04), (.keyGenerate, 0x0E01)] ++
  [(.keyImport, 0x0E02), (.keyInfo, 0x0E03), (.keyDestroy, 0x0E04), (.attest, 0x0E05), (.lifecycleSet, 0x0E06), (.debugUnlock, 0x0E07),
   (.gbkRead, 0x0F01), (.gbkClear, 0x0F02), (.gbkStatus, 0x0F03), (.twinConfig, 0x1001), (.twinStatus, 0x1002), (.twinSwitch, 0x1003),
   (.pathStatus, 0x1004), (.imageBegin, 0x1101), (.imageData, 0x1102), (.imageEnd, 0x1103), (.imageStatus, 0x1104), (.imageAbort, 0x1105),
   (.fwsetInfo, 0x1106), (.counterConfig, 0x1201), (.counterSnapshot, 0x1202), (.tmuxUnlock, 0x1203), (.supplyStatus, 0x1301), (.thermalConfig, 0x1302)] ++
  [(.powerReport, 0x1303)]

/-- What a command of opcode `op`, issued by master `m` and standing at place `n` of the waybill, does in the computation of its tick (R103):
the computation after it, and its answer. -/
def Effects (op n m : Nat) (p : Packet) (c : Calc) (r : Calc × Ans) : Prop := ∃ f, handlerOf op n = some f ∧ f m p c = r

/-- What a command that does not enter the waybill does when it is executed (R40). -/
def commandOf (op : Nat) : Option (Packet → State → State × Ans) := (commandLow op).orElse (fun _ => commandHigh op)

/-- The host-window offsets that the chapters assign to a register or to an aperture (R10). -/
def assignedOffset (off : Nat) : Bool :=
  off ≤ 0x20 || (0x100 ≤ off && off ≤ 0x10C) || (0x200 ≤ off && off ≤ 0x224) || (0x400 ≤ off && off < 0x800 && off % 0x100 ≤ 0x28) ||
    (0x1000 ≤ off && off < 0x1400 && off % 0x40 ≤ 0x20) || (0x1400 ≤ off && off ≤ 0x1608) || (0x2000 ≤ off && off ≤ 0x2034) || (0x2100 ≤ off && off ≤ 0x2118) ||
    (0x2140 ≤ off && off < 0x2180) || (0x2200 ≤ off && off ≤ 0x2214) || (0x2280 ≤ off && off ≤ 0x2418) || (0x2800 ≤ off && off ≤ 0x2848) ||
    (0x3000 ≤ off && off < 0x3C00 && off % 0x40 ≤ 0x20) || (0x3C00 ≤ off && off ≤ 0x3C14)

end Sys2Proof.Machine
end

