-- ==== Sys2Proof/WellFormed.lean ====
section
/-!
DEFINITION. WellFormed.lean: which commands make sense: a packet's parts agree, and an operand that numbers a part of the hardware names
one that exists.
-/
namespace Sys2Proof

/-- The parts of a command packet agree (R95): header fields fit their widths, and the payload is what arrived after the header. -/
def Packet.wf (p : Packet) : Bool :=
  decide (p.version < 256) && decide (p.flags < 256) && decide (p.opcode < 65536) && decide (p.tag < 256) && decide (p.length < 65536) && decide (p.seq < 2 ^ 32) &&
    p.payload.length == p.received - 16

/-- An owner of store words names one of the three device computations. -/
def StoreOwner.wf : StoreOwner → Bool
  | .device k => decide (k < 3)
  | _ => true

/-- A store event names a region, a word of it and a finding of its code, or a part of the log store that can fail. -/
def StoreEvent.wf : StoreEvent → Bool
  | .read r w c o | .merge r w c o => decide (r < 128) && decide (w < 262144) && decide (1 ≤ c) && decide (c ≤ 3) && o.wf
  | .overwrite r w => decide (r < 128) && decide (w < 262144)
  | .logFault _ => true

/-- A command is well formed. -/
def Instr.wf : Instr → Bool
  | .deviceInfo p => p.wf
  | .echo p => p.wf
  | .rankGet p => p.wf
  | .rankSet p => p.wf
  | .mailboxBindGet p => p.wf
  | .mailboxBindSet p => p.wf
  | .remoteCfgGet p => p.wf
  | .remoteCfgSet p => p.wf
  | .streamConfig p => p.wf
  | .streamCredit p => p.wf
  | .streamRead p => p.wf
  | .streamStatus p => p.wf
  | .resetDevice p => p.wf
  | .domainRestart p => p.wf
  | .bootReport p => p.wf
  | .recoveryStatus p => p.wf
  | .channelCreate p => p.wf
  | .channelStart p => p.wf
  | .channelHold p => p.wf
  | .channelRelease p => p.wf
  | .channelDestroy p => p.wf
  | .channelReset p => p.wf
  | .channelInfo p => p.wf
  | .channelList p => p.wf
  | .lodgingGet p => p.wf
  | .placementHint p => p.wf
  | .channelPin p => p.wf
  | .engineStatus p => p.wf
  | .quotaGet p => p.wf
  | .quotaSet p => p.wf
  | .waybillRead p => p.wf
  | .digestRead p => p.wf
  | .checkpointList p => p.wf
  | .replay p => p.wf
  | .replayStatus p => p.wf
  | .replayAbort p => p.wf
  | .planBegin p => p.wf
  | .planLoad p => p.wf
  | .planCommit p => p.wf
  | .planAbort p => p.wf
  | .planStatus p => p.wf
  | .registryGet p => p.wf
  | .registryExport p => p.wf
  | .registryFind p => p.wf
  | .groupConfig p => p.wf
  | .groupMembers p => p.wf
  | .groupStatus p => p.wf
  | .lanternLevelGet p => p.wf
  | .scheduleConfig p => p.wf
  | .holidaySet p => p.wf
  | .solarGet p => p.wf
  | .override p => p.wf
  | .overrideCancel p => p.wf
  | .curfewSet p => p.wf
  | .fallbackSet p => p.wf
  | .escortConfig p => p.wf
  | .escortProfile p => p.wf
  | .chainageSet p => p.wf
  | .trafficHint p => p.wf
  | .escortStatus p => p.wf
  | .trackList p => p.wf
  | .loopConfig p => p.wf
  | .loopCoeff p => p.wf
  | .loopCompTable p => p.wf
  | .loopHold p => p.wf
  | .loopRelease p => p.wf
  | .loopStatus p => p.wf
  | .contentionSet p => p.wf
  | .oscConfig p => p.wf
  | .traceConfig p => p.wf
  | .traceArm p => p.wf
  | .traceRead p => p.wf
  | .luminaireConfig p => p.wf
  | .stringConfig p => p.wf
  | .colourTable p => p.wf
  | .derateSet p => p.wf
  | .driveStatus p => p.wf
  | .stringFaultClear p => p.wf
  | .circuitConfig p => p.wf
  | .meterInputConfig p => p.wf
  | .calStart p => p.wf
  | .calStatus p => p.wf
  | .calCommit p => p.wf
  | .meterRead p => p.wf
  | .harmonicsRead p => p.wf
  | .energyRead p => p.wf
  | .intervalConfig p => p.wf
  | .intervalRead p => p.wf
  | .pulseOutConfig p => p.wf
  | .pulseInConfig p => p.wf
  | .balanceRead p => p.wf
  | .holdupResidueRead p => p.wf
  | .radioConfig p => p.wf
  | .slotPlanSet p => p.wf
  | .hopSet p => p.wf
  | .radioStatus p => p.wf
  | .regulatoryStatus p => p.wf
  | .txPowerSet p => p.wf
  | .partnerStatus p => p.wf
  | .partnerSlotAssign p => p.wf
  | .faultList p => p.wf
  | .faultAck p => p.wf
  | .sessionConfig p => p.wf
  | .sessionImageLoad p => p.wf
  | .sessionStatus p => p.wf
  | .sessionAbort p => p.wf
  | .timeConfig p => p.wf
  | .timeStatus p => p.wf
  | .timeSelect p => p.wf
  | .ptpPortConfig p => p.wf
  | .ppsConfig p => p.wf
  | .rtcSet p => p.wf
  | .rtcGet p => p.wf
  | .rtcTrim p => p.wf
  | .wakeSet p => p.wf
  | .storeStatus p => p.wf
  | .regionList p => p.wf
  | .prunerConfig p => p.wf
  | .regionRetire p => p.wf
  | .keyGenerate p => p.wf
  | .keyImport p => p.wf
  | .keyInfo p => p.wf
  | .keyDestroy p => p.wf
  | .attest p => p.wf
  | .lifecycleSet p => p.wf
  | .debugUnlock p => p.wf
  | .gbkRead p => p.wf
  | .gbkClear p => p.wf
  | .gbkStatus p => p.wf
  | .twinConfig p => p.wf
  | .twinStatus p => p.wf
  | .twinSwitch p => p.wf
  | .pathStatus p => p.wf
  | .imageBegin p => p.wf
  | .imageData p => p.wf
  | .imageEnd p => p.wf
  | .imageStatus p => p.wf
  | .imageAbort p => p.wf
  | .fwsetInfo p => p.wf
  | .counterConfig p => p.wf
  | .counterSnapshot p => p.wf
  | .tmuxUnlock p => p.wf
  | .supplyStatus p => p.wf
  | .thermalConfig p => p.wf
  | .powerReport p => p.wf
  | .registerWrite offset value size => decide (offset < 65536) && decide (value < 2 ^ 32) && [1, 2, 4].contains size
  | .registerShadowRead offset size => decide (offset < 65536) && [1, 2, 4].contains size
  | .shadowTimeout offset => decide (offset < 65536)
  | .spiLinkStatus instruction => decide (instruction < 256)
  | .hostLinkReset => true
  | .hostLinkState _ _ _ _ => true
  | .ringCtlEnable ring value => decide (ring < 4) && decide (value < 2 ^ 32)
  | .ringCtlDisable ring value => decide (ring < 4) && decide (value < 2 ^ 32)
  | .cmdTailDoorbell ring value => decide (ring < 4) && decide (value < 2 ^ 32)
  | .descriptorFetch ring desc _ => decide (ring < 4) && desc.length == 32
  | .completionWrite ring => decide (ring < 4)
  | .cmpHeadAdvance ring value => decide (ring < 4) && decide (value < 2 ^ 32)
  | .ringModerationTimeout ring => decide (ring < 4)
  | .intakeTimeout _ _ => true
  | .mbxPost mailbox value => decide (mailbox < 16) && decide (value < 2 ^ 32)
  | .mbxDiscard mailbox value => decide (mailbox < 16) && decide (value < 2 ^ 32)
  | .mbxIack mailbox => decide (mailbox < 16)
  | .mbxOutboundPost mailbox => decide (mailbox < 16)
  | .mbxOack mailbox value => decide (mailbox < 16) && decide (value < 2 ^ 32)
  | .mbxAged mailbox => decide (mailbox < 16)
  | .remoteDatagram port _ _ _ _ => decide (port < 2)
  | .serviceConnectionOpen => true
  | .servicePacket _ => true
  | .serviceConnectionClose => true
  | .clerkAccept cls _ _ => 1 ≤ cls && cls ≤ 7
  | .tickBoundary events => events.all StoreEvent.wf
  | .channelFaultDetect _ _ => true
  | .issueStep => true
  | .resultRelease => true
  | .streamMessageSend _ => true
  | .streamResend _ _ => true
  | .replayTick => true
  | .rebuildStart _ => true
  | .rebuildComplete _ => true
  | .placementReview _ _ _ => true
  | .dataMoveComplete slot _ => decide (slot < 4096)
  | .stilePacketRead stile words _ _ _ _ _ _ => decide (stile < 48) && 1 ≤ words && words ≤ 1024
  | .stileResend stile => decide (stile < 48)
  | .planSessionIdle => true
  | .planCommitRecordValid => true
  | .overrideExpiry _ _ => true
  | .refreshDue lantern => decide (lantern < 8192)
  | .travellerTimeout _ _ => true
  | .occupyExpiry _ _ => true
  | .fastSample _ _ _ => true
  | .loopReleaseEffect _ => true
  | .driveEntryReceive => true
  | .driveTickMessage _ _ => true
  | .luminaireFallback luminaire => decide (luminaire < 8)
  | .dimmingFrameStart => true
  | .switchingCycle string _ _ _ => decide (string < 24)
  | .comparatorTrip string => decide (string < 24)
  | .meteringSample _ _ _ _ _ => true
  | .calJobComplete _ _ _ _ _ _ _ => true
  | .pulseOutEdge output => decide (output < 4)
  | .pulseOutEnd output => decide (output < 4)
  | .pulseBacklogAged output => decide (output < 4)
  | .pulseInLevelAccept input _ _ => decide (input < 4)
  | .intervalClose circuit => decide (circuit < 8)
  | .balanceClose circuit => decide (circuit < 8)
  | .metroDomainGate _ => true
  | .pfwAccept _ _ _ => true
  | .lastSaveCancel => true
  | .slotStart radio slot _ => decide (radio < 4) && decide (slot < 20)
  | .radioAlertExpiry radio => decide (radio < 4)
  | .frameReceive radio slot _ _ => decide (radio < 4) && decide (slot < 20)
  | .receiveWindowTimeout radio slot _ => decide (radio < 4) && decide (slot < 20)
  | .downlinkAgeTimeout radio _ => decide (radio < 4)
  | .changeInstant radio => decide (radio < 4)
  | .radioFail radio _ => decide (radio < 4)
  | .occurrenceMissed partner _ => decide (partner < 8192)
  | .primaryReturnMove partner => decide (partner < 8192)
  | .faultMeterTest _ => true
  | .sessionDurationExpiry _ => true
  | .ptpMessageReceive port _ _ => decide (port < 2)
  | .baseHoldover base => decide (base < 2)
  | .tbmEvaluation _ => true
  | .tbmStep => true
  | .tbmSwitch => true
  | .tblComparison => true
  | .ppsInEdge _ _ => true
  | .ppsInLoss => true
  | .ppsOutPulse _ => true
  | .rtcCtlCommit => true
  | .rtcCtlShadowRel => true
  | .rtcShadowRead _ => true
  | .rtcShadowTimeout => true
  | .rtcCommit => true
  | .rtcTrimRegisterWrite value => decide (value < 2 ^ 32)
  | .rtcWakeWrite value => decide (value < 2 ^ 32)
  | .rtcRangeEnd => true
  | .oscStopDetect _ => true
  | .d0SupplySwitch _ => true
  | .vbatMeasure _ => true
  | .wakeFire => true
  | .wakeNRelease => true
  | .prunerBurst words owner => words.length == 8 && owner.wf
  | .evacuationStart => true
  | .evacuationComplete => true
  | .regionTestComplete region _ => decide (region < 128)
  | .prunerOverdue => true
  | .mramScrub _ => true
  | .vaultRequest => true
  | .guestbookRecordEntry _ _ _ => true
  | .guestbookDrain => true
  | .gbkCtlFreeze value => decide (value < 2 ^ 32)
  | .gbkFreezeTimeout _ => true
  | .gbkSelWrite value => decide (value < 2 ^ 32)
  | .gbkData15Read => true
  | .gbkEraseComplete => true
  | .heartbeatSend => true
  | .heartbeatReceive path _ => decide (path < 2)
  | .heartbeatDeadline => true
  | .takeover => true
  | .waybillImport _ _ _ _ _ _ => true
  | .twinFrameReceive _ _ => true
  | .twinFrameResend => true
  | .joinTimeout => true
  | .syncComplete _ _ _ _ => true
  | .syncRetry => true
  | .handover => true
  | .linkStateChange port speed => decide (port < 2) && decide (speed < 3)
  | .powerOn _ _ _ _ => true
  | .porstNLow _ _ => true
  | .rstNLow _ _ => true
  | .resetDeviceAssert => true
  | .boot _ _ _ _ _ => true
  | .resumeTickOpen _ => true
  | .inkBeat => true
  | .watchdogExpiry _ => true
  | .bootRomSilent => true
  | .pwrcycRelease => true
  | .domainRestartComplete domain _ => decide (domain < 12)
  | .trialComplete => true
  | .imageStagingIdle => true
  | .supplyMonitorCrossing supply _ _ _ => decide (supply < 4)
  | .sequenceFault _ _ => true
  | .sequenceFaultClear _ => true
  | .thermalReading _ _ _ => true
  | .cntCtlSnap value => decide (value < 2 ^ 32)
  | .cntCtlSnapClear value => decide (value < 2 ^ 32)
  | .cntCfgWrite counter value => decide (counter < 32) && decide (value < 2 ^ 32)
  | .counterClear counter value => decide (counter < 32) && decide (value < 2 ^ 32)
  | .tmuxLeaseExpiry => true
  | .boundaryScanInstruction code => decide (code < 32)
  | .driveControlArrival => true
  | .metroControlArrival => true
  | .announceReceiptTimeout port inst => decide (port < 2) && decide (inst < 2)
  | .ptpDelayReqSend port inst _ => decide (port < 2) && decide (inst < 2)
  | .twinLinkStateChange _ => true
  | .slotEraseComplete _ _ => true
  | .imageReadBackComplete _ => true

end Sys2Proof
end

