-- ==== Sys2Proof/Certificates/Slice0/Obligations.lean ====
section
/-!
DEFINITION. Certificates/Slice0/Obligations.lean: the statements about the model, for the provers.
-/
open Sys2Proof Sys2Proof.Machine

/-! ### Commands executed at once -/

/-- The commands of areas 0x00: identity, bindings, the remote path (ch. 4, 5). Each carries out its effect and answers OK, on every path. -/
def Obligations.HostCommandsComplete : Prop :=
  ∀ (p : Packet) (s : State),
    (Executes 0x0001 p s → Answered (.deviceInfo p) p s
      { payload := le 2 0x9640 ++ le 1 bandCode ++ le 1 1 ++ le 8 Config.unitSerial.toNat ++ le 1 (bits (fwSet s) 16 8) ++ le 1 (bits (fwSet s) 8 8) ++
          le 1 (bits (fwSet s) 0 8) ++ le 1 s.mode.lifecycle ++ le 1 s.mode.role ++ le 1 (b2n s.host.hostsel) ++ zeros 6 } (takeTag p s)) ∧
    (Executes 0x0002 p s → Answered (.echo p) p s { payload := p.payload } (takeTag p s)) ∧
    (Executes 0x0010 p s → Answered (.rankGet p) p s { payload := (s.ord.rank.map (le 1)).flatten ++ zeros 3 ++ le 8 s.ord.rankTick } (takeTag p s)) ∧
    (Executes 0x0018 p s → Answered (.mailboxBindGet p) p s
      { payload := bindTable s ++ le 1 (b2n s.host.bindWaiting) ++ zeros 7 ++ (if s.host.bindWaiting then s.host.bindRecord.getD (zeros 32) else zeros 32) } (takeTag p s)) ∧
    (Executes 0x0019 p s →
      (∀ m, m < p.payload.length / 2 → fld p.payload (2 * m) 1 ∈ [0, 1, 4] ∧ fld p.payload (2 * m + 1) 1 ∈ [5, 6, 7]) →
      Answered (.mailboxBindSet p) p s {} (gbk 0x0407 (masterOf s p.path) (le 1 (b2n (!p.payload.isEmpty)))
        { takeTag p s with host := { s.host with bindRecord := if p.payload.isEmpty then none else some p.payload, bindWaiting := !p.payload.isEmpty } })) ∧
    (Executes 0x0020 p s → Answered (.remoteCfgGet p) p s { payload := le 2 s.paths.udpPort ++ le 1 s.paths.portsEnabled ++ zeros 5 } (takeTag p s)) ∧
    (Executes 0x0021 p s → 1024 ≤ fld p.payload 0 2 → fld p.payload 2 1 ≤ 3 →
      Answered (.remoteCfgSet p) p s {} (gbk 0x040A (masterOf s p.path) (le 2 (fld p.payload 0 2) ++ le 1 (fld p.payload 2 1) ++ le 1 (masterOf s p.path))
        { takeTag p s with paths := { (takeTag p s).paths with udpPort := fld p.payload 0 2, portsEnabled := fld p.payload 2 1 } }))

/-- The commands of streams (ch. 3, 5): credit, read and status. -/
def Obligations.StreamCommandsComplete : Prop :=
  ∀ (p : Packet) (s : State) (cfg : StreamCfg) (ch : Channel),
    (Executes 0x0041 p s → streamOf s.ord p.handle = some cfg → cfg.configured = true → cfg.master = 3 → masterOf s p.path = 3 →
      fld p.payload 0 8 ≤ ((s.streams.find? (fun r => r.slot == hSlot p.handle)).getD { slot := hSlot p.handle }).lastSent → fld p.payload 8 1 ≤ 64 →
      Answered (.streamCredit p) p s {} (modStream (hSlot p.handle) (fun r => { r.acked (fld p.payload 0 8) with window := fld p.payload 8 1 }) (takeTag p s))) ∧
    (Executes 0x0042 p s → chanOf s.ord p.handle = some ch → streamOf s.ord p.handle = some cfg → cfg.configured = true → cfg.master ≠ 3 → cfg.master = masterOf s p.path →
      ∀ r, (s.streams.find? (fun r => r.slot == hSlot p.handle)).getD { slot := hSlot p.handle } = r → r.ack ≤ fld p.payload 0 8 → fld p.payload 0 8 ≤ r.lastSent →
      let a := fld p.payload 0 8
      let t := modStream (hSlot p.handle) (StreamRun.acked a) (takeTag p s)
      (ch.state ≠ .running → Answered (.streamRead p) p s { payload := messagePayload 0 0 false [] } t) ∧
      (ch.state = .running → ∀ m, (r.acked a).unacked.find? (fun m => m.num == a + 1) = some m → Answered (.streamRead p) p s { payload := m.payload } (count 0x079 t)) ∧
      (ch.state = .running → (r.acked a).unacked.find? (fun m => m.num == a + 1) = none → r.waiting = [] → Answered (.streamRead p) p s { payload := messagePayload 0 0 false [] } t) ∧
      (ch.state = .running → (r.acked a).unacked.find? (fun m => m.num == a + 1) = none → r.waiting ≠ [] →
        Answered (.streamRead p) p s { payload := (formMessage p.handle (r.acked a) t).2.payload } (formMessage p.handle (r.acked a) t).1)) ∧
    (Executes 0x0043 p s → ∀ r, (s.streams.find? (fun r => r.slot == hSlot p.handle)).getD { slot := hSlot p.handle, window := 0 } = r →
      Answered (.streamStatus p) p s
        { payload := le 8 r.lastSent ++ le 8 r.ack ++ le 4 r.queued ++ le 8 r.spilled ++ le 8 r.dropped ++ le 4 r.gaps ++ le 1 r.window ++ zeros 7 } (takeTag p s))

/-- The commands of start-up and recovery (ch. 21). -/
def Obligations.RecoveryCommandsComplete : Prop :=
  ∀ (p : Packet) (s : State),
    (Executes 0x0008 p s → fld p.payload 0 1 ≤ 1 → fld p.payload 4 4 = Config.unitSerial.toNat % 2 ^ 32 → (fld p.payload 0 1 = 1 → masterOf s p.path = 2) → s.boot.pending = none →
      Answered (.resetDevice p) p s {} (gbk 0x0204 (masterOf s p.path) (le 1 (fld p.payload 0 1) ++ le 1 (masterOf s p.path))
        { takeTag p s with boot := { s.boot with pending := some (fld p.payload 0 1) } })) ∧
    (Executes 0x0009 p s → (fld p.payload 0 1 ∈ [2, 3, 4, 11] ∧ masterOf s p.path = 5) ∨ (fld p.payload 0 1 ∈ [6, 7, 9, 10] ∧ masterOf s p.path ∈ [0, 1, 2, 3, 5]) →
      (fld p.payload 0 1 = 10 → driveGated s = false) → (s.boot.domains.all (fun x => x.1 != fld p.payload 0 1)) = true →
      exec (.domainRestart p) s = .next (beginRestart (fld p.payload 0 1)
        { takeTag p s with boot := { s.boot with domains := s.boot.domains ++ [(fld p.payload 0 1, s.uptime, some p)] } })) ∧
    (Executes 0x000A p s → Answered (.bootReport p) p s
      { payload := le 4 s.boot.boots ++ le 1 s.boot.code ++ le 1 s.boot.restore ++ le 1 (s.boot.flags % 2 ^ 5) ++ zeros 1 ++ le 8 s.boot.installed ++ le 8 s.boot.rerun ++
          le 8 s.boot.sealed ++ le 8 s.boot.resumeTick ++ le 4 s.boot.readyMs ++ le 4 s.boot.restoreMs ++ le 4 s.boot.beaconMs ++ le 4 (fwSet s) ++ le 4 s.ord.plan.gen ++ zeros 4 }
      (takeTag p s)) ∧
    (Executes 0x000B p s → Answered (.recoveryStatus p) p s
      { payload := le 1 s.inn.rebuilds.length ++ le 2 (sumBy (fun (x : Nat × Nat × Option Packet) => 2 ^ x.1) s.boot.domains) ++ zeros 1 ++
          le 1 (s.boot.expiries.filter (fun t => s.uptime ≤ t + 600000)).length ++ zeros 3 ++ le 4 s.boot.deviceResets ++ le 4 s.boot.powerOns ++ le 4 s.boot.watchdogs ++
          le 4 s.boot.cycles ++ le 4 s.boot.restarts ++ le 4 s.boot.rebuilds ++ le 4 (s.uptime - s.boot.released) ++ zeros 4 }
      (takeTag p s))

/-- The commands of channels and placement (ch. 3). -/
def Obligations.PlacementCommandsComplete : Prop :=
  ∀ (p : Packet) (s : State),
    (Executes 0x0106 p s → ∀ ch c, chanOf s.ord p.handle = some ch → ch.state ≠ .created → ch.state ≠ .configured → s.inn.rebuilds.length + s.inn.waiting.length < 4 →
      (∀ r ∈ s.inn.rebuilds, r.handle ≠ p.handle) → (∀ r ∈ s.inn.waiting, r.handle ≠ p.handle) → newestCkpt s = some c → ringHolds s c.tick = true →
      exec (.channelReset p) s = .next { takeTag p s with inn := { s.inn with waiting := s.inn.waiting ++ [{ handle := p.handle, packet := some p }] } }) ∧
    (Executes 0x0107 p s → ∀ ch, chanOf s.ord p.handle = some ch → Reports (.channelInfo p) p s (fun a => a.status = .ok ∧
      a.payload = le 4 p.handle.toNat ++ le 1 (stateCode ch.state) ++
        le 1 (b2n ch.tainted + 2 * b2n (s.inn.rebuilds.any (fun r => r.handle == p.handle)) + 4 * b2n (s.inn.lodges.any (fun l => l.slot == hSlot p.handle && l.pinned))) ++
        le 1 ch.cause ++ zeros 1 ++ le 8 ch.created ++ le 8 ch.since ++ fit 16 ch.label)) ∧
    (Executes 0x0108 p s → fld p.payload 0 2 ≤ 4095 → fld p.payload 2 1 ≤ 9 → fld p.payload 3 1 ≠ 0 → Reports (.channelList p) p s (fun a => a.status = .ok ∧
      ∃ got next, got = (s.ord.channels.filter (fun c => fld p.payload 0 2 ≤ hSlot c.handle && (fld p.payload 2 1 == 0 || hType c.handle == fld p.payload 2 1))).take (fld p.payload 3 1) ∧
        a.payload = le 2 got.length ++ le 2 next ++ (got.map (fun c => le 4 c.handle.toNat)).flatten)) ∧
    (Executes 0x0110 p s → ∀ l, s.inn.lodges.find? (fun l => l.slot == hSlot p.handle) = some l → Reports (.lodgingGet p) p s (fun a => a.status = .ok ∧
      ∃ tail, a.payload = le 1 l.engine ++ le 1 (l.engine / 4) ++ le 1 l.hint ++ le 1 (b2n l.notFollowed + 2 * b2n l.pinned + 4 * b2n l.moving.isSome) ++ le 4 l.planned ++
        le 4 l.relocations ++ le 1 l.regions.length ++ zeros 3 ++ tail)) ∧
    (Executes 0x0111 p s → fld p.payload 0 1 ≤ 3 → Answered (.placementHint p) p s {}
      (noteHints { takeTag p s with inn := { (modLodge (hSlot p.handle) (fun l => { l with hint := fld p.payload 0 1, near := BitVec.ofNat 32 (fld p.payload 4 4) }) s).inn with review := true } })) ∧
    (Executes 0x0112 p s → s.mode.lifecycle = 3 →
      (fld p.payload 0 1 = 0xFF → Answered (.channelPin p) p s {} (modLodge (hSlot p.handle) (fun l => { l with pinned := false }) (takeTag p s))) ∧
      (fld p.payload 0 1 ≠ 0xFF → engineUsable s (fld p.payload 0 1) = true →
        Answered (.channelPin p) p s {} (modLodge (hSlot p.handle) (fun l => { l with pinned := true })
          (if s.inn.lodges.any (fun l => l.slot == hSlot p.handle && l.engine == fld p.payload 0 1) then takeTag p s else moveLodge (hSlot p.handle) (fld p.payload 0 1) (takeTag p s))))) ∧
    (Executes 0x0113 p s → Reports (.engineStatus p) p s (fun a => a.status = .ok ∧ a.payload.length = 12 * 16))

/-- The commands on waybills, checkpoints and replays (ch. 2). -/
def Obligations.WaybillCommandsComplete : Prop :=
  ∀ (p : Packet) (s : State),
    (Executes 0x0201 p s → Answered (.quotaGet p) p s { payload := (s.ord.quotas.map Quota.bytes).flatten } (takeTag p s)) ∧
    (Executes 0x0210 p s → ∀ w, s.clerk.ring.find? (fun w => w.tick == fld p.payload 0 8) = some w → fld p.payload 12 2 ≠ 0 → fld p.payload 12 2 ≤ 4064 →
      fld p.payload 8 4 < w.size → s.store.badWaybills.any (fun x => x.1 == fld p.payload 0 8 && fld p.payload 8 4 < x.2 + 8 &&
        decide (x.2 < fld p.payload 8 4 + min (fld p.payload 12 2) (w.size - fld p.payload 8 4))) = false →
      Answered (.waybillRead p) p s { payload := le 8 (fld p.payload 0 8) ++ le 4 w.size ++ le 4 (fld p.payload 8 4) ++
        (w.bytes.drop (fld p.payload 8 4)).take (min (fld p.payload 12 2) (w.size - fld p.payload 8 4)) } (takeTag p s)) ∧
    (Executes 0x0211 p s → fld p.payload 8 1 ≠ 0 → fld p.payload 8 1 ≤ 63 → ∀ rs, digestRun s.clerk (fld p.payload 8 1) (fld p.payload 0 8) = rs → rs ≠ [] →
      (∀ r ∈ rs, s.store.logBad.contains (.digest r.tick) = false) →
      Answered (.digestRead p) p s { payload := le 8 (fld p.payload 0 8) ++ le 1 rs.length ++ zeros 7 ++ (rs.map (fun r => digestBytes r.d ++ digestBytes r.o)).flatten } (takeTag p s)) ∧
    (Executes 0x0211 p s → fld p.payload 8 1 ≠ 0 → fld p.payload 8 1 ≤ 63 → ∀ rs r rest, digestRun s.clerk (fld p.payload 8 1) (fld p.payload 0 8) = rs ++ r :: rest → rs ≠ [] →
      (∀ x ∈ rs, s.store.logBad.contains (.digest x.tick) = false) → s.store.logBad.contains (.digest r.tick) = true →
      Answered (.digestRead p) p s { payload := le 8 (fld p.payload 0 8) ++ le 1 rs.length ++ zeros 7 ++ (rs.map (fun r => digestBytes r.d ++ digestBytes r.o)).flatten }
        (logReadFails (.digest (fld p.payload 0 8 + rs.length)) (takeTag p s))) ∧
    (Executes 0x0212 p s → Reports (.checkpointList p) p s (fun a => a.status = .ok ∧
      ∃ tail, a.payload = le 1 (s.ckpts.length + s.saved.length) ++ zeros 7 ++ tail ∧ tail.length = 48 * (s.ckpts.length + s.saved.length))) ∧
    (Executes 0x0220 p s → ∀ c, fld p.payload 0 8 ≤ fld p.payload 8 8 → fld p.payload 16 1 ≤ 1 → 1 ≤ fld p.payload 17 1 → fld p.payload 17 1 ≤ 8 → s.clerk.replay.busy = false →
      (s.ckpts.filter (fun c => c.tick < fld p.payload 0 8)).getLast? = some c → fld p.payload 8 8 < s.clerk.tick →
      (∀ k, c.tick < k → k ≤ fld p.payload 8 8 → ringHas s k = true) → s.ord.plan.fromTick ≤ c.tick → c.fw = fwVector s →
      Answered (.replay p) p s
        { payload := le 4 s.clerk.nextJob ++ le 8 c.tick ++ le 4 (((fld p.payload 8 8 - c.tick) * 250 + fld p.payload 17 1 - 1) / fld p.payload 17 1) }
        { takeTag p s with
          clerk := { s.clerk with
            replay := { job := s.clerk.nextJob, state := 1, first := fld p.payload 0 8, last := fld p.payload 8 8, mode := fld p.payload 16 1, speed := fld p.payload 17 1, next := c.tick + 1 }
            nextJob := s.clerk.nextJob + 1 }
          replayOrd := c.ord }) ∧
    (Executes 0x0221 p s → ∀ r, s.clerk.replay = r → Answered (.replayStatus p) p s
      { payload := le 4 r.job ++ le 1 r.state ++ le 1 r.mismatch ++ le 2 r.section_ ++ le 8 r.done ++ le 8 r.mismatchTick ++ le 4 r.mismatches ++ le 1 r.reason ++ zeros 3 } (takeTag p s)) ∧
    (Executes 0x0222 p s → s.clerk.replay.busy = true → Answered (.replayAbort p) p s {}
      { takeTag p s with clerk := { s.clerk with replay := { s.clerk.replay with state := 5, reason := 2 } } })

/-- The commands of plans and the registry (ch. 6). -/
def Obligations.PlanCommandsComplete : Prop :=
  ∀ (p : Packet) (s : State),
    (Executes 0x0301 p s → s.plan.state = 0 → ∀ k, k = (if s.ord.plan.gen = 0 then 0 else freeSlot s) →
      Answered (.planBegin p) p s { payload := le 4 (s.ord.plan.gen + 1) ++ le 1 k ++ zeros 3 }
        (gbk 0x0701 (masterOf s p.path) (le 4 (s.ord.plan.gen + 1) ++ le 1 (masterOf s p.path) ++ le 1 (b2n (bit (fld p.payload 0 1) 0)))
          { takeTag p s with plan := { s.plan with
              state := 1, step := 0, owner := masterOf s p.path, gen := s.ord.plan.gen + 1, slot := k, switched := false
              slots := setAt s.plan.slots k (if bit (fld p.payload 0 1) 0 then s.ord.plan.plan else {}), records := modAt s.plan.records k (fun r => { r with valid := false }) } })) ∧
    (Executes 0x0302 p s → ∀ sec n, sec = fld p.payload 0 1 → n = fld p.payload 2 2 → planItemSize sec ≠ 0 → n ≠ 0 → (sec = 1 → n = 1) →
      (chunks (planItemSize sec) n (p.payload.drop 8)).all (planItemOk sec) = true → s.plan.state = 1 → s.plan.owner = masterOf s p.path →
      ∀ pl, pl = (chunks (planItemSize sec) n (p.payload.drop 8)).foldl (Plan.write sec) (staged s.plan) →
      Answered (.planLoad p) p s { payload := le 2 (pl.section_ sec).length ++ zeros 6 } { takeTag p s with plan := { s.plan with slots := setAt s.plan.slots s.plan.slot pl } }) ∧
    (Executes 0x0304 p s → s.plan.state ≠ 0 → masterOf s p.path = s.plan.owner ∨ masterOf s p.path = 2 → (s.plan.state = 2 → s.plan.switched = false) →
      Answered (.planAbort p) p s {} (gbk 0x0702 (masterOf s p.path) (le 4 s.plan.gen ++ le 1 0)
        { takeTag p s with plan := { s.plan with state := 0, step := 0, owner := 0xFF, outcome := 2, slots := setAt s.plan.slots s.plan.slot {} } })) ∧
    (Executes 0x0305 p s → Reports (.planStatus p) p s (fun a => a.status = .ok ∧
      ∃ tail, a.payload = le 1 s.plan.state ++ le 1 s.plan.step ++ le 1 s.plan.owner ++ le 1 s.plan.outcome ++ le 4 (if s.plan.state = 0 then 0 else s.plan.gen) ++ le 4 s.ord.plan.gen ++ tail)) ∧
    (Executes 0x0310 p s → ∀ n pl, fld p.payload 0 2 = n → n ≤ 10239 → placementOf s.rel n = some pl → Reports (.registryGet p) p s (fun a =>
      a.status = (if registryTainted s.rel n then .tainted else .ok) ∧ a.payload = le 8 s.relTick ++ registryRecord s.rel n pl)) ∧
    (Executes 0x0311 p s → ∀ ch c r, chanOf s.ord p.handle = some ch → streamOf s.ord p.handle = some c → s.streams.find? (fun r => r.slot == hSlot p.handle) = some r →
      fld p.payload 0 2 ≤ fld p.payload 2 2 → fld p.payload 2 2 ≤ 10239 → ch.state = .running → c.selectors.any (fun x => x.code == 0x0301) = true → r.snapshot = none →
      Answered (.registryExport p) p s { payload := le 4 (((placedIn s.rel (fld p.payload 0 2) (fld p.payload 2 2)).length + 63) / 64) ++ zeros 4 }
        (modStream (hSlot p.handle) (fun r => { r with snapshot := some (fld p.payload 0 2, fld p.payload 2 2) }) (takeTag p s))) ∧
    (Executes 0x0312 p s → ∀ kind most key, fld p.payload 0 1 = kind → fld p.payload 2 2 = most → (p.payload.drop 8).take 12 = key → kind ≤ 3 → 1 ≤ most → most ≤ 2032 →
      (kind = 1 → fld key 0 2 ≤ 4095 ∧ fld key 4 4 ≤ fld key 8 4) → (kind = 2 → (fld key 0 1 ≤ 7 ∨ fld key 0 1 = 0xFF) ∧ fld key 1 1 ≤ 3) →
      (kind = 3 → hType (BitVec.ofNat 32 (fld key 0 4)) = 1) → Reports (.registryFind p) p s (fun a => a.status = .ok ∧
        ∃ got next, got = ((s.rel.plan.plan.placements.filter (fun x => fld p.payload 4 2 ≤ x.1 && registryMatch s.rel kind key x.1 x.2)).map (·.1)).take most ∧
          a.payload = le 8 s.relTick ++ le 2 got.length ++ le 2 next ++ zeros 4 ++ (got.map (le 2)).flatten))

/-- The queries of light, the escort, loops and drives (ch. 7 to 10), and TRACE_ARM. A query of ordered state is as of the latest released
tick, and answers TAINTED when its channel is tainted. -/
def Obligations.ControlQueriesComplete : Prop :=
  ∀ (p : Packet) (s : State) (ch : Channel),
    (Executes 0x0403 p s → chanOf s.rel p.handle = some ch → ∀ g, groupOf s.rel p.handle = some g → Reports (.groupStatus p) p s (fun a =>
      a.status = (if ch.tainted then .tainted else .ok) ∧ a.payload.length = 152 ∧ ∃ tail, a.payload = le 8 s.relTick ++ le 4 p.handle.toNat ++ le 1 (stateCode ch.state) ++ tail)) ∧
    (Executes 0x0404 p s → fld p.payload 0 2 ≤ 8191 → (placementOf s.rel (fld p.payload 0 2)).isSome = true → Reports (.lanternLevelGet p) p s (fun a =>
      (a.status = .ok ∨ a.status = .tainted) ∧ ∃ tail, a.payload = le 8 s.relTick ++ le 4 ((look (fld p.payload 0 2) s.rel.members).getD 0).toNat ++ tail)) ∧
    (Executes 0x0412 p s → chanOf s.ord p.handle = some ch → ∀ x sol, scheduleOf s.ord p.handle = some x → ch.judged ≠ .created →
      2000 ≤ fld p.payload 0 2 → fld p.payload 0 2 ≤ 2199 → 1 ≤ fld p.payload 2 1 → fld p.payload 2 1 ≤ 12 → 1 ≤ fld p.payload 3 1 →
      fld p.payload 3 1 ≤ monthDays (fld p.payload 0 2) (fld p.payload 2 1) → x.solarCached s.ord (daysOf (fld p.payload 0 2) (fld p.payload 2 1) (fld p.payload 3 1)) = sol →
      Reports (.solarGet p) p s (fun a => a.status = .ok ∧
        a.payload = le 8 ((sol.dusk + s.ord.utc - 32) * 4).toNat ++ le 8 ((sol.dawn + s.ord.utc - 32) * 4).toNat ++ le 1 sol.flags ++ zeros 7)) ∧
    (Executes 0x0505 p s → chanOf s.rel p.handle = some ch → Reports (.escortStatus p) p s (fun a =>
      a.status = (if ch.tainted then .tainted else .ok) ∧ ∃ tail, a.payload = le 8 s.relTick ++ le 4 p.handle.toNat ++ le 1 (stateCode ch.state) ++ tail)) ∧
    (Executes 0x0506 p s → 1 ≤ fld p.payload 2 1 → fld p.payload 2 1 ≤ 32 → fld p.payload 0 2 ≤ 1023 → Reports (.trackList p) p s (fun a =>
      (a.status = .ok ∨ a.status = .tainted) ∧
      ∃ got next, got = (((escortOf s.rel p.handle).getD {}).tracks.filter (fun t => fld p.payload 0 2 ≤ t.1)).take (fld p.payload 2 1) ∧
        a.payload = le 8 s.relTick ++ le 1 got.length ++ zeros 1 ++ le 2 next ++ zeros 4 ++ (got.map (·.2)).flatten)) ∧
    (Executes 0x0606 p s → ∀ x, loopTarget s.ord p.handle (fld p.payload 0 1) = .ok x → Reports (.loopStatus p) p s (fun a =>
      (a.status = .ok ∨ a.status = .tainted) ∧ ∃ tail, a.payload = le 8 (if x.cls = 1 then s.relTick else 0) ++ tail)) ∧
    (Executes 0x0611 p s → chanOf s.ord p.handle = some ch → ∀ r, s.drive.traces.find? (fun r => r.handle == p.handle) = some r → ch.state = .running →
      (fld p.payload 0 1 = 0 → Answered (.traceArm p) p s {} (modTrace p.handle (fun r => { handle := r.handle, cfg := r.cfg, state := 1 }) (takeTag p s))) ∧
      (fld p.payload 0 1 = 1 → r.state = 1 → Answered (.traceArm p) p s {} (modTrace p.handle
        (fun x => { x with state := 2, forced := true, rows := lastN x.cfg.pre x.rows, preRows := (lastN x.cfg.pre x.rows).length, left := r.cfg.depth - r.cfg.pre, instant := tbmNs s })
        (gbk 0x0A07 0xFF (le 4 p.handle.toNat ++ le 1 1) (count 0x0CA (takeTag p s))))) ∧
      (fld p.payload 0 1 = 2 → r.state = 1 → Answered (.traceArm p) p s {} (modTrace p.handle (fun r => { handle := r.handle, cfg := r.cfg }) (takeTag p s)))) ∧
    (Executes 0x0612 p s → ∀ r, s.drive.traces.find? (fun r => r.handle == p.handle) = some r → r.state ≠ 0 → 1 ≤ fld p.payload 4 2 → fld p.payload 4 2 ≤ 1008 →
      fld p.payload 0 1 < r.cfg.nodes.length → fld p.payload 2 2 + fld p.payload 4 2 ≤ r.rows.length → Reports (.traceRead p) p s (fun a => a.status = .ok ∧
        a.payload = le 1 r.state ++ le 1 (b2n r.forced + 2 * b2n (!r.gone.isEmpty)) ++ zeros 2 ++ le 2 r.rows.length ++ le 2 (if r.state = 1 then min r.rows.length r.cfg.pre else r.preRows) ++
          le 8 r.instant ++ (((r.rows.drop (fld p.payload 2 2)).take (fld p.payload 4 2)).map (fun row => leS 4 ((row[fld p.payload 0 1]?).getD 0))).flatten)) ∧
    (Executes 0x0705 p s → chanOf s.ord p.handle = some ch → ∀ l, s.drive.lums.find? (fun l => l.handle == p.handle) = some l → Reports (.driveStatus p) p s (fun a =>
      a.status = .ok ∧ ∃ tail, a.payload = le 8 (tickNow s) ++ le 1 l.num ++ le 1 (stateCode ch.state) ++ tail))

/-- The commands of metrology and energy (ch. 11, 12). -/
def Obligations.MeteringCommandsComplete : Prop :=
  ∀ (p : Packet) (s : State) (ch : Channel),
    (Executes 0x0803 p s → ∀ b, p.payload = b → fld b 0 1 ≤ 4 → fld b 1 1 ≤ 15 → ((fld b 0 1 = 4 ∧ fld b 2 1 ≤ 2) ∨ fld b 2 1 = 0) → fld b 3 1 ≤ 1 → 50 ≤ fld b 4 2 → fld b 4 2 ≤ 3000 →
      (fldS b 16 4).natAbs ≤ 90000 → s.metro.job.state ≠ 1 →
      ∀ j : CalJob, j = { step := fld b 0 1, input := fld b 1 1, path := fld b 3 1 } →
      (j.target.1 = 0 → fld b 1 1 ≤ 3) →
      (j.target.1 = 1 → j.target.2 = 0 → bit ((s.metro.iin[fld b 1 1]?).getD { value := 0 }).flags 2 = false) →
      (j.target.1 = 1 → j.target.2 = 1 → bit ((s.metro.iin[fld b 1 1]?).getD { value := 0 }).flags 1 = false) →
      ∃ job : CalJob, job.job = s.metro.nextJob ∧ job.state = 1 ∧ job.step = fld b 0 1 ∧ job.input = fld b 1 1 ∧ job.asked = fld b 4 2 ∧
        Answered (.calStart p) p s { payload := le 4 s.metro.nextJob ++ le 4 (fld b 4 2 * 1000 / s.metro.nominal) }
          (gbk 0x0C03 (masterOf s p.path) (le 4 s.metro.nextJob ++ le 1 (fld b 0 1) ++ le 1 (fld b 1 1) ++ le 1 j.target.2)
            { takeTag p s with metro := { s.metro with job := job, nextJob := s.metro.nextJob + 1 } })) ∧
    (Executes 0x0804 p s → ∀ j, s.metro.job = j → Answered (.calStatus p) p s
      { payload := le 4 j.job ++ le 1 j.state ++ le 1 j.cause ++ le 1 j.step ++ le 1 j.input ++ le 2 j.done ++ le 2 j.asked ++ le 4 j.v ++ le 4 j.i ++ leS 4 (j.angle / 1000) ++ le 4 j.freq ++
          leS 4 j.old ++ leS 4 j.new ++ zeros 4 } (takeTag p s)) ∧
    (Executes 0x0806 p s → chanOf s.ord p.handle = some ch → ch.state ≠ .created → ch.state ≠ .configured → ∀ r t b, s.metro.runs.find? (fun r => r.handle == p.handle) = some r →
      r.last = some (t, b) → Reports (.meterRead p) p s (fun a => a.status = .ok ∧ ∃ tail, a.payload = le 8 t ++ b ++ tail)) ∧
    (Executes 0x0807 p s → ∀ c z, circuitOf s.ord p.handle = some c → 1 ≤ fld p.payload 0 1 → fld p.payload 0 1 ≤ c.phases.length → fld p.payload 1 1 ≤ 1 →
      (s.metro.runs.find? (fun r => r.handle == p.handle)).bind (fun r => r.harmonics.find? (fun z => z.phase == fld p.payload 0 1 && z.quantity == fld p.payload 1 1)) = some z →
      Answered (.harmonicsRead p) p s
        { payload := le 8 z.tick ++ le 4 z.fund ++ le 4 z.freq ++ le 2 z.thd ++ zeros 2 ++ (z.orders.map (fun o => le 2 o.1 ++ leS 2 o.2)).flatten } (takeTag p s)) ∧
    (Executes 0x0820 p s → chanOf s.ord p.handle = some ch → ch.state ≠ .created → ch.state ≠ .configured → ∀ c m, circuitOf s.ord p.handle = some c → meterOf s.rel (c.num.getD 0) = m →
      Reports (.energyRead p) p s (fun a => (a.status = .ok ∨ a.status = .tainted) ∧
        a.payload = le 8 s.relTick ++ m.registersBody c.phases.length false ++ le 4 m.seq ++ le 8 m.start ++ le 2 m.waiting.length ++ zeros 6)) ∧
    (Executes 0x0822 p s → ∀ k, k = (if p.handle = deviceHandle then fld p.payload 0 1 else ((circuitOf s.ord p.handle).bind (·.num)).getD 0) →
      (p.handle = deviceHandle → fld p.payload 0 1 ≤ 7) → (fld p.payload 1 1 = 2 ∨ fld p.payload 1 1 = 3) → 1 ≤ fld p.payload 2 1 → fld p.payload 2 1 ≤ 30 →
      ∀ all, all = (if fld p.payload 1 1 = 2 then (meterOf s.rel k).intervals else (meterOf s.rel k).balances) → (∃ r ∈ all, r.1 = fld p.payload 4 4) →
      ∀ got, got = (all.filter (fun r => fld p.payload 4 4 ≤ r.1)).take (fld p.payload 2 1) → ∀ part : Nat → LogPart, part = (if fld p.payload 1 1 = 2 then LogPart.interval k else LogPart.balance k) →
      ((∀ r ∈ got, s.store.logBad.contains (part r.1) = false) →
        Reports (.intervalRead p) p s (fun a => a.status = .ok ∧ a.payload = le 1 got.length ++ zeros 7 ++ (got.map (·.2)).flatten)) ∧
      (∀ x, (got.map (fun r => part r.1)).find? s.store.logBad.contains = some x → Answered (.intervalRead p) p s { status := .storeError } (logReadFails x (takeTag p s)))) ∧
    (Executes 0x0825 p s → Reports (.balanceRead p) p s (fun a => (a.status = .ok ∨ a.status = .tainted) ∧ ∃ tail, a.payload = le 8 s.relTick ++ tail)) ∧
    (Executes 0x0826 p s → Reports (.holdupResidueRead p) p s (fun a => a.status = .ok ∧ ∃ tail, a.payload = le 1 (s.metro.residues.take 16).length ++ zeros 7 ++ tail))

/-- The commands of radios, partners and sessions that execute at once (ch. 13, 14). -/
def Obligations.RadioCommandsComplete : Prop :=
  ∀ (p : Packet) (s : State) (ch : Channel),
    (Executes 0x0904 p s → fld p.payload 0 1 ≤ 3 → Reports (.radioStatus p) p s (fun a => a.status = .ok ∧
      ∃ tail, a.payload = le 8 (tickNow s) ++ le 1 (radioState s (fld p.payload 0 1)) ++ tail)) ∧
    (Executes 0x0905 p s → Reports (.regulatoryStatus p) p s (fun a => a.status = .ok ∧
      ∃ tail, a.payload = le 1 (if Config.isN1 then 2 else 1) ++ zeros 3 ++ le 4 (hopAt s.ord s.clerk.tick).limit ++ le 2 (hopAt s.ord s.clerk.tick).window ++ zeros 6 ++ tail)) ∧
    (Executes 0x0A01 p s → ∀ n, fld p.payload 0 2 = n → n ≤ 10239 → (placementOf s.rel n).isSome = true → Reports (.partnerStatus p) p s (fun a =>
      a.status = (if s.rel.devTaint.contains 1 then .tainted else .ok) ∧
      a.payload = le 8 s.relTick ++ le 1 (regOf s.rel n).airState ++ le 1 (regOf s.rel n).radio ++ le 1 (partnerAt s.rel n).misses ++
        le 1 (sortBy (·.index) (partnerAt s.rel n).assigns).length ++ le 8 (partnerAt s.rel n).rescue ++ le 4 (partnerAt s.rel n).counter ++ zeros 4 ++
        ((sortBy (·.index) (partnerAt s.rel n).assigns).map Assign.bytes).flatten)) ∧
    (Executes 0x0A03 p s → 1 ≤ fld p.payload 4 1 → fld p.payload 4 1 ≤ 100 → fld p.payload 5 1 ≤ 3 → Reports (.faultList p) p s (fun a =>
      a.status = (if s.rel.devTaint.contains 1 then .tainted else .ok) ∧
      ∃ got next tail, got = ((sortBy (·.num) s.rel.air.faults).filter (fun f => fld p.payload 0 4 ≤ f.num && (!bit (fld p.payload 5 1) 0 || f.open_) && (!bit (fld p.payload 5 1) 1 || !f.acked))).take
        (fld p.payload 4 1) ∧ a.payload = le 8 s.relTick ++ le 1 got.length ++ zeros 3 ++ le 4 next ++ tail)) ∧
    (Executes 0x0A11 p s → chanOf s.ord p.handle = some ch → ch.state ≠ .running → ch.state ≠ .held →
      ∀ x, x = (let x0 := streamerOf s (hSlot p.handle); if fld p.payload 0 4 = 0 ∧ x0.placed then { slot := x0.slot } else x0) →
      64 ≤ fld p.payload 4 4 → fld p.payload 4 4 ≤ 8388608 → fld p.payload 8 1 = 0 → fld p.payload 0 4 = x.bytes.length → (x.bytes = [] ∨ fld p.payload 4 4 = x.total) →
      x.bytes.length + (p.payload.drop 12).length < fld p.payload 4 4 →
      Answered (.sessionImageLoad p) p s { payload := le 4 (x.bytes.length + (p.payload.drop 12).length) ++ zeros 4 }
        (setStreamer { x with bytes := x.bytes ++ p.payload.drop 12, total := fld p.payload 4 4 } (takeTag p s))) ∧
    (Executes 0x0A12 p s → chanOf s.rel p.handle = some ch → ∀ x, sessionOf s.rel p.handle = some x → Reports (.sessionStatus p) p s (fun a =>
      a.status = (if ch.tainted then .tainted else .ok) ∧ ∃ tail, a.payload = le 8 s.relTick ++ le 1 x.phase ++ le 1 x.cause ++ zeros 2 ++ le 2 x.k ++ le 2 x.t ++ tail))

/-- The commands of time bases and of the calendar clock (ch. 15, 16). -/
def Obligations.TimeCommandsComplete : Prop :=
  ∀ (p : Packet) (s : State) (b : List Byte), p.payload = b →
    (Executes 0x0B01 p s → fld b 0 1 ≠ fld b 1 1 → fld b 0 1 ≤ 127 → fld b 1 1 ≤ 127 → fld b 2 1 ≤ 1 → fld b 3 1 ≤ 1 → fld b 4 1 ≤ 1 → (fld b 5 1 = 1 ∨ fld b 5 1 = 2) →
      5 ≤ fld b 6 2 → fld b 6 2 ≤ 1000 → 1 ≤ fld b 8 2 → fld b 8 2 ≤ 1000 → 100 ≤ fld b 12 4 → fld b 12 4 ≤ 1000000 → s.time.insts.any (bandwidthConflict (fld b 6 2)) = false →
      fld b 0 1 = (baseAt s.time 0).domain → fld b 1 1 = (baseAt s.time 1).domain →
      ∃ t, Answered (.timeConfig p) p s {} t ∧ t.time.auto = (fld b 4 1 == 1) ∧ t.time.bandwidth = fld b 6 2 ∧ t.time.absorb = fld b 8 2 ∧ t.time.mismatchNs = fld b 12 4 ∧
        t.time.source = (if s.time.state = 0 ∨ s.time.state = 1 then fld b 5 1 else s.time.source) ∧ t.clerk = s.clerk ∧ t.ord = s.ord ∧ t.rtc = s.rtc ∧ t.gbk = s.gbk) ∧
    (Executes 0x0B02 p s → Reports (.timeStatus p) p s (fun a => a.status = .ok ∧
      ∃ tail, a.payload = le 8 (tickNow s) ++ tbmValue s ++ le 1 s.time.state ++ le 1 (if s.time.state = 0 then 0 else s.time.source) ++ leS 2 (utcOffset s.time) ++ tail)) ∧
    (Executes 0x0B03 p s → (fld b 0 1 = 1 ∨ fld b 0 1 = 2) → (baseAt s.time (fld b 0 1 - 1)).state = 3 → s.time.pendingSwitch = none →
      (s.time.source = fld b 0 1 → Answered (.timeSelect p) p s { payload := le 8 (tickNow s) } (takeTag p s)) ∧
      (s.time.source ≠ fld b 0 1 → Answered (.timeSelect p) p s { payload := le 8 (tickNow s + 1) } { takeTag p s with time := { s.time with pendingSwitch := some (fld b 0 1, 1) } })) ∧
    (Executes 0x0B04 p s → ∀ i : PtpInst, i = { enable := fld b 2 1 == 1, mech := fld b 3 1, transport := fld b 4 1, respMode := fld b 5 1, logAnnounce := fldS b 6 1, logSync := fldS b 7 1, logDelay := fldS b 8 1, timeout := fld b 9 1, asym := fldS b 12 4, state := 0 } →
      fld b 0 1 ≤ 1 → fld b 1 1 ≤ 1 → fld b 2 1 ≤ 1 → (i.mech = 1 ∨ i.mech = 2) → 1 ≤ i.transport → i.transport ≤ 3 → (i.respMode = 1 ∨ i.respMode = 2) → 2 ≤ i.timeout → i.timeout ≤ 10 → i.asym.natAbs ≤ 1000000 →
      0 ≤ i.logAnnounce → i.logAnnounce ≤ 4 → -4 ≤ i.logSync → i.logSync ≤ 1 → -4 ≤ i.logDelay → i.logDelay ≤ 5 → bandwidthConflict s.time.bandwidth i = false →
      (instAt s.time (fld b 0 1) (fld b 1 1)).state ≠ 2 →
      Answered (.ptpPortConfig p) p s {} (baseEnables (fld b 1 1) (modInst (fld b 0 1) (fld b 1 1) (fun _ => { i with state := if i.enable then 1 else 0 }) (takeTag p s)))) ∧
    (Executes 0x0B05 p s → ∀ c : PpsCfg, c = { inMode := fld b 0 1, inEdge := fld b 1 1, cable := fld b 4 4, threshold := fld b 8 4, outEnable := fld b 12 1 == 1, outBase := fld b 13 1, polarity := fld b 14 1, width := fld b 16 2, offset := fldS b 20 4 } →
      c.inMode ≤ 1 → c.inEdge ≤ 1 → c.cable ≤ 1000000 → 50 ≤ c.threshold → c.threshold ≤ 1000000 → fld b 12 1 ≤ 1 → c.outBase ≤ 2 → c.polarity ≤ 1 → 1 ≤ c.width → c.width ≤ 900 →
      -500000000 ≤ c.offset → c.offset ≤ 499999999 →
      Answered (.ppsConfig p) p s {} { takeTag p s with time := { s.time with pps := c, ppsOffset := if c.inMode = 0 then none else s.time.ppsOffset, ppsAlert := c.inMode == 1 && s.time.ppsAlert } }) ∧
    (Executes 0x0C01 p s → exec (.rtcSet p) s = .next { takeTag p s with rtc := { s.rtc with commits := s.rtc.commits ++ [(.command p,
      { year := fld b 0 2, month := fld b 2 1, day := fld b 3 1, hour := fld b 4 1, min := fld b 5 1, sec := fld b 6 1, sub := fld b 8 2 })] } }) ∧
    (Executes 0x0C02 p s → ∀ t, s.rtc.now = t → Answered (.rtcGet p) p s
      { payload := le 2 t.year ++ le 1 t.month ++ le 1 t.day ++ le 1 t.hour ++ le 1 t.min ++ le 1 t.sec ++ le 1 s.rtc.weekday ++ le 2 t.sub ++ le 2 (rtcStatus s.rtc) ++ le 2 s.rtc.trim ++
          zeros 2 ++ t.timeValue } (takeTag p s)) ∧
    (Executes 0x0C03 p s → s.rtc.disciplined = false → Answered (.rtcTrim p) p s { payload := le 2 (fld b 0 2) ++ zeros 2 }
      (gbk 0x1004 (masterOf s p.path) (le 2 s.rtc.trim ++ le 2 (fld b 0 2) ++ le 1 (masterOf s p.path)) { takeTag p s with rtc := { s.rtc with trim := fld b 0 2 % 65536 } })) ∧
    (Executes 0x0C04 p s → fld b 0 4 ≤ 22118400 → Answered (.wakeSet p) p s { payload := le 4 (fld b 0 4 * 1000 / 256) ++ zeros 4 }
      (gbk 0x1006 (masterOf s p.path) (le 4 (fld b 0 4) ++ le 1 (b2n (bit (fld b 4 1) 0))) { takeTag p s with rtc := { s.rtc with wakePeriod := fld b 0 4, wakenEn := bit (fld b 4 1) 0 } }))

/-- The commands of the store and of the key vault (ch. 17, 18). -/
def Obligations.StoreAndKeyCommandsComplete : Prop :=
  ∀ (p : Packet) (s : State) (b : List Byte), p.payload = b →
    (Executes 0x0D01 p s → ∃ a, Answered (.storeStatus p) p s a { takeTag p s with store := { s.store with latched := s.store.latched &&& (0xFF - fld b 0 4 % 256) } } ∧ a.status = .ok ∧
      ∃ tail, a.payload = le 4 (storeFlags { s with store := { s.store with latched := s.store.latched &&& (0xFF - fld b 0 4 % 256) } }) ++ tail) ∧
    (Executes 0x0D02 p s → fld b 0 1 ≤ 127 → 1 ≤ fld b 1 1 → fld b 1 1 ≤ 128 → Reports (.regionList p) p s (fun a => a.status = .ok ∧
      ∃ got, got = (s.store.regions.zipIdx.drop (fld b 0 1)).take (fld b 1 1) ∧ a.payload = le 1 got.length ++ zeros 7 ++ (got.map (fun x => regionItem (minuteNow s) x.2 x.1)).flatten)) ∧
    (Executes 0x0D03 p s → 600 ≤ fld b 0 4 → fld b 0 4 ≤ 86400 → 4 ≤ fld b 4 2 → fld b 4 2 ≤ 1024 →
      Answered (.prunerConfig p) p s {} (gbk 0x110A (masterOf s p.path) (le 4 (fld b 0 4) ++ le 2 (fld b 4 2) ++ le 1 (masterOf s p.path))
        { takeTag p s with store := { s.store with limit := fld b 0 4, threshold := fld b 4 2, overdue := s.store.overdue && decide (fld b 0 4 < (s.uptime - s.store.lapStart) / 1000) } })) ∧
    (Executes 0x0D04 p s → fld b 0 1 ≤ 127 → ∀ x, s.store.regions[fld b 0 1]? = some x →
      (fld b 1 1 = 1 → masterOf s p.path = 2 → x.state = 3 → s.store.tests.all (fun t => t.1 != fld b 0 1) = true →
        exec (.regionRetire p) s = .next { takeTag p s with store := { s.store with tests := s.store.tests ++ [(fld b 0 1, p)] } }) ∧
      (fld b 1 1 = 0 → x.state ≠ 3 → x.state ≠ 2 → s.store.queue.all (fun q => q.1 != fld b 0 1) = true → (findRegion s (fun x => x.state == 4 || (x.state == 0 && x.area == 3))).isSome = true →
        ∃ n, Answered (.regionRetire p) p s { payload := le 4 n ++ zeros 4 } { queueEvacuation (fld b 0 1) 2 (takeTag p s) with free := s.free + 1 })) ∧
    (Executes 0x0E01 p s → ∀ k, fld b 0 1 = k → 2 ≤ k → k ≤ 63 → slotFree s (slotAt s k) = true → ∀ attr key t, attr = 0x80 + 3 * 2 ^ 8 + 2 ^ 12 + 2 ^ 15 * b2n (bit (fld b 1 1) 0) →
      key = Config.vaultRandom s.vault.draws →
      t = fillSlot k attr (masterOf s p.path) key { vaultServed (takeTag p s) with vault := { s.vault with draws := s.vault.draws + 1 } } →
      Answered (.keyGenerate p) p s { payload := le 1 k ++ zeros 3 ++ le 4 attr ++ le 4 (slotAt t k).fills ++ zeros 4 ++ fit 64 (Config.ecdsaPublic key) } t) ∧
    (Executes 0x0E02 p s → ∀ k attr key, fld b 0 1 = k → fld b 4 4 = attr → k ≤ 63 → fld b 1 1 = 0 → attr < 2 ^ 16 → bits attr 12 3 = 0 → importUsageOk (attrUsage attr) (attrAlg attr) = true →
      b.length = 8 + keyLen (attrAlg attr) → s.mode.lifecycle = 1 → masterOf s p.path = 2 → slotFree s (slotAt s k) = true →
      importedKey (vaultServed (takeTag p s)) 0 (fld b 2 1) (attrAlg attr) attr k b = .ok key →
      Answered (.keyImport p) p s {} (fillSlot k (attr + 2 * 2 ^ 12 + 2 ^ 14) 2 key (vaultServed (takeTag p s)))) ∧
    (Executes 0x0E03 p s → ∀ k x, fld b 0 1 = k → k ≤ 63 → slotAt s k = x →
      Answered (.keyInfo p) p s { payload := le 1 k ++ le 1 x.state ++ zeros 2 ++ le 4 x.attr ++ le 4 x.fills ++ le 4 x.uses ++ keyField x } (vaultServed (takeTag p s))) ∧
    (Executes 0x0E04 p s → ∀ k, fld b 0 1 = k → 1 ≤ k → k ≤ 63 → (attrLock (slotAt s k).attr = true → s.mode.lifecycle = 1) → ((slotAt s k).attr ≠ 0 ∨ (slotAt s k).bad = true) → slotNamed s k = false →
      Answered (.keyDestroy p) p s {} (gbk 0x1202 (masterOf s p.path) (le 1 k ++ le 1 (masterOf s p.path))
        (count 0x1C3 (modKeySlot k (fun x => { fills := x.fills, uses := x.uses }) (vaultServed (takeTag p s)))))) ∧
    (Executes 0x0E05 p s → ∀ k, fld b 0 1 = k → k ≤ 63 → (slotAt s 0).bad = false →
      ∃ a, Answered (.attest p) p s a (gbk 0x1204 (masterOf s p.path) (le 1 k ++ le 1 (masterOf s p.path)) (count 0x1C5 (useSlot 0 (vaultServed (takeTag p s))))) ∧ a.status = .ok ∧
        ∃ body tail, body = statementBody (vaultServed (takeTag p s)) k (b.drop 8) ∧
          a.payload = body ++ fit 64 (Config.ecdsaSign (slotAt s 0).key (digestBytes (Config.sha256 body))) ++ tail) ∧
    (Executes 0x0E06 p s →
      (fld b 0 1 = 2 → (s.mode.lifecycle = 1 ∨ s.mode.lifecycle = 3) →
        Answered (.lifecycleSet p) p s { payload := le 1 2 ++ zeros 7 } (enterLifecycle 2 (masterOf s p.path) (vaultServed (takeTag p s)))) ∧
      (fld b 0 1 = 4 → Answered (.lifecycleSet p) p s { payload := le 1 4 ++ zeros 7 } (enterLifecycle 4 (masterOf s p.path) (vaultServed (takeTag p s)))) ∧
      (fld b 0 1 = 3 → s.mode.lifecycle = 2 → ∀ t, checkToken 2 (masterOf s p.path) (b.drop 8) (vaultServed (takeTag p s)) = (t, none) →
        Answered (.lifecycleSet p) p s { payload := le 1 3 ++ zeros 7 } (enterLifecycle 3 (masterOf s p.path) t))) ∧
    (Executes 0x0E07 p s → s.mode.lifecycle = 2 → s.vault.unlocked = false → ∀ t, checkToken 1 (masterOf s p.path) b (vaultServed (takeTag p s)) = (t, none) →
      Answered (.debugUnlock p) p s {} (gbk 0x1207 (masterOf t p.path) (le 8 (fld b 16 8)) { t with vault := { t.vault with unlocked := true } }))

/-- The commands of the Guestbook and of the twin (ch. 19, 20). -/
def Obligations.GuestbookAndTwinCommandsComplete : Prop :=
  ∀ (p : Packet) (s : State) (b : List Byte), p.payload = b →
    (Executes 0x0F01 p s → 1 ≤ fld b 4 1 → fld b 4 1 ≤ 63 → fld b 0 4 ≤ s.gbk.newestSeq → ∀ rs,
      rs = (s.gbk.stored.filter (fun (x : GbkRec) => fld b 0 4 ≤ x.seq && (fld b 5 1 == 0 || x.kind / 256 == fld b 5 1))).take (fld b 4 1) →
      ∃ a, Answered (.gbkRead p) p s a (rs.foldl (fun s r => readRec r s) (takeTag p s)) ∧ a.status = .ok ∧
        ∃ next mask, a.payload = le 1 rs.length ++ zeros 3 ++ le 4 next ++ le 8 mask ++ (rs.map GbkRec.bytes).flatten) ∧
    (Executes 0x0F02 p s → s.gbk.freeze = false → s.gbk.erasing = none → ∀ t, checkToken 3 (masterOf s p.path) b (vaultServed (takeTag p s)) = (t, none) → 4097 ≤ fld b 24 8 → fld b 24 8 ≤ t.gbk.newestSeq →
      exec (.gbkClear p) s = .next (modGbk (fun g => { g with erasing := some (fld b 24 8, fld b 16 8, masterOf t p.path, 0, p) }) t)) ∧
    (Executes 0x0F03 p s → Reports (.gbkStatus p) p s (fun a => a.status = .ok ∧
      ∃ tail, a.payload = le 4 s.gbk.newestSeq ++ le 4 s.gbk.oldestSeq ++ le 2 (s.gbk.stored.filter (fun (x : GbkRec) => x.seq ≤ 4096)).length ++ le 2 s.gbk.front.length ++ le 4 s.gbk.lost ++
        le 4 s.gbk.clearedTo ++ le 4 s.gbk.clearings ++ tail)) ∧
    (Executes 0x1001 p s → ∀ c, parseTwinCfg b = c → fld b 0 1 ≤ 1 → fld b 1 1 ≤ 1 → c.key ≤ 63 → 1024 ≤ c.udp → keyStatus s.vault.slots c.key 5 = none →
      (s.twin.cfg.enable = true → c.enable = false → s.twin.role ≤ 1) → (c.key = s.twin.cfg.key ∧ c.eui = s.twin.cfg.eui ∨ s.twin.role = 0) →
      ∃ t, Answered (.twinConfig p) p s {} t ∧ t.twin.cfg = c ∧ t.ord = s.ord ∧ t.clerk = s.clerk) ∧
    (Executes 0x1002 p s → Reports (.twinStatus p) p s (fun a => a.status = .ok ∧ ∃ fl tail, a.payload = le 1 s.twin.role ++ le 1 fl ++ le 1 s.twin.syncCause ++
      le 1 (b2n s.twin.cfg.secondary) ++ le 4 s.twin.epoch ++ tail)) ∧
    (Executes 0x1003 p s → ∀ n, s.clerk.tick = n →
      (∀ x, fld b 0 1 = 0 → s.twin.role = 1 → s.twin.peer = some x → x.role = 4 → (s.twin.heardTw || s.twin.heardUdp || s.twin.gotTw || s.twin.gotUdp) = true → s.twin.handover = none →
        Answered (.twinSwitch p) p s { payload := le 8 ((n + 4 + 3) / 4 * 4) } (modTwin (fun t => { t with handover := some ((n + 4 + 3) / 4 * 4) }) (takeTag p s))) ∧
      (fld b 0 1 = 1 → (s.twin.role = 3 ∨ s.twin.role = 4) → ∀ at_, at_ = (if s.clerk.offset ≤ 245000 then n + 1 else n + 2) →
        Answered (.twinSwitch p) p s { payload := le 8 at_ } (modTwin (fun t => { t with takeover := some (1, at_) }) (takeTag p s)))) ∧
    (Executes 0x1004 p s → Reports (.pathStatus p) p s (fun a => a.status = .ok ∧
      ∃ tail, a.payload = le 1 (s.bhLink.getD 0 0) ++ le 1 (b2n (s.twin.role == 1)) ++ zeros 2 ++ le 4 (s.paths.accepted.getD 0 0) ++ le 4 (s.paths.dropped.getD 0 0) ++ tail))

/-- The commands of images, counters, the test multiplexer and supplies (ch. 22 to 24). -/
def Obligations.ServiceCommandsComplete : Prop :=
  ∀ (p : Packet) (s : State) (b : List Byte), p.payload = b →
    (Executes 0x1101 p s → slotIn s 3 = none → s.firmware.session = 0 →
      (fld b 0 1 = 0 → 512 ≤ fld b 4 4 → fld b 4 4 ≤ 29360128 → exec (.imageBegin p) s = .next (gbk 0x0301 (masterOf s p.path) (le 1 (stageTarget s) ++ le 4 (fld b 4 4))
        (modFw (fun f => { f with session := 1, slot := stageTarget s, total := fld b 4 4, crc := fld b 8 4, packet := some p }) (setFwSlot (stageTarget s) (fun _ => { state := 1 }) (takeTag p s))))) ∧
      (fld b 0 1 = 1 → ∀ k, slotIn s 5 = some k → s.firmware.epoch ≤ (fwSlot s k).epoch →
        Answered (.imageBegin p) p s { payload := le 1 k ++ zeros 7 } (gbk 0x0307 (masterOf s p.path) (le 1 k ++ le 4 (fwSlot s k).version)
          (setFwSlot k (fun y => { y with state := 2, revert := true, cause := 0 }) (takeTag p s)))) ∧
      (fld b 0 1 = 2 → (fld b 8 1 = 0 ∨ (8 ≤ fld b 8 1 ∧ fld b 8 1 ≤ 30)) →
        Answered (.imageBegin p) p s { payload := le 1 0xFF ++ zeros 7 } (gbk 0x0309 (masterOf s p.path) (le 4 (fld b 4 4) ++ le 1 (fld b 8 1))
          (modFw (fun f => { f with stored := if fld b 8 1 = 0 then none else some (fld b 4 4, fld b 8 1, fld b 12 4) }) (takeTag p s))))) ∧
    (Executes 0x1102 p s → ∀ held data, held = (fwSlot s s.firmware.slot).bytes → data = b.drop 8 → fld b 4 4 = (Config.crc32c data).toNat → s.firmware.session = 2 → fld b 0 4 = held.length →
      held.length + data.length ≤ s.firmware.total → 0 < data.length →
      Answered (.imageData p) p s { payload := le 4 (held.length + data.length) ++ zeros 4 }
        (modFw (fun x => { x with last := s.uptime, slots := modAt x.slots s.firmware.slot (fun y => { y with bytes := y.bytes ++ data }) }) (takeTag p s))) ∧
    (Executes 0x1103 p s → s.firmware.session = 2 → exec (.imageEnd p) s = .next (modFw (fun f => { f with session := 3, packet := some p }) (takeTag p s))) ∧
    (Executes 0x1104 p s → Reports (.imageStatus p) p s (fun a => a.status = .ok ∧ ∃ tail, a.payload = le 1 s.firmware.session ++ tail ∧ tail.length = 23)) ∧
    (Executes 0x1105 p s →
      (s.firmware.session = 2 → s.firmware.packet = none → Answered (.imageAbort p) p s {} (endStaging s.firmware.slot 0 (takeTag p s))) ∧
      (s.firmware.session = 3 → s.firmware.abort = none → exec (.imageAbort p) s = .next (modFw (fun x => { x with abort := some p }) (takeTag p s))) ∧
      (s.firmware.session = 0 → ∀ k, slotIn s 2 = some k → Answered (.imageAbort p) p s {} (endStaging k 0 (takeTag p s)))) ∧
    (Executes 0x1106 p s → Answered (.fwsetInfo p) p s
      { payload := le 1 (if s.mode.coppice then 0xFF else s.firmware.running.getD 0xFF) ++ zeros 1 ++ le 2 s.firmware.epoch ++ zeros 4 ++ fwItem (fwSlot s 0) ++ fwItem (fwSlot s 1) } (takeTag p s)) ∧
    (Executes 0x1201 p s → fld b 0 1 ≤ 31 → fld b 2 2 ≤ 0x1FF → Answered (.counterConfig p) p s {} (writeCntCfg (fld b 0 1) (fld b 2 2 + 2 ^ 9 * (fld b 4 1 % 4)) (takeTag p s))) ∧
    (Executes 0x1202 p s → ∀ t, t = takeSnapshot 2 (takeTag p s) → Answered (.counterSnapshot p) p s
      { payload := le 8 (tickNow s) ++ le 4 s.clerk.offset ++ le 4 s.cnt.ovf ++ (s.cnt.counters.map (fun (x : Counter) => le 2 x.source ++ le 6 x.count)).flatten }
      (if bit (fld b 0 1) 0 then clearEnabled t else t)) ∧
    (Executes 0x1203 p s →
      (muxFree s = true → (fld b 0 4 = 0 ∨ (60 ≤ fld b 0 4 ∧ fld b 0 4 ≤ 86400)) → Answered (.tmuxUnlock p) p s { payload := le 4 0xFFFFFFFF ++ zeros 4 } (takeTag p s)) ∧
      (muxFree s = false → debugOpen s = true → 60 ≤ fld b 0 4 → fld b 0 4 ≤ 86400 → Answered (.tmuxUnlock p) p s { payload := le 4 (fld b 0 4) ++ zeros 4 }
        (gbk 0x1208 (masterOf s p.path) (le 4 (fld b 0 4) ++ le 1 (masterOf s p.path) ++ zeros 1)
          (modCnt (fun c => { c with lease := some (s.uptime + 1000 * fld b 0 4), leaseSecs := fld b 0 4 }) (takeTag p s))))) ∧
    (Executes 0x1301 p s → ∃ a, Answered (.supplyStatus p) p s a (if bit (fld b 0 1) 0 then modSupply (fun y => { y with lowest := y.mv, highest := y.mv }) (takeTag p s) else takeTag p s) ∧
      a.status = .ok ∧ a.payload.length = 48) ∧
    (Executes 0x1302 p s → 600 ≤ fld b 0 2 → fld b 0 2 ≤ 1200 → 2 ≤ fld b 2 1 → fld b 2 1 ≤ 10 →
      Answered (.thermalConfig p) p s {} (gbk 0x1504 (masterOf s p.path) (le 2 (fld b 0 2) ++ le 1 (fld b 2 1) ++ le 1 (masterOf s p.path))
        (modSupply (fun x => { x with threshold := fld b 0 2, hysteresis := fld b 2 1 }) (takeTag p s)))) ∧
    (Executes 0x1303 p s → Reports (.powerReport p) p s (fun a => a.status = .ok ∧ ∃ tail, a.payload = le 8 (tickNow s) ++ tail))

/-! ### The host window, rings and mailboxes -/

/-- Host accesses of the window (ch. 4): a write and a read of a register or an aperture, the end of a shadow, and the quad SPI's link status. -/
def Obligations.WindowAccessesComplete : Prop :=
  ∀ (off v size m : Nat) (s : State), s.boot.stage ≠ 0 →
    (goodAccess s off size = true → inAperture off = false → exec (.registerWrite off v size) s = .next (signal (writeReg off v (signal s)))) ∧
    (goodAccess s off size = true → inAperture off = true → m = s.host.mbxWin → mbxOpen s m = true → off < 0x1500 → (mbxOf s m).post = false →
      exec (.registerWrite off v size) s = .next (signal (modMbx m (fun b => { b with inBuf := b.inBuf.take (off - 0x1400) ++ le size v ++ b.inBuf.drop (off - 0x1400 + size) }) (signal s)))) ∧
    (exec (.registerWrite 0x1C v 4) s = .next (signal { signal s with host := { (signal s).host with scratch := v % 2 ^ 32 } })) ∧
    (goodAccess s off size = true → inAperture off = false → exec (.registerShadowRead off size) s = .next (signal { (readReg off s).2 with host := { (readReg off s).2.host with readValue := (readReg off s).1 } })) ∧
    (exec (.registerShadowRead 0x2800 4) s = .next (signal { s with
      host := { s.host with readValue := bits (tickNow s) 0 32 }, clerk := { s.clerk with tickShadow := some (bits (tickNow s) 32 32) } })) ∧
    (goodAccess s off size = true → inAperture off = true → m = s.host.mbxWin → mbxOpen s m = true → exec (.registerShadowRead off size) s =
      .next (signal { s with host := { s.host with readValue := if off < 0x1500 then fld (mbxOf s m).inBuf (off - 0x1400) size else fld (mbxOf s m).outBuf (off - 0x1500) size } })) ∧
    (exec (.shadowTimeout 0x2800) s = .next { s with clerk := { s.clerk with tickShadow := none } }) ∧
    (exec (.shadowTimeout 0x2820) s = .next { s with clerk := { s.clerk with digestShadow := none } }) ∧
    (∀ k h, k < 16 → s.cnt.valShadow = some (k, h) → exec (.shadowTimeout (0x2300 + 8 * k)) s = .next { s with cnt := { s.cnt with valShadow := none } }) ∧
    (s.host.hostsel = true → exec (.spiLinkStatus 0x05) s = .next { s with
      host := { s.host with readValue := b2n s.mode.ready + 2 * b2n s.mode.coppice + 4 * b2n s.host.spiError, spiError := false } })

/-- The PCI Express link and the rings (ch. 4): link resets and states, RING_CTL, doorbells, descriptor fetches, completions, CMP_HEAD and the
moderation timer. -/
def Obligations.RingEventsComplete : Prop :=
  ∀ (r v : Nat) (s : State) (x : Ring), pcie s = true → r < 4 → ringOf s r = x →
    (∃ t, exec .hostLinkReset s = .next t ∧ t.host.rings = List.replicate 4 {} ∧ t.host.intEnable = 0 ∧ t.host.alertEnable = 0x3FFFF ∧ t.host.mailboxes = s.host.mailboxes ∧
      (∀ f ∈ t.paths.flights, ∀ k, onRing k f.path = false) ∧ t.ord = s.ord ∧ t.clerk = s.clerk) ∧
    (∀ up speed msi aer, (s.host.linkUp ≠ up ∨ s.host.speed ≠ (if up then (if speed = 2 then 2 else 1) else 0)) → ∃ t, exec (.hostLinkState up speed msi aer) s = .next (signal (gbk 0x0401 0xFF
      (le 1 (b2n up) ++ le 1 (if up then (if speed = 2 then 2 else 1) else 0)) t)) ∧
      t = { s with host := { s.host with linkUp := up, speed := if up then (if speed = 2 then 2 else 1) else 0, msi := if up ∧ msi ∈ [1, 2, 4, 8] then msi else 0, aerUncorr := aer } }) ∧
    (ringActive s r = false → v < 2 ^ 32 → exec (.ringCtlEnable r v) s = .next (modRing r (fun x => { x with
      modCount := bits v 8 8, modUs := bits v 16 16, irqEn := bit v 1, enable := true, cmdHead := 0, cmdTail := 0, cmpHead := 0, cmpTail := 0, phase := true, unsignalled := 0, held := 0 }) s)) ∧
    (ringActive s r = true → exec (.ringCtlDisable r v) s = .next (modRing r (fun x => { x with irqEn := bit v 1, enable := false }) s)) ∧
    (v % 64 ≠ x.cmdHead → exec (.cmdTailDoorbell r v) s = .next (signal (modRing r (fun x => { x with cmdTail := v % 64 }) s))) ∧
    (v % 64 = x.cmdHead → exec (.cmdTailDoorbell r v) s = .next (signal (gbk 0x0402 0xFF (le 1 r ++ le 1 (v % 64) ++ le 1 1) (modRing r (fun x => { x with descErr := true }) s)))) ∧
    (∀ d b p, s.mode.ready = true → x.enable = true → x.cmdHead ≠ x.cmdTail → intakeFull s 0 = false → descGood d = true →
      p = parsePacket (.ring r x.cmdHead (fld d 24 8) (fld d 8 8) (fld d 18 2)) (b.take (fld d 16 2)) →
      ∀ t, t = count (0x060 + r) (modRing r (fun y => { y with cmdHead := (x.cmdHead + 1) % 64 }) s) → intakeCheck t p = none →
      exec (.descriptorFetch r d (some b)) s = .next (enqueue p t)) ∧
    (∀ a rest t, popReply (onRing r) s.paths.outgoing = some (a, rest) → (x.cmpTail + 1) % 128 ≠ x.cmpHead →
      t = count 0x064 (modRing r (fun y => { y with cmpTail := (y.cmpTail + 1) % 128, phase := if y.cmpTail = 127 then !y.phase else y.phase })
        { s with paths := { s.paths with outgoing := rest }
                 host := { s.host with hostWrites := s.host.hostWrites ++ replyWrites a ++ [⟨x.cmpHi * 2 ^ 32 + x.cmpLo + 16 * x.cmpTail, completionBytes a x.phase⟩] } }) →
      (a.final = false → exec (.completionWrite r) s = .next (signal t)) ∧
      (a.final = true → a.refused = false → exec (.completionWrite r) s = .next (signal (signalRing r (freeTag a.path a.tag t))))) ∧
    (x.held = 0 → exec (.cmpHeadAdvance r v) s = .next (signal (modRing r (fun x => { x with cmpHead := v % 128 }) s))) ∧
    (x.irqEn = true → x.modUs ≠ 0 → x.unsignalled ≠ 0 → exec (.ringModerationTimeout r) s =
      .next (signal { modRing r (fun x => { x with unsignalled := 0 }) s with host := { (modRing r (fun x => { x with unsignalled := 0 }) s).host with intRing := s.host.intRing ||| 2 ^ r } })) ∧
    (∀ p tag f, (∃ k slot c a n, p = Path.ring k slot c a n) → s.paths.flights.find? (fun f => sameLane f.path p && f.tag == tag && !f.answered) = some f →
      (∀ w ∈ s.clerk.intake ++ s.paths.remoteQueue, ∀ q, w.body = .command q → (sameLane q.path p && q.tag == tag) = false) →
      ∃ t k q, exec (.intakeTimeout p tag) s = .next t ∧ onRing k p = true ∧ t.paths.outgoing = s.paths.outgoing ++ [q] ∧ q.status = Status.timeout.code ∧ q.tag = tag ∧ q.opcode = f.opcode ∧ q.final = true ∧
        t.gbk = (gbk 0x0404 0 (le 1 0 ++ le 1 k ++ le 1 tag) s).gbk)

/-- The mailboxes (ch. 4): posting and discarding inbound messages, their acknowledgement, the outbound messages and theirs. -/
def Obligations.MailboxEventsComplete : Prop :=
  ∀ (m v : Nat) (s : State) (b : Mailbox), m < 16 → s.boot.stage ≠ 0 → mbxOf s m = b →
    (mbxOpen s m = true → b.post = false → bit v 1 = false → exec (.mbxPost m v) s = .next (signal (modMbx m (fun b => { b with post := true, ackValid := false }) s))) ∧
    (mbxOpen s m = true → bit v 0 = false → exec (.mbxDiscard m v) s = .next (signal (mbxAck m 0x17 (modMbx m (fun b => { b with partial_ := [], nextSeg := 0 }) s)))) ∧
    (b.post = true → s.mode.ready = true → b.iMore = false → 1 ≤ b.iLen → b.iLen ≤ 256 → b.iSeg = b.nextSeg → ∀ p, p = parsePacket (.mailbox m) (b.partial_ ++ b.inBuf.take b.iLen) →
      packetCode s m p = none → intakeCheck s p = none →
      exec (.mbxIack m) s = .next (signal (mbxAck m 0 (modMbx m (fun b => { b with partial_ := [], nextSeg := 0 }) (enqueue p s))))) ∧
    (b.post = true → s.mode.ready = true → b.iMore = true → b.iLen = 256 → b.iSeg = b.nextSeg → b.iSeg < 15 →
      exec (.mbxIack m) s = .next (signal (mbxAck m 1 (modMbx m (fun x => { x with partial_ := b.partial_ ++ b.inBuf.take 256, nextSeg := x.nextSeg + 1 }) s)))) ∧
    (∀ r rest, b.oFull = false → b.outTag = none → popReply (fun p => p == .mailbox m) s.paths.outgoing = some (r, rest) → exec (.mbxOutboundPost m) s =
      .next (signal (postOut m 0 r.bytes (modMbx m (fun x => { x with outTag := some r.tag }) { s with paths := { s.paths with outgoing := rest } })))) ∧
    (∀ tag, b.oFull = false → b.outTag = some tag → exec (.mbxOutboundPost m) s = .next (signal (postOut m (b.oSeg + 1) b.outRest s))) ∧
    (mbxOpen s m = true → b.oFull = true → bits v 8 8 = b.oSeq → bits v 0 8 = 0 → b.outRest ≠ [] →
      exec (.mbxOack m v) s = .next (signal (count 0x068 (modMbx m (fun x => { x with oFull := false }) s)))) ∧
    (∀ tag, mbxOpen s m = true → b.oFull = true → bits v 8 8 = b.oSeq → bits v 0 8 = 0 → b.outRest = [] → b.outTag = some tag →
      exec (.mbxOack m v) s = .next (signal (freeTag (.mailbox m) tag (modMbx m (fun x => { x with outTag := none }) (count 0x068 (modMbx m (fun x => { x with oFull := false }) s)))))) ∧
    (b.oFull = true → exec (.mbxAged m) s = .next (signal (count 0x06A (modMbx m (fun b => { b with odb := b.odb ||| 4 }) s))))

/-- The remote path, the service port and the clerk's turn (ch. 2, 5, 22). -/
def Obligations.PathEventsComplete : Prop :=
  ∀ (s : State),
    (∀ port addr udp b k, port ≤ 1 → bit s.paths.portsEnabled port = true → linkUp s port = true → s.mode.coppice = false → 40 ≤ b.length → b.length ≤ 4120 → fld b 0 1 = 0x47 → fld b 1 1 = 0x43 →
      b.length = fld b 22 2 + 40 → remoteKey s (fld b 2 1) = some k → (Config.cmac k.key (b.take (b.length - 8))).toNat = fld b (b.length - 8) 8 → fld b 8 8 ≠ 0 →
      ∀ w, (s.paths.windows.find? (fun w => w.slot == fld b 2 1)).getD { slot := fld b 2 1 } = w → counterFresh w (fld b 8 8) = true → ∃ t,
        exec (.remoteDatagram port addr udp s.paths.udpPort b) s = .next (remotePacket (parsePacket (.remote port (fld b 2 1) addr udp) ((b.take (b.length - 8)).drop 16)) (count 0x074 t)) ∧
        t = { useSlot (fld b 2 1) s with paths := { s.paths with windows := s.paths.windows.filter (fun x => x.slot != fld b 2 1) ++ [w.accept (fld b 8 8)], accepted := modAt s.paths.accepted port (satAdd 32 · 1) } }) ∧
    (s.paths.serviceOpen = false → taking s = true → exec .serviceConnectionOpen s = .next { s with paths := { s.paths with serviceOpen := true, serviceConn := s.paths.serviceConn + 1 } }) ∧
    (exec .serviceConnectionClose s = .next { s with paths := { s.paths with serviceOpen := false } }) ∧
    (∀ b p, s.paths.serviceOpen = true → taking s = true → intakeFull s 2 = false → p = parsePacket (.service s.paths.serviceConn) b → intakeCheck s p = none →
      exec (.servicePacket b) s = .next (enqueue p s)) ∧
    (∀ cls index offset w rest b, 2 ≤ cls → offset ≤ s.clerk.offset → s.mode.role ≠ 2 → taking s = true → popWaiting cls index s.clerk.intake = some (w, rest) → w.body = .raw b → w.held = 0 →
      quotaSpent s (entryOf s w) = false → exec (.clerkAccept cls index offset) s = .next (count 0x001 { s with clerk := { s.clerk with intake := rest, open_ := s.clerk.open_ ++ [entryOf s w] } })) ∧
    (∀ index offset w rest p i, index ≠ 3 → offset ≤ s.clerk.offset → taking s = true → popWaiting 1 index s.clerk.intake = some (w, rest) → w.body = .command p → opInfo p.opcode = some i → i.w = false →
      exec (.clerkAccept 1 index offset) s = .next (runWaiting p { s with clerk := { s.clerk with intake := rest } }))

/-! ### Ticks, channels and streams -/

/-- The boundary of a tick, the issue step, the release of results, faults detected, streams and the replay's ticks (ch. 2, 3, 5). -/
def Obligations.TickEventsComplete : Prop :=
  ∀ (s : State),
    (s.clerk.running = true → s.mode.role ≠ 2 → s.twin.handover = none → ∀ b, b = beforeSeal s → ∃ mid, exec (.tickBoundary []) s = .next (signal (openTick b.clerk.tick mid)) ∧
      mid = closeTick b.clerk.open_ [] b ∧ mid.clerk.tick = b.clerk.tick + 1 ∧ mid.clerk.offset = 0 ∧ mid.clerk.lastTick = b.clerk.tick ∧
      mid.clerk.lastD = (closedWaybill b.clerk.open_ b).digest ∧ mid.clerk.chain = (closedWaybill b.clerk.open_ b).digest) ∧
    (s.clerk.running = true → s.mode.role = 2 → exec (.tickBoundary []) s = .next (signal (standbyBoundary s))) ∧
    (∀ es, s.clerk.running = true → exec (.tickBoundary es) s = .next (signal (boundary (es.foldl (fun s e => storeEvent e s) s)))) ∧
    (∀ r o c, s.computed.getLast? = some (r, o) → r.issued = false → c = ((lookD r.tick (contextOf s) s.contexts).calc r.tick o r).issueNow →
      exec .issueStep s = .next { s with computed := s.computed.dropLast ++ [(c.res, c.ord)], ord := { s.ord with lanterns := c.ord.lanterns, backlog := c.ord.backlog } }) ∧
    (∀ r o rest, s.computed = (r, o) :: rest → rest ≠ [] → ∃ m, exec .resultRelease s = .next (signal (compareTwin r.tick (takeCkpt r o m))) ∧ m.rel = o ∧ m.relTick = r.tick) ∧
    (∀ h c cause, chanOf s.ord h = some c → c.state ≠ .faulted → 2 ≤ cause → cause ≤ 4 →
      exec (.channelFaultDetect h cause) s = .next (placeClerk 0x0101 (le 4 h.toNat ++ le 1 cause ++ zeros 3 ++ le 8 0) s)) ∧
    (∀ h c cfg r, chanOf s.ord h = some c → streamOf s.ord h = some cfg → s.streams.find? (fun r => r.slot == hSlot h) = some r → c.state = .running → cfg.master = 3 →
      (r.waiting ≠ [] → r.lastSent < r.ack + r.window → exec (.streamMessageSend h) s = .next (pushMessage h cfg (formMessage h r s).2 (formMessage h r s).1)) ∧
      (∀ n m, r.unacked.find? (fun m => m.num == n) = some m → exec (.streamResend h n) s = .next (count 0x079 (pushMessage h cfg m
        (modStream (hSlot h) (fun r => { r with unacked := r.unacked.map (fun x => if x.num = n then { x with resends := x.resends + 1 } else x) }) s))))) ∧
    (∀ w t, s.clerk.replay.state = 1 → s.clerk.replay.next = t → s.clerk.ring.find? (fun w => w.tick == t) = some w → s.store.badWaybills.any (fun x => x.1 == t) = false →
      exec .replayTick s = .next (endReplay (replayWaybill w { s with clerk := { s.clerk with replay := { s.clerk.replay with next := t + 1 } } })))

/-- Rebuilds, the placement review, moves of data, and the stiles (ch. 1, 3). -/
def Obligations.LodgingEventsComplete : Prop :=
  ∀ (s : State) (h : Handle),
    (∀ b c, s.inn.waiting.find? (fun b => b.handle == h) = some b → s.inn.rebuilds.length < 4 → s.clerk.running = true → newestCkpt s = some c → ringHolds s c.tick = true → b.packet = none →
      exec (.rebuildStart h) s = .next (signal { s with
        store := { s.store with taint := s.store.taint.filter (· != b.handle) }
        inn := { s.inn with waiting := s.inn.waiting.filter (fun x => x.handle != h)
                            rebuilds := s.inn.rebuilds ++ [{ b with ckpt := c.tick, since := s.clerk.tick, packet := none }] } })) ∧
    (∀ b t, s.inn.rebuilds.find? (fun b => b.handle == h) = some b → b.since < s.clerk.tick → t = { s with inn := { s.inn with rebuilds := s.inn.rebuilds.filter (fun x => x.handle != h) } } →
      ringHolds t b.ckpt = true → exec (.rebuildComplete h) s = .next (signal (finishRebuild b t))) ∧
    (∀ work moves, (s.inn.review = true ∨ s.clerk.tick % 240 = 0) → ∀ t, t = noteWork work s → exec (.placementReview work moves []) s =
      .next (noteHints (reviewGating (let u := (moves.take 64).foldl (fun s m => reviewMove m s) t; { u with inn := { u.inn with review := false } })))) ∧
    (∀ work moves errors, s.inn.review = false → s.clerk.tick % 240 ≠ 0 → errors = [] → exec (.placementReview work moves errors) s = .next (noteWork work s)) ∧
    (∀ slot l, s.inn.lodges.find? (fun l => l.slot == slot && l.moving.isSome) = some l → exec (.dataMoveComplete slot []) s = .next (switchLodge l s)) ∧
    (∀ k words stalls peak, k < 48 → exec (.stilePacketRead k words 0 0 false stalls peak h) s = .next (signal (stilePacket k words 0 0 false stalls peak s))) ∧
    (∀ k words corrected hard peak, k < 48 → hard ≠ 0 → exec (.stilePacketRead k words corrected hard false 0 peak h) s =
      .next (signal (losePacket k 0 h (stilePacket k words corrected hard false 0 peak s)))) ∧
    (∀ k x, s.inn.stiles[k]? = some x →
      (x.losses < 3 → exec (.stileResend k) s = .next s) ∧
      (3 ≤ x.losses → exec (.stileResend k) s = .next (signal (restartFarEnd (stileRow k).2.1 { s with inn := { s.inn with stiles := modAt s.inn.stiles k (fun x => { x with losses := 0 }) } }))))

/-! ### Plans, light and drive -/

/-- The plan's events, and the timers that an open computation steps ahead (ch. 6 to 8). -/
def Obligations.PlanAndTimerEventsComplete : Prop :=
  ∀ (s : State) (h : Handle),
    (s.plan.state = 1 → exec .planSessionIdle s = .next (gbk 0x0702 0xFF (le 4 s.plan.gen ++ le 1 1)
      { s with plan := { s.plan with state := 0, step := 0, owner := 0xFF, outcome := 3, slots := setAt s.plan.slots s.plan.slot {} } })) ∧
    (s.plan.state = 2 → s.plan.switched = false → ∀ d, d = (staged s.plan).digest → exec .planCommitRecordValid s = .next (gbk 0x0704 0xFF (le 4 s.plan.gen ++ le 4 (sinceCommit s))
      (placeClerk 0x0301 (le 4 s.ord.plan.gen ++ le 4 s.plan.gen ++ le 1 0 ++ zeros 7 ++ digestBytes d)
        { s with plan := { s.plan with switched := true, step := 4, records := setAt s.plan.records s.plan.slot { gen := s.plan.gen, slot := s.plan.slot, digest := d, tick := s.plan.commitTick, valid := true } } }))) ∧
    (∀ g k o, groupOf s.ord h = some g → look k g.overrides = some o → o.expiry ≤ s.clerk.tick → exec (.overrideExpiry h k) s = .next (openCalc (fun c => c.expireOverrides h) s)) ∧
    (∀ n g, (look n s.ord.members).bind (groupOf s.ord) = some g → g.refresh ≠ 0 → (lanternOf s.ord n).record.isSome = true → (lanternOf s.ord n).lastTick + 4 * g.refresh < s.clerk.tick →
      exec (.refreshDue n) s = .next (openCalc (fun c => c.modLantern n (fun l => { l with refreshDue := true })) s)) ∧
    (∀ e t, escortOf s.ord h = some e → e.travellers.find? (fun x => x.num == t.num) = some t → ((e.horizon + e.cycle : Nat) : Int) * 1000 < effectInstant s.clerk.tick - t.t0 →
      exec (.travellerTimeout h t.num) s = .next (openCalc (fun c => c.modEscort h (fun e => { e with travellers := e.travellers.map (fun u => if u.num == t.num then { u with late := true } else u) })) s)) ∧
    (∀ link, exec (.occupyExpiry h link) s = .next (openCalc (fun c => c.modEscort h (fun e => { e with occupied := e.occupied.filter (fun o => !(o.link == link && o.expiry ≤ c.tick)) })) s))

/-- D10: the fast sample, releases, entries and messages, fallback, dimming frames, switching cycles and trips (ch. 9, 10). -/
def Obligations.DriveEventsComplete : Prop :=
  ∀ (s : State),
    (∀ sense ntc vbus, driveGated s = false → ∀ t, t = { s with drive := { s.drive with base := s.drive.base + 1, vbus := vbus } } → ∀ owners due,
      owners = ((s.drive.slots.map (·.owner)).eraseDups).filter (ownerRuns t) →
      due = (s.drive.slots.filter (fun x => owners.contains x.owner && x.law != 0 && x.divider != 0 && (s.drive.base + 1) % x.divider == 0)).map (·.slot) →
      exec (.fastSample sense ntc vbus) s = .next (traceSample due (owners.foldl (fastOwner sense ntc vbus) t))) ∧
    (∀ k x y, s.drive.slots.find? (fun x => x.slot == k) = some x → x.release = some (0, none) → x.queue = [] → y = x.freed.output →
      exec (.loopReleaseEffect k) s = .next (count 0x0C8 { s with drive := { s.drive with slots := putSlots [{ y with u := y.clamped }] s.drive.slots } })) ∧
    (∀ lead start target code rest t mine, s.drive.entries = (lead, start, target, code) :: rest → s.clerk.tick < start → t = { s with drive := { s.drive with entries := rest } } →
      mine = s.drive.lums.filter (fun l => l.cfg.lead == lead && l.running && l.held == 0) →
      exec .driveEntryReceive s = .next (mine.foldl (fun s l => modLumRun l.num (fun l => { l with level := { l.level with queue := [{ start := max start (t.clerk.tick + 1), target := target, code := code }] }, fbEntry := false }) s) t)) ∧
    (∀ ntc vbus, driveGated s = false → s.drive.lums = [] → (∀ x ∈ s.drive.strs, x.due = false) → exec (.driveTickMessage ntc vbus) s =
      .next (driveEntry 0x0701 ((List.replicate 8 (le 4 0x80000000)).flatten ++ leS 4 ((vbus[0]?).getD 0) ++ leS 4 ((vbus[1]?).getD 0)) { s with drive := { s.drive with tick := s.clerk.tick, vbus := vbus } })) ∧
    (∀ ntc vbus, driveGated s = false → ∃ t b, exec (.driveTickMessage ntc vbus) s = .next (driveEntry 0x0701 b t) ∧ b.length = 40) ∧
    (∀ k l f, lumRun s k = some l → l.running = true → l.fallback = false → f = fallbackOf s.ord l.cfg.lead → exec (.luminaireFallback k) s = .next (gbk 0x0B06 0xFF (le 4 l.handle.toNat) (count 0x0EA
      (modLumRun k (fun l => { l with fallback := true, fbEntry := true, level := { l.level with queue := [{ start := s.clerk.tick + 1, target := f.level, code := f.code }] } }) s)))) ∧
    (exec .dimmingFrameStart s = .next { s with drive := { s.drive with
      strs := s.drive.strs.map (fun x => { x with n := x.nextN, a := x.nextA, iSet := x.nextI, lastTrips := x.trips, trips := 0 }) } }) ∧
    (∀ i sub l x high low fsw u, s.drive.strs[i]? = some x → lumRun s (i / 3) = some l → fsw = (match l.cfg.strings[i % 3]? with | some (some t) => t.fsw | _ => 0) →
      u = ((s.drive.slots.find? (fun y => y.owner == l.handle && y.member == i % 3)).map (·.u)).getD 0 →
      l.running = true → l.cfg.fitted (i % 3) = true → x.cause = 0 → subPeriodOn x.n (sub % 1024) = true → fsw ≠ 0 →
      (61 < u.toNat * 1228800000 / (65536 * fsw) → exec (.switchingCycle i sub high low) s = .next (readback i false low (readback i true high
        (modStr i (fun x => { x with gate := true, onTime := u.toNat * 1228800000 / (65536 * fsw) }) s)))) ∧
      (u.toNat * 1228800000 / (65536 * fsw) ≤ 61 → exec (.switchingCycle i sub high low) s = .next (count 0x0E5 (modStr i (fun x => { x with gate := false, onTime := 0 }) s)))) ∧
    (∀ i x, s.drive.strs[i]? = some x → x.trips < 15 → exec (.comparatorTrip i) s = .next (count 0x0E0 (modStr i (fun x => { x with gate := false, trips := x.trips + 1 }) s))) ∧
    (∀ i x, s.drive.strs[i]? = some x → 15 ≤ x.trips → exec (.comparatorTrip i) s = .next (latchString i 3 (count 0x0E0 (modStr i (fun x => { x with gate := false, trips := x.trips + 1 }) s)))) ∧
    (∀ k ms rest, s.drive.inbound = (k, ms) :: rest → exec .driveControlArrival s = .next (ms.foldl (fun s m => driveMsg m s) { s with drive := { s.drive with inbound := rest } }))

/-! ### The store, the vault and the Guestbook -/

/-- The pruner, evacuations, region tests, the scrub, and the vault's requests (ch. 17, 18). -/
def Obligations.StoreEventsComplete : Prop :=
  ∀ (s : State) (o : StoreOwner),
    (s.store.offset + 8 < 262144 → ∃ t, exec (.prunerBurst (List.replicate 8 0) o) s = .next t ∧ t.store = { s.store with offset := s.store.offset + 8 } ∧ t.cnt = (count 0x1A8 s).cnt ∧ t.gbk = s.gbk ∧ t.inn = s.inn) ∧
    (∀ code, exec (.prunerBurst [code] o) s = .next (prunerAdvance (prunerWord s.store.region s.store.offset code o (count 0x1A8 s)))) ∧
    (∀ r cause rest x k, s.store.running = none → s.store.queue = (r, cause) :: rest → s.store.regions[r]? = some x → findRegion s (fun x => x.state == 4) = some k → ∃ t, exec .evacuationStart s = .next t ∧
      t.store.running = some (r, k) ∧ t.store.queue = rest ∧ t.store.regions = modAt (modAt s.store.regions r (fun y => { y with state := 2 })) k (fun y => { y with state := 1, area := if x.area = 4 then 3 else x.area, strong := x.strong }) ∧
      t.gbk = (gbk 0x1102 0xFF (le 1 r ++ le 1 cause ++ le 4 (recentCount (minuteNow s) x.recent)) s).gbk) ∧
    (∀ r k, s.store.running = some (r, k) → s.inn.lodges.any (fun l => l.moving.any (fun m => m.1 == r)) = false → ∃ t, exec .evacuationComplete s = .next t ∧ t.store.running = none ∧
      t.inn.review = true ∧ bit t.store.latched 1 = true ∧ t.store.queue = s.store.queue ∧
      t.store.regions.length = s.store.regions.length) ∧
    (∀ p r t, s.store.tests.find? (fun t => t.1 == r) = some p → t = { s with store := { s.store with tests := s.store.tests.filter (fun x => x.1 != r) } } →
      exec (.regionTestComplete r true) s = .next (answer p.2 { status := .aborted } t) ∧
      exec (.regionTestComplete r false) s = .next (answer p.2 { payload := zeros 8 } (gbk 0x1104 (masterOf s p.2.path) (le 1 r ++ le 1 (masterOf s p.2.path))
        { t with store := { t.store with regions := modAt s.store.regions r (fun x => { x with state := 4, area := 4, strong := none, owners := [], poison := [] }) } }))) ∧
    (∀ lap, lap = (s.uptime - s.store.lapStart) / 1000 → s.store.limit < lap → s.store.overdue = false →
      exec .prunerOverdue s = .next (gbk 0x1105 0xFF (le 4 lap) { s with store := { s.store with overdue := true } })) ∧
    (∀ e, e.hard = false → exec (.mramScrub [e]) s = .next (count 0x1AC { s with store := { s.store with mramCorrected := satAdd 32 s.store.mramCorrected 1 } })) ∧
    (∀ e, e.hard = true → ∃ t, exec (.mramScrub [e]) s = .next (mramAction e.area t) ∧ t.store = { s.store with mramUncorrectable := satAdd 32 s.store.mramUncorrectable 1, latched := s.store.latched ||| 16 } ∧
      t.gbk = (gbk 0x1107 0xFF (le 4 e.addr ++ le 1 1 ++ le 1 (mramCode e.area)) s).gbk) ∧
    (s.vault.requests = [] → exec .vaultRequest s = .next { s with vault := { s.vault with gated := true } }) ∧
    (∀ k rest, s.vault.requests = .use k :: rest → ∃ t, t = useSlot k (vaultServed s) ∧ exec .vaultRequest s = .next { t with vault := { t.vault with requests := rest, gated := rest.isEmpty } })

/-- The Guestbook: records made, the drain, freezing, the window and the end of an erase (ch. 19). -/
def Obligations.GuestbookEventsComplete : Prop :=
  ∀ (s : State),
    (∀ kind m d, exec (.guestbookRecordEntry kind m d) s = .next { s with gbk := s.gbk.enter (stampRec (kind % 2 ^ 16) false (m % 256) d none s) }) ∧
    (∀ n last rest, s.gbk.held = false → s.gbk.front = .repeats n last :: rest → exec .guestbookDrain s = .next { s with
      gbk := { s.gbk with stored := repeatStored n last s.gbk.stored, front := rest, beforeLoss := s.gbk.beforeLoss - 1 } }) ∧
    (∀ r rest, s.gbk.held = false → s.gbk.front = .record r :: rest → s.gbk.urgent = [] → s.gbk.loss = none → s.gbk.next < 4097 → exec .guestbookDrain s = .next { s with
      gbk := { s.gbk with stored := s.gbk.stored ++ [{ r with seq := s.gbk.next, damage := 0, found := false }], next := s.gbk.next + 1, front := rest, beforeLoss := s.gbk.beforeLoss - 1 } }) ∧
    (s.gbk.held = true → exec .guestbookDrain s = .next s) ∧
    (∀ v, exec (.gbkCtlFreeze v) s = .next { s with gbk := { s.gbk with freeze := bit v 0, autoInc := bit v 1 } }) ∧
    (∀ ms, s.gbk.freeze = true → 9990 ≤ ms → ms ≤ 10010 → exec (.gbkFreezeTimeout ms) s = .next { s with
      gbk := { s.gbk with freeze := false, timedOut := true, urgent := s.gbk.urgent ++ [stampRec 0x1304 false 0xFF (le 4 ms) none s] } }) ∧
    (∀ v, (s.gbk.stored.find? (fun (x : GbkRec) => x.seq == v % 2 ^ 32)) = none → exec (.gbkSelWrite v) s = .next { s with gbk := { s.gbk with sel := v % 2 ^ 32, loaded := false, absent := true, data := [] } }) ∧
    (∀ v r, (s.gbk.stored.find? (fun (x : GbkRec) => x.seq == v % 2 ^ 32)) = some r → r.damage = 0 → exec (.gbkSelWrite v) s = .next { s with
      gbk := { s.gbk with sel := v % 2 ^ 32, loaded := true, absent := false, data := r.bytes } }) ∧
    (s.gbk.autoInc = false → exec .gbkData15Read s = .next { s with host := { s.host with readValue := fld s.gbk.data 60 4 } }) ∧
    (s.gbk.autoInc = true → exec .gbkData15Read s = .next (loadSel ((s.gbk.sel + 1) % 2 ^ 32) { s with host := { s.host with readValue := fld s.gbk.data 60 4 } })) ∧
    (∀ last counter m z p, s.gbk.erasing = some (last, counter, m, z, p) → s.gbk.next ≠ 4097 → ∃ n a t, exec .gbkEraseComplete s = .next (answer p a t) ∧ a.payload = le 4 n ++ le 4 t.gbk.oldestSeq ∧
      n = (s.gbk.stored.filter (fun (x : GbkRec) => 4096 < x.seq && x.seq ≤ last)).length ∧ t.gbk.erasing = none ∧ t.gbk.clearedTo = max s.gbk.clearedTo last ∧ t.gbk.clearings = satAdd 32 s.gbk.clearings 1)

/-! ### Metering, radios, partners -/

/-- D9 (ch. 11, 12, 24): samples, calibration, pulses, intervals and balances, gating, the power-fail warning and the cancelled save. -/
def Obligations.MeteringEventsComplete : Prop :=
  ∀ (s : State),
    (∀ v i1 i16 vh cross t (c : Nat → Option Nat) (p : Nat → Nat), s.metro.gated = false → vanaUnder s = false → (∀ k, k < 3 → (cross[k]?).getD false = false) → (∀ k, k < 3 → c k = (s.metro.cross[k]?).getD none) → (∀ k, k < 3 → p k = (s.metro.period[k]?).getD 0) →
      t = { s with metro := { s.metro with samples := s.metro.samples + 1, cross := [c 0, c 1, c 2], period := [p 0, p 1, p 2] } } →
      exec (.meteringSample v i1 i16 vh cross) s = .next ((s.metro.runs.filter (fun r => r.from_ ≤ s.clerk.tick)).foldl (circuitSample v i1 i16 vh cross) t)) ∧
    (∀ done volts amps freq mean angle j, s.metro.job.state = 1 → j = { s.metro.job with done := done, v := volts, i := amps, angle := angle, freq := freq } →
      (j.step = 0 → (calProposal j mean).natAbs ≤ 65536 → exec (.calJobComplete 0 done volts amps freq mean angle) s =
        .next (count 0x108 { s with metro := { s.metro with job := { j with new := calProposal j mean, cause := 0, state := 2 } } })) ∧
      (∀ cause, 1 ≤ cause → cause ≤ 3 → exec (.calJobComplete cause done volts amps freq mean angle) s =
        .next (count 0x109 { s with metro := { s.metro with job := { j with new := calProposal j mean, cause := cause, state := 3 } } }))) ∧
    (∀ k o, s.metro.outs[k]? = some o → o.cfg.enable = true → o.active = false → o.backlog = 0 → o.due ≠ [] →
      exec (.pulseOutEdge k) s = .next (count 0x110 (modOut k (fun o => { o with due := o.due.drop 1, active := true }) s))) ∧
    (∀ k o, s.metro.outs[k]? = some o → o.cfg.enable = true → o.active = false → 0 < o.backlog → o.due = [] →
      exec (.pulseOutEdge k) s = .next (count 0x110 (modOut k (fun o => { o with backlog := o.backlog - 1, active := true, aged := o.aged && o.backlog != 1 }) s))) ∧
    (∀ k, exec (.pulseOutEnd k) s = .next (modOut k (fun o => { o with active := false }) s)) ∧
    (∀ k o, s.metro.outs[k]? = some o → 0 < o.backlog → o.aged = false → exec (.pulseBacklogAged k) s = .next (gbk 0x0C17 0xFF (le 1 k ++ le 4 o.backlog) (modOut k (fun o => { o with aged := true }) s))) ∧
    (∀ k i ms, s.metro.ins[k]? = some i → i.cfg.enable = true →
      (i.active = false → exec (.pulseInLevelAccept k true ms) s = .next (modIn k (fun i => { i with active := true }) s)) ∧
      (i.active = true → i.cfg.width ≤ ms → exec (.pulseInLevelAccept k false ms) s = .next (count 0x112 (modIn k (fun i => { i with active := false, pulses := i.pulses + 1 }) s))) ∧
      (i.active = true → ms < i.cfg.width → exec (.pulseInLevelAccept k false ms) s = .next (count 0x113 (modIn k (fun i => { i with active := false, rejected := i.rejected + 1 }) s)))) ∧
    (∀ k m, meterOf s.ord k = m → k < 8 → m.opened = true → m.start < s.clerk.tick → intervalBoundary s.ord m s.clerk.tick = true →
      exec (.intervalClose k) s = .next (openCalc (fun c => (c.readMeter k).closeInterval (meterTaint s.ord k) k false) s)) ∧
    (∀ k, k < 8 → exec (.balanceClose k) s = .next (openCalc (fun c => c.balances (meterTaint s.ord k) k) s)) ∧
    (s.metro.gated = false → metroIdle s = true → exec (.metroDomainGate true) s = .next { s with metro := { s.metro with gated := true } }) ∧
    (s.metro.gated = true → exec (.metroDomainGate false) s = .next (restartMetro { s with metro := { s.metro with gated := false } })) ∧
    (∀ k ms rest, s.metro.inbound = (k, ms) :: rest → exec .metroControlArrival s = .next (ms.foldl (metroMsg k) { s with metro := { s.metro with inbound := rest } })) ∧
    (∀ residue parts us, s.gbk.saving = false → ∃ t, exec (.pfwAccept residue parts us) s = .next (lastSave residue parts us t) ∧
      t.supply = { s.supply with pfw := true, level := false, flags := s.supply.flags ||| 0x100, accepts := satAdd 32 s.supply.accepts 1, accepted := some s.uptime, saveDone := false } ∧
      t.gbk = (gbk 0x0101 0xFF (le 8 s.clerk.tick ++ le 4 (s.clerk.offset * 1000) ++ le 8 s.clerk.tick) s).gbk) ∧
    (s.gbk.saving = true → s.metro.saving = false → ∃ t, exec .lastSaveCancel s = .next t ∧ t.supply = { s.supply with cancelled := true, pfw := false, level := true, save := {} } ∧
      t.gbk = (gbk 0x0106 0xFF (le 2 s.supply.saveUs ++ le 1 0 ++ le 1 1) { s with gbk := { s.gbk with saving := false } }).gbk)

/-- The radios (ch. 13): slots, frames received, receive windows, the ages of downlink frames and of the alert, changes and failures. -/
def Obligations.RadioEventsComplete : Prop :=
  ∀ (q : Nat) (s : State), q ≤ 3 → (cfgAt? s.ord q s.clerk.tick).isSome = true →
    (s.clerk.running = true → s.clerk.long = false →
      (∀ sfd, (radioState s q = 0 ∨ radioState s q = 1) → exec (.slotStart q 18 sfd) s = .next (modSeq q (fun y => { y with windows := windowsOf s q 18, awaitAck := none }) s)) ∧
      (∀ slot sfd, s.mode.role ≠ 2 → transmitting s q = true → (slot = 1 ∨ slot = 2) → exec (.slotStart q slot sfd) s = .next (sendField q slot (modSeq q (fun y => { y with windows := [], awaitAck := none }) s))) ∧
      (∀ slot sfd t, s.mode.role ≠ 2 → transmitting s q = true → 3 ≤ slot → slot ≤ 17 → t = modSeq q (fun y => { y with windows := windowsOf s q slot, awaitAck := none }) s →
        (slotKind s.ord q s.clerk.tick slot = 1 → (occupant s.ord q slot s.clerk.tick 0xFF).isNone = true → exec (.slotStart q slot sfd) s = .next (sendDownlink q slot t)) ∧
        (slotKind s.ord q s.clerk.tick slot = 2 → exec (.slotStart q slot sfd) s = .next t) ∧
        (slotKind s.ord q s.clerk.tick slot = 3 → exec (.slotStart q slot sfd) s = .next (sendBulk q slot t))) ∧
      (∀ sfd b t, s.mode.role ≠ 2 → transmitting s q = true → t = modSeq q (fun y => { y with windows := [], awaitAck := none }) s →
        b = sendFixed q 0 51 (2 + (cfgAt s.ord q s.clerk.tick).key % 2) (seqOf t q).bcast (beaconPayload t q sfd) (radioSource q 0) t → b.2 = true → b.1.boot.beaconMs ≠ 0 →
        exec (.slotStart q 0 sfd) s = .next (count 0x187 b.1))) ∧
    (∀ slot mini f t, radioState s q ≤ 1 → s.mode.role ≠ 2 → (seqOf s q).awaitAck = none → (seqOf s q).windows.contains (slot, mini) = true → t = modSeq q (fun y => { y with windows := y.windows.filter (· != (slot, mini)) }) s →
      f.fcs = true → f.version = 2 → f.type = 1 → f.pan = (cfgAt s.ord q s.clerk.tick).pan → f.level = (cfgAt s.ord q s.clerk.tick).level →
      (slot ≠ 18 → f.psdu ≤ maxPsdu (cfgAt s.ord q s.clerk.tick) (if mini ≤ 3 then 2 else 1)) → f.mic = true → (partnerOfEui s.ord f.eui).isSome = true → lookD f.eui 0 s.air.counters < f.counter → rxFull s q = false →
      exec (.frameReceive q slot mini f) s = .next (acceptFrame q slot mini (f.ackReq && decide (3 < mini) && radioState t q == 1) f t)) ∧
    (∀ slot mini f ref x, radioState s q ≤ 1 → s.mode.role ≠ 2 → (seqOf s q).awaitAck = some ref → f.type = 2 → f.fcs = true → f.mic = true → f.nack = false → (seqOf s q).down.find? (fun x => x.ref == ref) = some x →
      exec (.frameReceive q slot mini f) s = .next (finishDown q 0 x (count (radioSource q 12) s))) ∧
    (∀ slot mini, (seqOf s q).windows.contains (slot, mini) = true →
      exec (.receiveWindowTimeout q slot mini) s = .next (count (radioSource q 8) (modSeq q (fun y => { y with windows := y.windows.filter (· != (slot, mini)) }) s))) ∧
    (∀ slot mini ref, (seqOf s q).windows.contains (slot, mini) = false → (seqOf s q).awaitAck = some ref → exec (.receiveWindowTimeout q slot mini) s = .next (missAck q ref s)) ∧
    (∀ ref f, (seqOf s q).down.find? (fun f => f.ref == ref) = some f → f.queued + 480 ≤ s.clerk.tick → exec (.downlinkAgeTimeout q ref) s = .next (finishDown q 2 f s)) ∧
    (∀ t, (seqOf s q).refusedAt = some t → t + 240 ≤ s.clerk.tick → exec (.radioAlertExpiry q) s = .next (modSeq q (fun y => { y with alert := false }) s)) ∧
    (∀ c, (radioOrd s.ord q).nextCfg = some (s.clerk.tick, c) → ((radioOrd s.ord q).cfg.map (·.on)).getD false = true → c.on = false →
      exec (.changeInstant q) s = .next (radioStateEntry q 0 0 (modSeq q (fun y => { y with windows := [], awaitAck := none }) s))) ∧
    (∀ c, (radioOrd s.ord q).nextCfg = some (s.clerk.tick, c) → ((radioOrd s.ord q).cfg.map (·.on)).getD false = false → c.on = true → exec (.changeInstant q) s =
      .next (radioStateEntry q 1 0 (modSeq q (fun y => { y with failed := false, restarted := none }) (modSeq q (fun y => { y with windows := [], awaitAck := none }) s)))) ∧
    (∀ cause, radioState s q = 1 → (seqOf s q).restarted = none → exec (.radioFail q cause) s = .next (restartGroup (q / 2) (gbk 0x0D07 0xFF (le 1 q ++ le 1 cause) (radioStateEntry q 2 cause
      (modSeq q (fun y => { y with failed := true, restarted := none, windows := [], awaitAck := none }) s)))))

/-- Partners, faults and sessions (ch. 14). -/
def Obligations.PartnerEventsComplete : Prop :=
  ∀ (s : State) (n : Nat),
    (∀ a, (partnerAt s.ord n).assigns.find? (fun x => x.index == a.index) = some a → 4 ≤ s.clerk.tick →
      exec (.occurrenceMissed n a.index) s = .next (openCalc (fun c => c.miss n a (c.tick - 4)) s)) ∧
    (exec (.primaryReturnMove n) s = .next (openCalc (fun c => c.returnMove n) s)) ∧
    (exec (.faultMeterTest n) s = .next (openCalc (fun c => c.meterTest n) s)) ∧
    (∀ h ch x, chanOf s.ord h = some ch → sessionOf s.ord h = some x → (ch.state = .running ∨ ch.state = .held) → (x.phase = 1 ∨ x.phase = 2) → x.start + 4 * x.duration ≤ s.clerk.tick →
      exec (.sessionDurationExpiry h) s = .next (openCalc (fun c => c.endSession h 3 3) s))

/-! ### Time and the calendar clock -/

/-- The time bases (ch. 15): messages, holdover, evaluations, steps and switches, the calendar's discipline and the pulse per second. -/
def Obligations.TimeEventsComplete : Prop :=
  ∀ (s : State),
    (∀ port i v domain, port ≤ 1 → (baseAt s.time 0).domain = domain → instAt s.time port 0 = i → i.enable = true →
      (i.state ≠ 2 → exec (.ptpMessageReceive port domain (.sync v)) s = .next (count 0x180 (modInst port 0 (fun x => { x with sync := v }) s))) ∧
      (i.mech = 1 → exec (.ptpMessageReceive port domain (.delayResp v)) s = .next (count 0x182 (modInst port 0 (fun x => { x with delay := (i.sync + v) / 2 }) s))) ∧
      (i.mech = 2 → exec (.ptpMessageReceive port domain (.pdelayResp v)) s = .next (modInst port 0 (fun x => { x with delay := v }) s)) ∧
      exec (.ptpMessageReceive port domain .other) s = .next (count 0x185 s)) ∧
    (∀ port domain m, (baseAt s.time 0).domain ≠ domain → (baseAt s.time 1).domain ≠ domain → exec (.ptpMessageReceive port domain m) s = .next (count 0x185 s)) ∧
    (∀ b x, b < 2 → baseAt s.time b = x → (x.state = 2 ∨ x.state = 3) → x.rates ≠ [] → exec (.baseHoldover b) s =
      .next (setBaseState b 4 (modBase b (fun x' => { x' with rate := (x.rates.foldl (· + ·) 0) / (x.rates.length : Int) }) s))) ∧
    (∀ port b, port < 2 → b < 2 → (instAt s.time port b).state = 2 → exec (.announceReceiptTimeout port b) s = .next (dropInst port b s)) ∧
    (∀ port b stamp i, port < 2 → b < 2 → instAt s.time port b = i → i.enable = true → i.state = 2 → exec (.ptpDelayReqSend port b stamp) s =
      .next (modInst port b (fun x => { x with egress := stamp }) { s with paths := { s.paths with sent := s.paths.sent ++ [⟨port, 0, 319, le 1 i.mech⟩] } })) ∧
    (∀ tai t, t = tbmTable tai (mismatchStep (if s.time.state = 0 then s else { s with time := { s.time with bases := advanceOffsets s.time.rate s.time.bases } })) →
      ((t.time.state = 2 ∨ t.time.state = 3) → exec (.tbmEvaluation tai) s = .next { t with
        time := { t.time with rate := (baseAt t.time (t.time.source - 1)).rate + tbmRho (baseAt t.time (t.time.source - 1)).o t.time.absorb } }) ∧
      (t.time.state ≠ 2 → t.time.state ≠ 3 → exec (.tbmEvaluation tai) s = .next t)) ∧
    (∀ ns cause t, s.time.pendingStep = some (ns, cause) → s.clerk.running = true → s.mode.role ≠ 2 →
      t = setTbmState 3 (count 0x189 { s with time := { s.time with pendingStep := none, bases := s.time.bases.map (fun (b : Base) => { b with o := b.o + ns * 65536 }) } }) →
      (0 ≤ ns → exec .tbmStep s = .next (placeTime 0x0B03 (leS 8 ns ++ le 1 3 ++ le 1 cause ++ zeros 6) (stepForward ns t))) ∧
      (ns < 0 → exec .tbmStep s = .next (placeTime 0x0B03 (leS 8 ns ++ le 1 3 ++ le 1 cause ++ zeros 6) { t with clerk := { t.clerk with offset := max t.clerk.offset 243750, long := true } }))) ∧
    (∀ dest cause, s.time.pendingSwitch = some (dest, cause) → s.time.state ≠ 0 → ∃ t, exec .tbmSwitch s = .next (count 0x18A (placeTime 0x0B02 (le 1 s.time.source ++ le 1 dest ++ le 1 cause ++ zeros 5 ++
      leS 8 ((baseAt s.time (dest - 1)).o / 65536)) t)) ∧ t.time.source = dest ∧ t.time.pendingSwitch = none ∧ (2 ≤ s.time.state → t.time.state = 2)) ∧
    (∀ e, (s.time.state = 2 ∨ s.time.state = 3) → (s.time.utcValid = true ∨ s.time.utcSaved.isSome = true) → tblErrorUs s = e →
      (e.natAbs ≤ 100000 → s.rtc.oscStop = false → exec .tblComparison s = .next (count 0x191 { s with
        time := { s.time with tblError := e }, rtc := { s.rtc with disciplined := true, trim := ofSigned 16 (clampI (-32768) 32767 (toSigned 16 s.rtc.trim - e / 4)) } })) ∧
      ((100000 < e.natAbs ∨ s.rtc.oscStop = true) → exec .tblComparison s = .next (count 0x191 { s with
        time := { s.time with tblError := e }, rtc := { s.rtc with disciplined := true, commits := s.rtc.commits ++ [(.module, dateOfUnix (unixOfTick s.clerk.tick (utcOffset s.time) + 1).toNat)] } }))) ∧
    (∀ falling offset o, s.time.pps.inMode = 1 → falling = (s.time.pps.inEdge == 1) → o = offset - (s.time.pps.cable : Int) →
      (o.natAbs ≤ s.time.pps.threshold → exec (.ppsInEdge falling offset) s = .next (count 0x18E { s with time := { s.time with ppsOffset := some o, ppsAlert := false } })) ∧
      (s.time.pps.threshold < o.natAbs → ∀ t, t = count 0x18F (count 0x18E { s with time := { s.time with ppsOffset := some o, ppsAlert := true } }) →
        exec (.ppsInEdge falling offset) s = .next (if s.time.ppsAlert && s.time.ppsOffset.isSome then t else gbk 0x0F09 0xFF (leS 4 o) t))) ∧
    (s.time.pps.inMode = 1 → s.time.ppsOffset.isSome = true → exec .ppsInLoss s = .next (gbk 0x0F09 0xFF (le 4 0x80000000) { s with time := { s.time with ppsOffset := none, ppsAlert := true } })) ∧
    (∀ sec, s.time.pps.outEnable = true → ppsBaseRuns s.time = true → s.time.ppsLabel ≠ sec → exec (.ppsOutPulse sec) s = .next (count 0x190 { s with time := { s.time with ppsLabel := sec } }))

/-- The calendar clock (ch. 16): its registers, commits, trim and wake, its oscillator and its supply. -/
def Obligations.CalendarEventsComplete : Prop :=
  ∀ (s : State) (v : Nat),
    (rtcBusy s.rtc = false → exec .rtcCtlCommit s = .next { s with rtc := { s.rtc with commits := s.rtc.commits ++ [(.staging, stagedTime s.rtc)] } }) ∧
    (exec .rtcCtlShadowRel s = .next { s with rtc := { s.rtc with shadow := none } }) ∧
    (v ≤ 6 → ∀ sh, sh = s.rtc.shadow.getD (s.rtc.now, s.rtc.weekday) → exec (.rtcShadowRead v) s = .next { s with
      rtc := { s.rtc with shadow := if v = 6 then none else some sh }, host := { s.host with readValue := rtcReg sh.1 sh.2 v } }) ∧
    (exec .rtcShadowTimeout s = .next { s with rtc := { s.rtc with shadow := none } }) ∧
    (∀ t rest, s.rtc.commits = (.staging, t) :: rest → s.rtc.disciplined = false → t.valid = true → ∃ u, exec .rtcCommit s = .next u ∧
      u.rtc = { s.rtc with commits := rest, now := t, weekday := weekdayOf t, trimAcc := 0, dateErr := false, oscStop := false } ∧ u.clerk = s.clerk ∧ u.ord = s.ord) ∧
    (∀ t rest, s.rtc.commits = (.staging, t) :: rest → s.rtc.disciplined = false → t.valid = false → ∃ u, exec .rtcCommit s = .next u ∧ u.rtc = { s.rtc with commits := rest, dateErr := true }) ∧
    (s.rtc.disciplined = false → exec (.rtcTrimRegisterWrite v) s = .next (gbk 0x1004 (hostMaster s) (le 2 s.rtc.trim ++ le 2 (v % 65536) ++ le 1 (hostMaster s))
      { s with rtc := { s.rtc with trim := v % 65536 } })) ∧
    (bits v 0 25 ≤ 22118400 → exec (.rtcWakeWrite v) s = .next (gbk 0x1006 (hostMaster s) (le 4 (bits v 0 25) ++ le 1 (b2n (bit v 25))) { s with rtc := { s.rtc with wakePeriod := bits v 0 25, wakenEn := bit v 25 } })) ∧
    (∃ u, exec .rtcRangeEnd s = .next u ∧ u.rtc.now = {} ∧ u.rtc.weekday = 6 ∧ u.rtc.oscStop = true ∧ u.rtc.cause = 3) ∧
    (∀ dip, s.rtc.oscStop = false → s.mode.ready = true → exec (.oscStopDetect dip) s = .next (gbk 0x1001 0xFF (le 1 (if dip then 2 else 1) ++ s.rtc.now.stampBytes)
      { s with rtc := { s.rtc with oscStop := true, cause := if dip then 2 else 1 } })) ∧
    (v < 2700 → s.rtc.onVbat = false → exec (.d0SupplySwitch v) s = .next { s with rtc := { s.rtc with onVbat := true, battUsed := true } }) ∧
    (2900 ≤ v → s.rtc.onVbat = true → exec (.d0SupplySwitch v) s = .next { s with rtc := { s.rtc with onVbat := false } }) ∧
    (2300 ≤ v → exec (.vbatMeasure v) s = .next { s with rtc := { s.rtc with vbatMv := v % 4096, vbatLow := false } }) ∧
    (v < 2200 → exec (.vbatMeasure v) s = .next (gbk 0x1005 0xFF (le 2 v) { s with rtc := { s.rtc with vbatMv := v % 4096, vbatLow := true } })) ∧
    (s.rtc.wakePeriod ≠ 0 → exec .wakeFire s = .next { s with rtc := { s.rtc with wake := true, wakeN := s.rtc.wakeN || s.rtc.wakenEn } }) ∧
    (exec .wakeNRelease s = .next { s with rtc := { s.rtc with wakeN := false } })

/-! ### The twin -/

/-- Twin roles, heartbeats, replication, sync, takeover, handover, and the links (ch. 20). -/
def Obligations.TwinEventsComplete : Prop :=
  ∀ (s : State),
    (s.twin.role ≠ 0 → s.mode.ready = true → exec .heartbeatSend s = .next (count 0x1E0 { s with paths := { s.paths with
      sent := s.paths.sent ++ ((if s.twin.linkUp then [(⟨3, 0, 0, heartbeatBytes s⟩ : Sent)] else []) ++ ([0, 1].filter (linkUp s)).map (fun p => (⟨p, s.twin.cfg.peer, s.twin.cfg.udp, heartbeatBytes s⟩ : Sent))) } })) ∧
    (∀ b, s.twin.role ≠ 0 → s.mode.ready = true → 64 ≤ b.length → b.take 2 = [0x54, 0x48] → fld b 8 8 ≠ Config.unitSerial.toNat → exec (.heartbeatReceive 1 b) s =
      .next (roleOnHeartbeat (parseHeartbeat b) (modTwin (fun t => { t with peer := some (parseHeartbeat b), gotUdp := true }) (count 0x1E2 s)))) ∧
    (s.twin.role = 1 → s.mode.ready = true → s.twin.gotTw = true → s.twin.gotUdp = true → s.twin.heardTw = true → s.twin.heardUdp = true → exec .heartbeatDeadline s = .next { s with
      twin := { s.twin with gotTw := false, gotUdp := false, missed := 0 } }) ∧
    (s.twin.role = 4 → s.mode.ready = true → s.twin.gotTw = false → s.twin.gotUdp = false → s.twin.heardTw = false → s.twin.heardUdp = false → 7 ≤ s.twin.missed → 3 ≤ s.twin.silent → s.twin.takeover = none → twinCurrent s = true →
      ∃ t, exec .heartbeatDeadline s = .next t ∧ t.twin.takeover = some (0, if s.clerk.offset ≤ 245000 then s.clerk.tick + 1 else s.clerk.tick + 2) ∧ t.twin.missed = s.twin.missed + 1) ∧
    (∀ cause, s.twin.takeover = some (cause, s.clerk.tick + 1) → (s.twin.role = 3 ∨ s.twin.role = 4) → s.clerk.running = true → exec .takeover s = .next (signal (takeOver cause (s.clerk.tick + 1) s))) ∧
    (∀ b w cs ws dt, (s.twin.role = 3 ∨ s.twin.role = 4) → s.twin.linkUp = true → b ≠ [] → parseWaybill b = w → s.clerk.running = true → w.tick = s.clerk.lastTick + 1 → w.prev = s.clerk.chain →
      exec (.waybillImport b cs ws dt [] false) s = .next (signal (importPaths cs ws (importWaybill w (count 0x1E7 s))))) ∧
    (∀ b p, s.twin.role ≠ 0 → s.twin.linkUp = true → s.mode.ready = true → p = parsePacket (.twin 0) b → intakeCheck s p = none → intakeFull s 4 = false →
      exec (.twinFrameReceive true (.command b)) s = .next (signal (enqueue p s))) ∧
    (∀ m v, s.twin.role ≠ 0 → s.twin.linkUp = true → s.mode.ready = true → m < 16 → (mbxOf s m).masterA = 4 → exec (.twinFrameReceive true (.ack m v)) s = .next (signal (writeOack m v s))) ∧
    (∀ f, (s.paths.sent.filter (fun (x : Sent) => x.port == 3)).getLast? = some f → s.twin.linkUp = true → exec .twinFrameResend s = .next { s with paths := { s.paths with sent := s.paths.sent ++ [f] } }) ∧
    (s.twin.role = 2 → s.mode.ready = true → s.twin.since + (if s.twin.cfg.secondary then 4000 else 2000) ≤ s.uptime → s.twin.foreign = false → s.twin.peer = none → ∃ t, exec .joinTimeout s = .next t ∧
      t.twin.role = 1 ∧ t.mode.role = 1 ∧ t.twin.epoch = (s.twin.epoch + 1) % 2 ^ 32) ∧
    (∀ cause plan ckpt ws, s.twin.role = 3 → s.twin.requested = true → cause ≠ 0 → exec (.syncComplete cause plan ckpt ws) s =
      .next (signal (gbk 0x1405 0xFF (le 1 cause) { s with twin := { s.twin with requested := false, syncCause := cause } }))) ∧
    (∀ plan ckpt, s.twin.role = 3 → s.twin.requested = true → ∃ t, exec (.syncComplete 0 plan ckpt []) s = .next (signal (gbk 0x1405 0xFF (le 1 0) (setRole 4 t))) ∧
      t.twin.requested = false ∧ t.clerk.running = true ∧ t.twin.mismatch = false ∧ t.boot.stage = 4) ∧
    (s.twin.role = 3 → s.twin.requested = false → exec .syncRetry s = .next { s with twin := { s.twin with requested := true } }) ∧
    (∀ t, s.twin.handover = some t → s.twin.role = 1 → s.clerk.tick + 1 = t → s.clerk.running = true → s.mode.role ≠ 2 → exec .handover s = .next (signal (handOver t s))) ∧
    (∀ t, s.twin.handover = some t → s.twin.role = 4 → s.clerk.lastTick + 1 = t → t ≤ s.clerk.tick + 1 → exec .handover s = .next (signal (enterHandover t s))) ∧
    (∀ port speed, port < 2 → speed < 3 → s.bhLink.getD port 0 ≠ speed → 2 ≤ s.boot.stage →
      exec (.linkStateChange port speed) s = .next (gbk 0x1407 0xFF (le 1 port ++ le 1 speed) { s with bhLink := setAt s.bhLink port speed })) ∧
    (exec (.twinLinkStateChange false) s = .next { s with twin := { s.twin with linkUp := false, offset := 0 } }) ∧
    (s.twin.unsent = [] → ∃ t, exec (.twinLinkStateChange true) s = .next t ∧ t.twin = { s.twin with linkUp := true })

/-! ### Resets, the boot, firmware -/

/-- Resets, the watchdog, the boot and the RESUME tick (ch. 21). -/
def Obligations.ResetEventsComplete : Prop :=
  ∀ (s : State),
    (∀ hs bs, s.supply.latch = none → s.boot.pwrcyc = false → ∃ t, exec (.powerOn hs bs true 0) s = .next (sampleStraps hs bs (powerOnReset 1 t)) ∧ t.rtc = s.rtc ∧ t.supply.pfw = false ∧ t.supply.level = true ∧
      bit t.supply.under 0 = false ∧ bit t.supply.under 1 = false) ∧
    (∀ hs bs, exec (.porstNLow hs bs) s = .next (let t := sampleStraps hs bs (powerOnReset 2 s); { t with boot := { t.boot with porst := true } })) ∧
    (∀ us takes, (10 ≤ us ∨ (2 ≤ us ∧ takes = true)) → exec (.rstNLow us takes) s = .next { deviceReset 3 s with boot := { (deviceReset 3 s).boot with rst := true } }) ∧
    (∀ us takes, us < 2 → exec (.rstNLow us takes) s = .next s) ∧
    (∀ k, s.boot.pending = some k → exec .resetDeviceAssert s = .next { deviceReset 4 s with boot := { (deviceReset 4 s).boot with coppice := k == 1 } }) ∧
    (∀ e r k d, s.boot.stage = 1 → heldInReset s = false → exec (.boot e r k d false) s = .next (signal (bootFirst e r k d s))) ∧
    (∀ e r k d, s.boot.stage = 2 → heldInReset s = false → exec (.boot e r k d false) s = .next (signal (bootRestore d s))) ∧
    (∀ t, s.boot.stage = 3 → s.mode.coppice = false → s.clerk.running = false → s.mode.role ≠ 2 → s.time.state ≠ 0 → s.clerk.lastTick < t → exec (.resumeTickOpen t) s = .next (signal (openResume t s))) ∧
    (2 ≤ s.boot.stage → (s.uptime + 10) % 60000 ≠ 0 → exec .inkBeat s = .next (signal { s with uptime := s.uptime + 10, host := { s.host with inkBeat := (s.host.inkBeat + 1) % 2 ^ 32 } })) ∧
    (∀ ms t, (if s.mode.ready ∨ s.mode.coppice then 1980 else 15000) ≤ ms → heldInReset s = false → (∀ x ∈ s.boot.expiries, x + 600000 < s.uptime + ms) →
      t = dueAtBoot 0x0205 ms { s with uptime := s.uptime + ms, boot := { s.boot with expiries := [s.uptime + ms], watchdogs := satAdd 32 s.boot.watchdogs 1 } } →
      exec (.watchdogExpiry ms) s = .next (deviceReset 5 t)) ∧
    (s.boot.stage = 1 → s.boot.powerOn = false → exec .bootRomSilent s = .next (requestPowerCycle 1 s)) ∧
    (s.boot.pwrcyc = true → exec .pwrcycRelease s = .next { s with boot := { s.boot with pwrcyc := false, expiries := [], stage := 0 }, supply := { s.supply with under := s.supply.under ||| 3 } }) ∧
    (∀ d ms m, d ≠ 6 → d ≠ 7 → s.boot.domains.find? (fun x => x.1 == d) = some (d, m, none) → exec (.domainRestartComplete d ms) s = .next (gbk 0x0203 5 (le 1 d ++ le 1 5 ++ le 4 ms)
      { s with boot := { s.boot with domains := s.boot.domains.filter (fun x => x.1 != d), restarts := satAdd 32 s.boot.restarts 1 } }))

/-- Firmware sets (ch. 22). -/
def Obligations.FirmwareEventsComplete : Prop :=
  ∀ (s : State) (p : Packet),
    (∀ ms f, s.firmware = f → f.session = 1 → f.packet = some p →
      exec (.slotEraseComplete ms true) s = .next (answer p { payload := le 1 f.slot ++ zeros 3 ++ le 4 ms } { s with firmware := { f with session := 2, last := s.uptime, packet := none } }) ∧
      exec (.slotEraseComplete ms false) s = .next (answer p { status := .storeError } (modFw (fun x => { x with session := 0, packet := none }) (setFwSlot f.slot (fun _ => {}) s)))) ∧
    (∀ f x, s.firmware = f → f.session = 3 → f.packet = some p → f.abort = none → fwSlot s f.slot = x → x.bytes.length = f.total → (Config.crc32c x.bytes).toNat = f.crc →
      exec (.imageReadBackComplete false) s = .next (releaseAbort (answer p { payload := le 1 f.slot ++ le 1 2 ++ zeros 2 ++ le 4 f.crc } (gbk 0x0302 2 (le 1 f.slot ++ le 4 f.crc)
        (modFw (fun y => { y with session := 0, packet := none }) (setFwSlot f.slot (fun y => { y.withHeader with state := 2 }) s)))))) ∧
    (∀ f, s.firmware = f → f.session = 3 → f.packet = some p → f.abort = none →
      exec (.imageReadBackComplete true) s = .next (releaseAbort (answer p { status := .storeError } (endStaging f.slot 1 s)))) ∧
    (s.firmware.session = 2 → s.firmware.last + 600000 ≤ s.uptime → exec .imageStagingIdle s = .next (endStaging s.firmware.slot 2 s)) ∧
    (∀ k, slotIn s 3 = some k → s.clerk.running = true → s.boot.resumeTick + 2400 ≤ s.clerk.tick → (fwSlot s k).failed = false → exec .trialComplete s = .next (gbk 0x0306 0xFF
      (le 1 k ++ le 2 (max s.firmware.epoch (fwSlot s k).epoch)) (modFw (fun f => { f with epoch := max s.firmware.epoch (fwSlot s k).epoch }) (setFwSlot k (fun y => { y with state := 4 }) s))))

/-- Supplies, temperature, counters, the test multiplexer and the test access port (ch. 23, 24). -/
def Obligations.SupplyAndCounterEventsComplete : Prop :=
  ∀ (s : State) (k v : Nat),
    (∀ mv, (k = 2 ∨ k = 3) → mv ≤ 3800 → ∃ t, exec (.supplyMonitorCrossing k true true mv) s = .next t ∧
      t.supply = { s.supply with above := s.supply.above ||| 2 ^ k, flags := s.supply.flags ||| 2 ^ k * 16 } ∧ t.cnt = (count 0x1F7 s).cnt ∧
      (s.mode.ready = true → t.gbk = (gbk 0x0102 0xFF (le 1 k ++ le 1 1 ++ le 2 mv) s).gbk)) ∧
    (∀ mv, s.mode.ready = true → ∃ t, exec (.supplyMonitorCrossing 0 false true mv) s = .next (mainLost t) ∧ t.supply = { s.supply with under := s.supply.under ||| 1, flags := s.supply.flags ||| 1 } ∧
      t.gbk = (gbk 0x0102 0xFF (le 1 0 ++ le 1 0 ++ le 2 mv) s).gbk) ∧
    (k ≤ 3 → bit s.supply.under k = true → exec (.supplyMonitorCrossing k false false v) s = .next { s with supply := { s.supply with under := s.supply.under - 2 ^ k } }) ∧
    (v + 300 < k → s.supply.latch = none → exec (.sequenceFault k v) s = .next (holdReset (afterReset false 1 { s with supply := { s.supply with latch := some (k, v), seqRecord := some (k, v) } }))) ∧
    (∀ kept, s.supply.latch.isSome = true → exec (.sequenceFaultClear kept) s = .next { s with
      supply := { s.supply with latch := none, seqRecord := if kept then s.supply.seqRecord else none, under := s.supply.under ||| 3, seqFault := false } }) ∧
    (∀ temps mv ma, s.boot.stage ≠ 0 → ∃ t u, exec (.thermalReading temps mv ma) s = .next (radioThermal (sensorMean t 0) u) ∧
      t = { s with supply := takeSupplies mv ma { s.supply with readings := (temps :: s.supply.readings).take 100 } } ∧
      u.supply.derate = (if 1100 ≤ sensorMean t 0 then true else if sensorMean t 0 < 1080 then false else s.supply.derate)) ∧
    (bit v 0 = true → exec (.cntCtlSnap v) s = .next { s with cnt := { s.cnt with
      auto := bit v 2, view := bit v 3
      snap := { values := s.cnt.counters.map (fun (x : Counter) => (x.source, x.count)), ovf := s.cnt.ovf, tick := tickNow s, offset := s.clerk.offset, cause := 0, valid := true } } }) ∧
    (bit v 1 = true → exec (.cntCtlSnapClear v) s = .next { s with cnt := { s.cnt with
      auto := bit v 2, view := bit v 3, counters := s.cnt.counters.map (fun (x : Counter) => if x.en then { x with count := 0 } else x)
      snap := { values := s.cnt.counters.map (fun (x : Counter) => (x.source, x.count)), ovf := s.cnt.ovf, tick := tickNow s, offset := s.clerk.offset, cause := 0, valid := true } } }) ∧
    (∀ c, s.cnt.counters[k]? = some c → k < 32 → c.source = bits v 0 9 → bit v 10 = false →
      exec (.cntCfgWrite k v) s = .next { s with cnt := { s.cnt with counters := modAt s.cnt.counters k (fun x => { source := bits v 0 9, en := bit v 9, count := x.count }) } }) ∧
    (∀ c, s.cnt.counters[k]? = some c → k < 32 → c.source ≠ bits v 0 9 → exec (.cntCfgWrite k v) s = .next { s with
      cnt := { s.cnt with counters := modAt s.cnt.counters k (fun _ => { source := bits v 0 9, en := bit v 9, count := 0 }), ovf := if bit s.cnt.ovf k then s.cnt.ovf - 2 ^ k else s.cnt.ovf } }) ∧
    (∀ c, s.cnt.counters[k]? = some c → k < 32 → c.source = bits v 0 9 →
      exec (.counterClear k v) s = .next { s with cnt := { s.cnt with counters := modAt s.cnt.counters k (fun _ => { source := bits v 0 9, en := bit v 9, count := 0 }) } }) ∧
    (s.cnt.lease.isSome = true → exec .tmuxLeaseExpiry s = .next (gbk 0x1208 0xFF (le 4 s.cnt.leaseSecs ++ le 1 0xFF ++ le 1 0) { s with cnt := { s.cnt with lease := none, leaseSecs := 0 } })) ∧
    (exec (.boundaryScanInstruction v) s = .next { s with cnt := { s.cnt with tapInstr := v % 32 } })

/-! ### Commands that enter the waybill -/

/-- Every command that enters the waybill (Safety.lean lists the 48: `orderedRows`) is placed at the end of the open waybill, remembered so that a
retry is not ordered again (R28), and answered ACCEPTED (R99); nothing else changes until its tick is computed (R103). -/
def Obligations.OrderedCommandsComplete : Prop :=
  ∀ x ∈ orderedRows, ∀ (p : Packet) (s : State), Orders x.2 p s →
    exec (x.1 p) s = .next (sendAccepted p false { takeTag p s with
      clerk := { s.clerk with
        open_ := s.clerk.open_ ++ [{ kind := 0x0201, cls := 1, index := masterOf s p.path, deferred := false, held := 0, offset := s.clerk.offset, body := .command p }]
        dups := s.clerk.dups ++ [{ master := masterOf s p.path, seq := p.seq, tick := s.clerk.tick, entry := s.clerk.open_.length }] }
      cnt := (count 0x070 (count 0x001 s)).cnt })

/-- A retry is not ordered again (R28): a command whose master and sequence number are those of a command ordered within the last 2,400 ticks adds no
entry; the reply of the first ordering is sent again, or will be sent when it is released. -/
def Obligations.RetriesAreNotOrderedAgain : Prop :=
  (∀ x ∈ orderedRows, ∀ (p : Packet) (s : State) (d : Dup), Taken x.2 p s → s.mode.lifecycle ≠ 4 → orderingClosed s = false → dupOf s (masterOf s p.path) p.seq = some d →
    ∃ t, exec (x.1 p) s = .next t ∧ t.clerk.open_ = s.clerk.open_ ∧ t.ord = s.ord ∧
      (∀ r, d.released = true → d.reply = some r → t = sendReply { r with path := p.path, flags := p.flags % 4, tag := p.tag, silent := p.noReply } (markAnswered p.path p.tag (count 0x004 (takeTag p s)))) ∧
      (d.released = false → ∀ y ∈ t.clerk.dups, y.master = d.master → y.seq = d.seq → p ∈ y.waiters)) ∧
  (∀ (s : State) (m q : Nat) (d : Dup), d ∈ s.clerk.dups → d.master = m → d.seq = q → s.clerk.tick < d.tick + 2400 → (dupOf s m q).isSome = true) ∧
  (∀ (s : State) (m q : Nat) (d : Dup), dupOf s m q = some d → d ∈ s.clerk.dups ∧ d.master = m ∧ d.seq = q ∧ s.clerk.tick < d.tick + 2400)

/-- The checks on a handle (R45, Table 3): the first that fails decides the status; a command that does not enter the waybill is refused when it is
executed, and one that does in the computation of its tick. -/
def Obligations.HandleChecks : Prop :=
  (∀ (o : Ordered) (k : HandleKind) (h : Handle),
    ((hType h = 0 ∨ (10 ≤ hType h ∧ hType h ≤ 14) ∨ (hType h = 15 ∧ h ≠ deviceHandle) ∨ (hGen h = 0 ∧ hType h ≠ 15)) → handleCheck o k h = some .badHandle) ∧
    (¬ (hType h = 0 ∨ (10 ≤ hType h ∧ hType h ≤ 14) ∨ (hType h = 15 ∧ h ≠ deviceHandle) ∨ (hGen h = 0 ∧ hType h ≠ 15)) →
      ((k = .device ∧ h ≠ deviceHandle ∨ (∃ ty, k = .channel ty) ∧ h = deviceHandle) → handleCheck o k h = some .badHandle) ∧
      ((k = .device ∨ ∃ ty, k = .deviceOr ty) → h = deviceHandle → handleCheck o k h = none) ∧
      (∀ ty, (k = .channel ty ∨ k = .deviceOr ty) → h ≠ deviceHandle →
        (chanAt o (hSlot h) = none → handleCheck o k h = some .staleHandle) ∧
        (∀ c, chanAt o (hSlot h) = some c → (hGen c.handle ≠ hGen h → handleCheck o k h = some .staleHandle) ∧
          (hGen c.handle = hGen h → (hType c.handle ≠ hType h ∨ (ty ≠ 0 ∧ ty ≠ hType h)) → handleCheck o k h = some .badHandle) ∧
          (hGen c.handle = hGen h → hType c.handle = hType h → (ty = 0 ∨ ty = hType h) → handleCheck o k h = none))))) ∧
  (∀ x ∈ immediateRows, ∀ (p : Packet) (s : State) (i : OpInfo) (st : Status), Taken x.2 p s → opInfo x.2 = some i → (s.boot.stage = 2 → readsState x.2 = false) → (s.mode.lifecycle = 4 → changes p = false) →
    handleCheck s.ord i.handle p.handle = some st → exec (x.1 p) s = .next (answer p { status := st } (takeTag p s))) ∧
  (∀ x ∈ orderedRows, ∀ (losers : List (Contender × Contender)) (n : Nat) (e : Entry) (p : Packet) (c : Calc) (i : OpInfo) (st : Status), p.opcode = x.2 → opInfo x.2 = some i → (∀ l ∈ losers, l.1.entry ≠ n) →
    handleCheck c.ord i.handle p.handle = some st →
    c.command losers n e p = c.reply { entry := n, tick := c.tick, held := e.held, master := e.index, packet := p, status := st.code, payload := [], handle := none })

/-- Between READY and the RESUME tick (R409): a command that would enter the waybill answers WRONG_STATE and is not ordered; one that reads ordered
state answers BUSY while the restore runs; every other is executed; RUNNING rises with the RESUME tick. -/
def Obligations.BeforeTheResumeTick : Prop :=
  (∀ x ∈ orderedRows, ∀ (p : Packet) (s : State), Taken x.2 p s → s.mode.ready = true → s.clerk.running = false → s.mode.lifecycle ≠ 4 →
    ∃ t, exec (x.1 p) s = .next t ∧ t = answer p { status := .wrongState } (takeTag p s) ∧ t.clerk = s.clerk ∧ t.ord = s.ord) ∧
  (∀ x ∈ immediateRows, ∀ (p : Packet) (s : State), Taken x.2 p s → s.mode.ready = true → s.boot.stage = 2 → readsState x.2 = true → exec (x.1 p) s = .next (answer p { status := .busy } (takeTag p s))) ∧
  (∀ x ∈ immediateRows, ∀ (p : Packet) (s : State), Executes x.2 p s → ∃ f, commandOf x.2 = some f ∧ exec (x.1 p) s = .next (answer p (f p (takeTag p s)).2 (f p (takeTag p s)).1)) ∧
  (∀ (s : State) (t : Nat), s.boot.stage = 3 → s.mode.coppice = false → s.clerk.running = false → s.mode.role ≠ 2 → s.time.state ≠ 0 → s.clerk.lastTick < t →
    bit (readReg 0x2808 s).1 20 = false ∧ ∃ u, exec (.resumeTickOpen t) s = .next u ∧ bit (readReg 0x2808 u).1 20 = true ∧ u.clerk.tick = t ∧ u.boot.stage = 4)

/-- Commands of one waybill that contradict one another (R106), in order of precedence (EMERGENCY, rank, then the later): those that win never
contradict one another, and each that loses contradicts one that wins and precedes it. The default rank and the place of the internal masters are R107's. -/
def Obligations.ContradictionsAreSettled : Prop :=
  (∀ (rank : List Nat) (xs win : List Contender) (lose : List (Contender × Contender)), settle rank xs = (win, lose) →
    win.Pairwise (fun a b => contradicts a.packet b.packet = false) ∧ (∀ x ∈ lose, x.2 ∈ win ∧ contradicts x.2.packet x.1.packet = true ∧ precedence rank x.2 ≤ precedence rank x.1) ∧
    (∀ x ∈ xs, x ∈ win ∨ ∃ w, (x, w) ∈ lose)) ∧
  (∀ (rank : List Nat) (a b : Contender), a.entry < 65536 → b.entry < 65536 → rankOf rank a.master < 16 → rankOf rank b.master < 16 →
    (a.packet.emergency = true → b.packet.emergency = false → precedence rank a < precedence rank b) ∧
    (a.packet.emergency = b.packet.emergency → rankOf rank a.master < rankOf rank b.master → precedence rank a < precedence rank b) ∧
    (a.packet.emergency = b.packet.emergency → rankOf rank a.master = rankOf rank b.master → b.entry < a.entry → precedence rank a < precedence rank b)) ∧
  State.reset.ord.rank = [2, 3, 0, 1, 4] ∧ (∀ rank, ∀ m, 5 ≤ m → rankOf rank m = m) ∧ (∀ rank m, m < 5 → m ∈ rank → rank.length = 5 → rankOf rank m < 5)

/-- In the computation of its tick: RANK_SET, QUOTA_SET, PLAN_COMMIT, STREAM_CONFIG, and the commands of a channel's life (ch. 2, 3, 5, 6; R46). -/
def Obligations.ChannelCommandsTakeEffect : Prop :=
  ∀ (n m : Nat) (p : Packet) (c : Calc) (b : List Byte) (h : Handle), p.payload = b → p.handle = h →
    ((∀ k, k < 5 → ∃ i, i < 5 ∧ fld b i 1 = k) → Effects 0x0011 n m p c
      (({ c with ord := { c.ord with rank := (List.range 5).map (fun k => fld b k 1), rankTick := c.tick + 1 } } : Calc).derive 0x0406 m (b.take 5), {})) ∧
    (∀ qs new, qs = quotaItems b → new = qs.foldl (fun (l : List Quota) q => l.map (fun x => if x.cls == q.cls && x.index == q.index then q else x)) c.ord.quotas →
      qs ≠ [] → qs.length ≤ 10 → (∀ q ∈ qs, ∃ e k, quotaRange q.cls q.index = some (e, k) ∧ e.1 ≤ q.entries ∧ q.entries ≤ e.2 ∧ k.1 ≤ q.kib ∧ q.kib ≤ k.2) → quotaSums new = true →
      ∃ c', Effects 0x0202 n m p c (c', {}) ∧ c'.ord = { c.ord with quotas := new }) ∧
    (c.plan.state = 1 → c.plan.owner = m → fld b 0 4 = c.plan.gen → checkPlan c.ord (staged c.plan) = none → ∃ c' a, Effects 0x0303 n m p c (c', a) ∧ a.status = .ok ∧
      c'.plan = { c.plan with state := 2, step := 1, commitTick := c.tick, replied := 0 } ∧ c'.ord = c.ord ∧ a.payload = le 4 c.plan.gen ++ zeros 4 ++ digestBytes (staged c.plan).digest ++ zeros 8) ∧
    (∀ ch sels cfg, chanOf c.ord h = some ch → ch.judged ≠ .running → fld b 0 1 < 3 → 1 ≤ fld b 1 1 → fld b 1 1 ≤ 8 →
      sels = (List.range (fld b 1 1)).map (fun i => (⟨fld b (32 + 8 * i) 2, fld b (36 + 8 * i) 4⟩ : Selector)) → (∀ x ∈ sels, selectorKnown x.code = true ∧ (x.code = 0x0301 → x.filter = 0)) →
      256 ≤ fld b 4 4 → fld b 4 4 ≤ 8192 → fld b 8 2 ≤ 512 →
      sumBy (fun (x : Channel) => if x.handle == h then 0 else match x.body with | .stream q => q.spillMiB | _ => 0) c.ord.channels + fld b 8 2 ≤ 512 →
      cfg = { master := fld b 0 1, window := 1, queueKiB := fld b 4 4, spillMiB := fld b 8 2, keySlot := fld b 10 1, udp := fld b 12 2, addr := fld b 16 16, selectors := sels, configured := true } →
      Effects 0x0040 n m p c (c.modChan h (fun x => ({ x with body := .stream cfg } : Channel).complete c.tick), {})) ∧
    (∀ t slot new, fld b 0 1 = t → 1 ≤ t → t ≤ 9 → fld b 1 1 ≤ 3 → freeChanSlot c.ord = some slot → (liveOf c.ord t).length < typeLimit t → loopNeed t ≤ (freeSlots c.ord (loopNeed t)).length → c.storeFull = false →
      new = mkHandle t (lookD slot 1 c.ord.gens) slot → ∃ c', Effects 0x0101 n m p c (c', { payload := le 4 new.toNat ++ zeros 4, handle := some new }) ∧
        c'.ord.channels = insertChan { handle := new, created := c.tick, since := c.tick, label := (b.drop 8).take 16, body := newBody c.ord t } c.ord.channels ∧ c'.ord.gens = c.ord.gens) ∧
    (∀ ch, chanOf c.ord h = some ch → ch.state = .configured → Effects 0x0102 n m p c ((c.setState h .running).begin_ ch, {})) ∧
    (∀ ch, chanOf c.ord h = some ch → ch.state = .running → Effects 0x0103 n m p c (((c.setState h .held).pause h true).derive 0x0607 m (le 4 h.toNat ++ le 1 3), {})) ∧
    (∀ ch, chanOf c.ord h = some ch → ch.state = .held → Effects 0x0104 n m p c (((c.setState h .running).pause h false).derive 0x0607 m (le 4 h.toNat ++ le 1 2), {})) ∧
    (∀ ch, chanOf c.ord h = some ch → (ch.state ≠ .configured → Effects 0x0102 n m p c (c, { status := .wrongState })) ∧ (ch.state ≠ .running → Effects 0x0103 n m p c (c, { status := .wrongState })) ∧
      (ch.state ≠ .held → Effects 0x0104 n m p c (c, { status := .wrongState }))) ∧
    (∀ ch, chanOf c.ord h = some ch → referrer c ch = none → ∃ c', Effects 0x0105 n m p c (c', {}) ∧ (∀ x ∈ c'.ord.channels, x.handle ≠ h) ∧ c'.ord.freed = c.ord.freed ++ [hSlot h] ∧
      lookD (hSlot h) 1 c'.ord.gens = nextGen (lookD (hSlot h) 1 c.ord.gens)) ∧
    (∀ ch r, chanOf c.ord h = some ch → referrer c ch = some r → Effects 0x0105 n m p c (c, { status := .wrongState, payload := le 4 r.toNat ++ zeros 4 }))

/-- In the computation of its tick: groups, schedules, overrides, curfews and fallback (ch. 7). -/
def Obligations.LightCommandsTakeEffect : Prop :=
  ∀ (n m : Nat) (p : Packet) (c : Calc) (b : List Byte) (h : Handle), p.payload = b → p.handle = h →
    (∀ sch : Handle, sch = BitVec.ofNat 32 (fld b 0 4) → (sch = 0 ∨ (hType sch = 2 ∧ (chanOf c.ord sch).isSome = true)) → fld b 4 1 ≤ 47 → fld b 5 1 ≤ 47 → fld b 6 1 ≤ 7 → 1 ≤ fld b 7 1 → fld b 7 1 ≤ 3 →
      fld b 8 2 ≤ 1000 → (fld b 10 2 = 0 ∨ (10 ≤ fld b 10 2 ∧ fld b 10 2 ≤ 3600)) →
      Effects 0x0401 n m p c (((c.modGroup h (fun g => { g with schedule := sch, up := fld b 4 1, down := fld b 5 1, flags := fld b 6 1, neighbours := fld b 7 1, raise := fld b 8 2, refresh := fld b 10 2 })).complete h).configured m p, {})) ∧
    (∀ f k, fld b 0 1 = 0 → fld b 1 1 = 1 → fld b 4 2 = f → fld b 6 2 = k → f + k ≤ 8192 → (∀ i, i < k → (placementOf c.ord (i + f)).isSome = true) → ∃ c' ms a, Effects 0x0402 n m p c (c', a) ∧ a.status = .ok ∧
      c'.nextMembers = some ms ∧ c'.ord = c.ord ∧ ∀ i, i < k → look (i + f) ms = some h) ∧
    (∀ x : Schedule, 1 ≤ fld b 40 1 → fld b 40 1 ≤ 8 → x = { lat := fldS b 0 4, lon := fldS b 4 4, duskAngle := fld b 8 2, dawnAngle := fld b 10 2, std := fldS b 12 2, dst := fld b 14 1, planPlace := bit (fld b 15 1) 0, startRule := readRule b 16, endRule := readRule b 24, week := (List.range 7).map (fun d => fld b (32 + d) 1), programmes := readProgrammes b (fld b 40 1) } →
      x.lat.natAbs ≤ 900000000 → x.lon.natAbs ≤ 1800000000 → x.duskAngle ≤ 180 → x.dawnAngle ≤ 180 → -720 ≤ x.std → x.std ≤ 840 → x.dst ≤ 120 → fld b 15 1 ≤ 1 → rulesOk x.startRule x.endRule = true →
      (∀ w ∈ x.week, w < fld b 40 1) → (∀ g ∈ x.programmes, g ≠ [] ∧ g.length ≤ 16 ∧ ∀ y ∈ g, y.ok = true) →
      Effects 0x0410 n m p c (((c.modSchedule h (fun old => { x with holidays := old.holidays, posted := old.posted })).complete h).configured m p, {})) ∧
    (∀ ch (x : Schedule) (hs : List Holiday), chanOf c.ord h = some ch → scheduleOf c.ord h = some x → ch.judged ≠ .created → fld b 0 1 ≤ 64 →
      hs = (List.range (fld b 0 1)).map (fun i => { year := fld b (8 + 8 * i) 2, month := fld b (10 + 8 * i) 1, day := fld b (11 + 8 * i) 1, programme := fld b (12 + 8 * i) 1 }) →
      (∀ y ∈ hs, 2000 ≤ y.year ∧ y.year ≤ 2199 ∧ 1 ≤ y.month ∧ y.month ≤ 12 ∧ 1 ≤ y.day ∧ y.day ≤ monthDays y.year y.month ∧ y.programme < x.programmes.length) →
      Effects 0x0411 n m p c ((c.modSchedule h (fun x => { x with holidays := hs })).configured m p, {})) ∧
    (∀ ch g slot, chanOf c.ord h = some ch → groupOf c.ord h = some g → ch.state ≠ .held → ch.state ≠ .faulted → fld b 0 1 = slot → slot ≤ 7 → (fld b 1 1 ≤ 47 ∨ fld b 1 1 = 0xFF) → fld b 2 2 ≤ 1000 →
      1 ≤ fld b 4 4 → fld b 4 4 ≤ 604800 → (fld b 8 2 = 0xFFFF ∧ fld b 10 2 = 0xFFFF ∨ fld b 8 2 ≤ fld b 10 2 ∧ fld b 10 2 ≤ 8191) → look slot g.overrides = none →
      Effects 0x0420 n m p c (((c.modGroup h (fun g => { g with overrides := put slot { emergency := p.emergency, master := m, code := fld b 1 1, level := fld b 2 2, first := fld b 8 2, last := fld b 10 2, expiry := c.tick + 4 * fld b 4 4, tick := c.tick, entry := n } g.overrides })).derive 0x0801 m (le 4 h.toNat ++ le 1 slot ++ le 2 (fld b 2 2) ++ le 1 (b2n p.emergency) ++ le 1 m)).count 0x084 1,
        { payload := le 8 (c.tick + 4 * fld b 4 4) })) ∧
    (∀ ch g slot o, chanOf c.ord h = some ch → groupOf c.ord h = some g → ch.state ≠ .held → ch.state ≠ .faulted → fld b 0 1 = slot → slot ≤ 7 → look slot g.overrides = some o → o.emergency = true → p.emergency = false →
      Effects 0x0421 n m p c (c, { status := .notPermitted }) ∧ (fld b 1 1 ≤ 47 → fld b 2 2 ≤ 1000 → 1 ≤ fld b 4 4 → fld b 4 4 ≤ 604800 → fld b 8 2 ≤ fld b 10 2 → fld b 10 2 ≤ 8191 →
        Effects 0x0420 n m p c (c, { status := .notPermitted }))) ∧
    (∀ ch g slot o, chanOf c.ord h = some ch → groupOf c.ord h = some g → ch.state ≠ .held → ch.state ≠ .faulted → fld b 0 1 = slot → slot ≤ 7 → g.overrides = [(slot, o)] → (o.emergency = true → p.emergency = true) →
      Effects 0x0421 n m p c (((c.modGroup h (fun g => { g with overrides := g.overrides.filter (fun x => !((slot == 0xFF || x.1 == slot) && (p.emergency || !x.2.emergency))) })).derive 0x0802 m
        (le 4 h.toNat ++ le 1 slot ++ le 1 1)).count 0x086 1, { payload := le 1 (2 ^ slot) ++ zeros 3 })) ∧
    (∀ ws : List Curfew, fld b 0 1 ≤ 8 → ws = (List.range (fld b 0 1)).map (fun i => { days := fld b (8 + 8 * i) 1, start := fld b (10 + 8 * i) 2, stop := fld b (12 + 8 * i) 2, level := fld b (14 + 8 * i) 2 }) →
      (∀ w ∈ ws, w.days ≤ 127 ∧ w.start ≤ 1439 ∧ w.stop ≤ 1439 ∧ w.start ≠ w.stop ∧ w.level ≤ 1000) → Effects 0x0430 n m p c ((c.modGroup h (fun g => { g with curfews := ws })).configured m p, {})) ∧
    (∀ f : Fallback, f = { level := fld b 0 2, delay := fld b 2 2, code := fld b 4 1, mode := fld b 5 1 } → fld b 6 1 = 0 → f.level ≤ 1000 → 30 ≤ f.delay → f.delay ≤ 3600 → f.code ≤ 47 → f.mode ≤ 1 →
      (h = deviceHandle → Effects 0x0431 n m p c (({ c with ord := { c.ord with fallback := f } } : Calc).configured m p, {})) ∧
      (h ≠ deviceHandle → Effects 0x0431 n m p c ((c.modGroup h (fun g => { g with fallback := some f })).configured m p, {})))

/-- In the computation of its tick: the escort (ch. 8) and the loop engine (ch. 9). -/
def Obligations.EscortAndLoopCommandsTakeEffect : Prop :=
  ∀ (n m : Nat) (p : Packet) (c : Calc) (b : List Byte) (h : Handle), p.payload = b → p.handle = h →
    (∀ e links, escortOf c.ord h = some e → links = (List.range (fld b 12 2)).map (fun i => fld b (16 + 2 * i) 2) → 3000 ≤ fld b 0 2 → fld b 0 2 ≤ 12000 → 250 ≤ fld b 2 2 → fld b 2 2 ≤ 4000 → fld b 2 2 + 1000 ≤ fld b 0 2 →
      1 ≤ fld b 4 2 → fld b 4 2 ≤ 1024 → 100 ≤ fld b 6 2 → fld b 6 2 ≤ 5000 → 32 ≤ fld b 8 2 → fld b 8 2 ≤ 32768 → fld b 10 1 ≤ 3 → 1 ≤ fld b 12 2 → fld b 12 2 ≤ 1024 → (∀ l ∈ links, l ≤ 4095) → links.eraseDups = links →
      otherAllotments c.ord h + fld b 4 2 ≤ 1024 → e.travellers = [] → ∃ c', Effects 0x0501 n m p c (c', {}) ∧
        c'.ord = ((c.modEscort h (fun _ => { e with horizon := fld b 0 2, cycle := fld b 2 2, allot := fld b 4 2, slack := fld b 6 2, threshold := fld b 8 2, flags := fld b 10 1, links := links })).complete h).ord) ∧
    (∀ e f, escortOf c.ord h = some e → f = (⟨fld b 2 2, fld b 4 4, fld b 8 4, fld b 12 2, fld b 14 2, fld b 16 2, fld b 18 2⟩ : Profile) → fld b 0 1 ≤ 2 → f.level ≤ 1000 → f.lead ≤ 50000 → f.trail ≤ 20000 → f.rise ≤ 10000 →
      f.vmin ≤ f.vnom → f.vnom ≤ f.vmax → f.vmax ≤ 60000 → (((setAt e.profiles (fld b 0 1) f)[0]?).map (·.vmax)).getD 0 < (((setAt e.profiles (fld b 0 1) f)[1]?).map (·.vmax)).getD 0 →
      Effects 0x0502 n m p c ((c.modEscort h (fun x => { x with profiles := setAt e.profiles (fld b 0 1) f })).derive 0x0902 m (le 4 h.toNat ++ le 1 (fld b 0 1) ++ le 2 f.level ++ le 4 f.lead), {})) ∧
    (∀ e link fs, escortOf c.ord h = some e → link = fld b 0 2 → link ≤ 4095 → e.links.contains link = true → fs = (List.range 64).map (fun i => fld b (4 + 2 * i) 2) →
      (fld b 2 1 = 0 → (∀ f ∈ fs, f ≤ 2000) → Effects 0x0503 n m p c ((c.modEscort h (fun e => { e with tables := put link fs e.tables })).derive 0x0906 m (le 4 h.toNat ++ le 2 link), {})) ∧
      (fld b 2 1 = 1 → (look link e.tables).isSome = true → Effects 0x0503 n m p c ((c.modEscort h (fun e => { e with tables := del link e.tables })).derive 0x0906 m (le 4 h.toNat ++ le 2 link), {}))) ∧
    (∀ e link, escortOf c.ord h = some e → link = fld b 4 2 → link ≤ 4095 → bit e.flags 0 = true → e.links.contains link = true → fld b 0 1 = 3 → fld b 6 1 ≤ 2 → fld b 8 2 ≤ 3600 → fld b 8 2 ≠ 0 →
      Effects 0x0504 n m p c ((c.modEscort h (fun e => { e with occupied := e.occupied.filter (fun o => !(o.link == link && o.cls == fld b 6 1)) ++ [⟨link, fld b 6 1, c.tick + 4 * fld b 8 2⟩] })).count 0x0AC 1, {})) ∧
    (∀ e, escortOf c.ord h = some e → bit e.flags 0 = false → fld b 4 2 ≤ 4095 → fld b 0 1 = 3 → fld b 6 1 ≤ 2 → fld b 8 2 ≤ 3600 → Effects 0x0504 n m p c (c, { status := .notPermitted })) ∧
    (∀ x items q, loopTarget c.ord h (fld b 0 1) = .ok x → x.cls = 1 → 1 ≤ fld b 1 1 → fld b 1 1 ≤ 16 →
      items = (List.range (fld b 1 1)).map (fun i => (fld b (8 + 8 * i) 1, if fld b (8 + 8 * i) 1 = 4 then ((fld b (12 + 8 * i) 4 : Nat) : Int) else fldS b (12 + 8 * i) 4)) → q = c.queueOf x →
      (∀ i ∈ items, coefOk i.1 i.2 = true) → writesOk x (q ++ items.map (fun i => LoopWrite.coef i.1 i.2)) = true → q.length + fld b 1 1 ≤ 16 →
      Effects 0x0602 n m p c ((c.queueWrites x (items.map (fun i => LoopWrite.coef i.1 i.2))).derive 0x0A02 m (le 4 h.toNat ++ le 1 x.member ++ le 1 (fld b 1 1)), { payload := le 1 (q.length + fld b 1 1) ++ zeros 7 })) ∧
    (∀ x, loopTarget c.ord h (fld b 0 1) = .ok x → (c.queueOf x).length < 16 →
      Effects 0x0603 n m p c ((c.queueWrites x [.table ((List.range 64).map (fun i => fld b (4 + 2 * i) 2))]).derive 0x0A02 m (le 4 h.toNat ++ le 1 x.member ++ le 1 1), {})) ∧
    (∀ x, loopTarget c.ord h (fld b 0 1) = .ok x → x.cls = 1 → ownerStopped c.ord h = false →
      (x.held = false → (c.fastOf x).held = false → Effects 0x0604 n m p c (((c.modSlot x.slot (fun y => { y with held := true })).count 0x0C7 1).derive 0x0A03 m (le 4 h.toNat ++ le 1 x.member ++ le 1 0xFF), {})) ∧
      (x.held = true → x.release = none → fld b 1 1 ≤ 1 → Effects 0x0605 n m p c ((c.modSlot x.slot (fun y => { y with release := some (fld b 1 1, some p) })).derive 0x0A03 m (le 4 h.toNat ++ le 1 x.member ++ le 1 (fld b 1 1)), { later := true }))) ∧
    (∀ x, loopTarget c.ord h (fld b 0 1) = .ok x → x.cls = 1 → fld b 1 1 ≤ 1 → fld b 2 1 ≠ 1 → fld b 2 1 ≤ 32 → 0 < fldS b 4 4 → 4 ≤ fld b 8 4 → fld b 8 4 ≤ 65535 →
      Effects 0x0608 n m p c (c.modSlot x.slot (fun y => { y with oscAction := fld b 1 1, oscN := fld b 2 1, oscA := fldS b 4 4, oscW := fld b 8 4, osc := false, oscAt := [], oscSign := 0 }), {})) ∧
    (∀ ch, chanOf c.ord h = some ch → memberRange h ≠ 0 → fld b 0 1 ≤ 7 → fld b 2 2 = 0 → (ch.judged = .created ∨ ch.judged = .configured) →
      ∃ c', Effects 0x0607 n m p c (c', {}) ∧ c'.ord = { c.ord with loopSets := c.ord.loopSets.filter (fun s => !(s.owner == h && s.set == fld b 0 1)) }) ∧
    (∀ ch f, chanOf c.ord h = some ch → f = ({ nodes := [(fld b 16 1, fld b 17 1)], kind := fld b 1 1, trigNode := 0, decim := fld b 3 1, depth := fld b 4 2, pre := fld b 6 2, level := fldS b 8 4, mask := fld b 12 2, slot := fld b 14 1 } : TraceCfg) →
      fld b 0 1 = 1 → fld b 2 1 = 0 → f.kind ≤ 4 → 1 ≤ f.decim → 256 ≤ f.depth → f.depth ≤ 16384 → f.depth % 256 = 0 → f.pre < f.depth → f.mask ≤ 31 → f.slot ≤ 127 → fld b 16 1 ≤ 127 → fld b 17 1 ≤ 11 →
      (∃ x ∈ c.ord.loops, x.slot = f.slot) → (∃ x ∈ c.ord.loops, x.slot = fld b 16 1) → c.armed.contains h = false →
      Effects 0x0610 n m p c (((c.modChan h (fun ch => { ch with body := .trace f })).complete h).toDrive (.trace h f), {})) ∧
    (∀ ch, chanOf c.ord h = some ch → memberRange h ≤ fld b 0 1 → memberRange h ≠ 0 → Effects 0x0601 n m p c (c, { status := .badParam })) ∧
    (∀ ch new load, chanOf c.ord h = some ch → memberRange h ≠ 0 → fld b 0 1 < memberRange h → (ch.judged = .created ∨ ch.judged = .configured) → c.ord.slotOf h (fld b 0 1) = none →
      1 ≤ fld b 1 1 → fld b 1 1 ≤ 5 → fld b 2 1 = 1 → fld b 3 1 ≤ 1 → fld b 4 2 = 0 → sourceOk 1 (fld b 6 1) = true → fld b 7 1 = 0 → fld b 8 1 ≤ 1 → fld b 9 1 = 0 → (freeSlots c.ord 1).head? = some new.slot →
      new = { slot := new.slot, owner := h, member := fld b 0 1, law := fld b 1 1, cls := 1, comp := fld b 3 1, divider := 0, src := fld b 6 1, sp := 0, pos := fld b 8 1, bus := 0, coef := (List.range 12).map (fun i => if i == 3 then ((fld b (16 + 4 * i) 4 : Nat) : Int) else fldS b (16 + 4 * i) 4), oscA := 65536, oscW := 4, table := List.replicate 64 16384 } →
      coefsOk new.coef = true → classesOk (c.ord.slotsOf h) (c.ord.loopSets.filter (fun s => s.owner == h)) new = true → load = fastLoad (new :: c.ord.loops.filter (fun x => x.slot != new.slot)) → load.1 ≤ 1600000 * load.2 →
      ∃ c', Effects 0x0601 n m p c (c', { payload := le 1 new.slot ++ zeros 7 }) ∧ c'.ord.loops = insertBy (fun y => y.slot) new (c.ord.loops.filter (fun x => x.slot != new.slot)))

/-- In the computation of its tick: luminaires (ch. 10), metrology and energy (ch. 11, 12). -/
def Obligations.DriveAndMeteringCommandsTakeEffect : Prop :=
  ∀ (n m : Nat) (p : Packet) (c : Calc) (b : List Byte) (h : Handle), p.payload = b → p.handle = h →
    (∀ ch l, chanOf c.ord h = some ch → lumOf c.ord h = some l → fld b 2 1 = 1 → fld b 4 2 ≤ 8191 → fld b 6 2 ≤ 1000 → fld b 8 2 ≤ 1000 → fld b 10 2 ≤ 1000 → (placementOf c.ord (fld b 4 2)).isSome = true →
      Effects 0x0701 n m p c (((c.modLum h (fun l => { l with lead := fld b 4 2, mix := [fld b 6 2, fld b 8 2, fld b 10 2] })).sendLum h).derive 0x0B01 m (le 4 h.toNat ++ le 1 (l.num.getD 0xFF) ++ le 2 (fld b 4 2) ++ le 1 1), {})) ∧
    (∀ ch (x : StringCfg), chanOf c.ord h = some ch → ch.busy = false → c.ord.slotOf h (fld b 0 1) = none → fld b 0 1 ≤ 2 → x = ⟨fld b 4 4, fld b 8 4, fld b 12 4, fld b 16 4, fld b 20 4⟩ → 250000 ≤ x.fsw → x.fsw ≤ 1000000 →
      3277 ≤ x.rated → x.rated ≤ 196608 → x.vmin ≤ 3932160 → 6554 ≤ x.duty → x.duty ≤ 62259 → 3276800000 ≤ x.rated * x.shunt → x.rated * x.shunt ≤ 6553600000 →
      Effects 0x0702 n m p c ((((c.modLum h (fun l => { l with strings := setAt l.strings (fld b 0 1) (some x) })).lumComplete h).sendLum h).derive 0x0B02 m (le 4 h.toNat ++ le 1 (fld b 0 1) ++ le 4 x.rated), {})) ∧
    (∀ t, fld b 0 1 ≤ 2 → t = (List.range 16).map (fun i => fld b (4 + 2 * i) 2) → (∀ x ∈ t, 1638 ≤ x) →
      Effects 0x0703 n m p c (((c.modLum h (fun l => { l with tables := setAt l.tables (fld b 0 1) t })).sendLum h).derive 0x0B08 m (le 4 h.toNat ++ le 2 p.opcode), {})) ∧
    (70 ≤ fld b 0 2 → fld b 0 2 ≤ 110 → fld b 0 2 + 5 ≤ fld b 2 2 → fld b 2 2 ≤ 150 → fld b 4 2 ≤ 1000 →
      Effects 0x0704 n m p c (((c.modLum h (fun l => { l with knee := fld b 0 2, max := fld b 2 2, factor := fld b 4 2 })).sendLum h).derive 0x0B08 m (le 4 h.toNat ++ le 2 p.opcode), {})) ∧
    (∀ l k, lumOf c.ord h = some l → l.num = some k → fld b 0 1 = 1 → (l.latched[0]?).getD 0 ≠ 0 →
      Effects 0x0706 n m p c (((c.toDrive (.clear [(3 * k, (l.seqs[0]?).getD 0)])).modLum h (fun l' => { l' with latched := setAt l.latched 0 0 })).derive 0x0B04 m (le 4 h.toNat ++ le 1 1), { payload := le 1 1 ++ zeros 7 })) ∧
    (∀ ch x, chanOf c.ord h = some ch → circuitOf c.ord h = some x → fld b 2 1 = 1 → (fld b 4 4 = 0 ∨ (1000 ≤ fld b 4 4 ∧ fld b 4 4 ≤ 2000000)) →
      Effects 0x0801 n m p c ((c.modCircuit h (fun x => { x with limit := fld b 4 4 })).derive 0x0C01 m (le 4 h.toNat ++ le 1 (x.num.getD 0xFF) ++ le 1 x.phases.length ++ le 4 (fld b 4 4)), {})) ∧
    (∀ ch x k u i new, chanOf c.ord h = some ch → circuitOf c.ord h = some x → ch.busy = false → fld b 0 1 = k → k ≤ 7 → fld b 1 1 = 1 → fld b 2 1 = 0 → fld b 3 1 = 0xFF → fld b 4 4 = 0 → 100 ≤ fld b 8 2 → fld b 8 2 ≤ 277 →
      1 ≤ fld b 10 2 → fld b 10 2 ≤ 50 → 6554 ≤ fld b 12 4 → fld b 12 4 ≤ 327680000 → fld b 16 1 = u → u ≤ 2 → fld b 17 1 = i → i ≤ 15 → (heldInputs c.ord h).contains i = false →
      (∀ y ∈ c.ord.channels, y.handle ≠ h → ∀ z, y.body = .circuit z → z.num ≠ some k) → new = { x with num := some k, phases := [(u, i)], neutral := 0xFF, limit := 0, un := fld b 8 2, noLoad := fld b 10 2, inom := fld b 12 4 } →
      ∃ c', Effects 0x0801 n m p c (c', {}) ∧ c'.ord = { ((c.modCircuit h (fun _ => new)).complete h).ord with loops := c.ord.loops.map (fun (s : LoopSlot) => if s.owner == h then { s with src := 0x30 + k } else s) }) ∧
    (∀ i v, fld b 0 1 = 0 → fld b 1 1 = i → i ≤ 3 → fld b 4 4 = v → 1000 ≤ v → v ≤ 2000000 → fld b 8 4 = 0 → inputBusy c.ord 0 i = false →
      Effects 0x0802 n m p c ((({ c with ord := { c.ord with metering := { c.ord.metering with vin := modAt c.ord.metering.vin i (fun x => { x with value := v }) } } } : Calc).toMetro (.input 0 i v 0)).derive 0x0C02 m
        (le 1 0 ++ le 1 i ++ le 4 v ++ le 4 0), {})) ∧
    (∀ i, fld b 0 1 = 1 → fld b 1 1 = 0 → fld b 2 1 = i → i ≤ 3 → fld b 3 1 = 0 → calOk 0 (fldS b 8 4) (fld b 12 4) (fldS b 16 4) = true → ∃ c' a, Effects 0x0805 n m p c (c', a) ∧ a = { payload := le 4 (c.ord.metering.calCount + 1) ++ zeros 4 } ∧
      c'.ord = { c.ord with metering := { c.ord.metering with vin := modAt c.ord.metering.vin i (MetIn.withCal 0 (fldS b 8 4, fld b 12 4, fldS b 16 4)), calCount := c.ord.metering.calCount + 1 } }) ∧
    (∀ x k y, circuitOf c.ord h = some x → x.num = some k → meterOf c.ord k = y → fld b 0 1 ∈ [1, 5, 15, 30, 60] → -720 ≤ fldS b 2 2 → fldS b 2 2 ≤ 840 → 1 ≤ fld b 4 2 → fld b 4 2 ≤ 24 → 10 ≤ fld b 6 2 → fld b 6 2 ≤ 1000 →
      (y.opened = false ∨ (y.length = fld b 0 1 ∧ y.align = fldS b 2 2)) →
      Effects 0x0821 n m p c ((c.modMeter k (fun y => { y with length := fld b 0 1, align := fldS b 2 2, delay := fld b 4 2, threshold := fld b 6 2 })).derive 0x0C10 m (le 1 k ++ le 1 (fld b 0 1) ++ leS 2 (fldS b 2 2)), {})) ∧
    (∀ o x, fld b 0 1 = o → o ≤ 3 → fld b 1 1 ≤ 1 → x = ({ enable := fld b 1 1 == 1, mask := fld b 2 1, quantity := fld b 3 1, k := fld b 4 4, width := fld b 8 2 } : PulseOutCfg) → x.quantity ≤ 4 → 1 ≤ x.k → x.k ≤ 100000 → 30 ≤ x.width →
      x.width ≤ 200 → (∀ k, k < 8 → bit x.mask k = true → circuitLive c.ord k = true) →
      Effects 0x0823 n m p c ((({ c with ord := { c.ord with metering := { c.ord.metering with outs := setAt c.ord.metering.outs o x } } } : Calc).toMetro (.pulseOut o x)).derive 0x0C11 m (le 1 o ++ le 1 x.mask ++ le 1 x.quantity ++ le 4 x.k), {})) ∧
    (∀ i x, fld b 0 1 = i → i ≤ 3 → fld b 1 1 ≤ 1 → x = ({ enable := fld b 1 1 == 1, circuit := fld b 2 1, quantity := fld b 3 1, k := fld b 4 4, debounce := fld b 8 1, width := fld b 9 1 } : PulseInCfg) → x.circuit = 0xFF → x.quantity ≤ 4 →
      1 ≤ x.k → x.k ≤ 100000 → 1 ≤ x.debounce → x.debounce ≤ 20 → 10 ≤ x.width → x.width ≤ 30 →
      Effects 0x0824 n m p c ((({ c with ord := { c.ord with metering := { c.ord.metering with ins := setAt c.ord.metering.ins i x } } } : Calc).toMetro (.pulseIn i x)).derive 0x0C12 m (le 1 i ++ le 1 x.circuit ++ le 4 x.k), {}))

/-- In the computation of its tick: radios (ch. 13), partners and sessions (ch. 14). -/
def Obligations.RadioAndPartnerCommandsTakeEffect : Prop :=
  ∀ (n m : Nat) (p : Packet) (c : Calc) (b : List Byte) (h : Handle), p.payload = b → p.handle = h →
    (∀ r x inst, fld b 0 1 = r → r ≤ 3 → x = ({ on := fld b 1 1 == 1, family := fld b 2 1, rate := fld b 3 1, option := fld b 4 1, flags := fld b 5 1, preamble := fld b 6 1, level := fld b 7 1, guard := fld b 8 2, pan := fld b 10 2, key := fld b 12 1 } : RadioCfg) →
      fld b 1 1 ≤ 1 → (x.level = 5 ∨ x.level = 6) → 100 ≤ x.guard → x.guard ≤ 2000 → x.pan ≠ 0xFFFF → x.key ≤ 63 → x.flags ≤ 15 → x.family = 1 → x.rate ≤ 3 → x.option = 0 → 4 ≤ x.preamble → x.preamble ≤ 32 → keyStatus c.keys x.key 0 = none →
      inst = changeInstant c.tick (pendingAt c.ord c.tick [] [r] true) → airConfigOk (hopAt c.ord inst) ((cfgsAt c.ord inst).set r x) (plansAt c.ord inst) = true →
      ∃ c', Effects 0x0901 n m p c (c', {}) ∧ c'.ord = (c.modRadio r (fun y => { y.settle c.tick with nextCfg := some (inst, x) })).ord) ∧
    (∀ r x inst, fld b 0 1 = r → r ≤ 3 → x = ({ field := fld b 1 1, kinds := (List.range 60).map (fun i => fld b (4 + i) 1) } : SlotPlan) → (x.field = 1 ∨ x.field = 2) → (∀ k ∈ x.kinds, k ≤ 3) →
      inst = changeInstant c.tick (pendingAt c.ord c.tick [r] [] true) → airConfigOk (hopAt c.ord inst) (cfgsAt c.ord inst) ((plansAt c.ord inst).set r x) = true →
      ∃ c' a, Effects 0x0902 n m p c (c', a) ∧ a.status = .ok ∧ c'.ord = (c.modRadio r (fun y => { y.settle c.tick with nextPlan := some (inst, x) })).ord) ∧
    (∀ x inst, x = ({ f0 := fld b 0 4, spacing := fld b 4 2, phases := (List.range 4).map (fun i => fld b (8 + i) 1), limit := fld b 12 4, window := fld b 16 2, channels := (List.range (fld b 6 1)).map (fun i => fld b (20 + i) 1) } : HopPlan) →
      100 ≤ x.spacing → x.spacing ≤ 2000 → 2 ≤ fld b 6 1 → fld b 6 1 ≤ 64 → 1 ≤ x.window → x.window ≤ 3600 → 1 ≤ x.limit → x.limit ≤ (if Config.isN1 then x.window * 1000 else 100000) → (∀ f ∈ x.phases, f < fld b 6 1) →
      distinct x.phases = true → distinct x.channels = true → inst = changeInstant c.tick (pendingAt c.ord c.tick [0, 1, 2, 3] [0, 1, 2, 3] false) → airConfigOk x (cfgsAt c.ord inst) (plansAt c.ord inst) = true →
      ∃ c' a, Effects 0x0903 n m p c (c', a) ∧ a.status = .ok ∧ c'.ord = { c.ord with air := { c.ord.air.settle c.tick with nextHop := some (inst, x) } }) ∧
    (∀ r, fld b 0 1 = r → r ≤ 3 → -20 ≤ fldS b 2 1 → fldS b 2 1 ≤ 40 → -20 ≤ fldS b 3 1 → fldS b 3 1 ≤ 40 → ∃ c', Effects 0x0906 n m p c (c', {}) ∧
      c'.ord = (c.modRadio r (fun z => { z with bcast := fldS b 2 1, ucast := fldS b 3 1 })).ord ∧ c'.res.powers = c.res.powers ++ [(r, fldS b 2 1, fldS b 3 1)]) ∧
    (∀ k, fld b 0 2 = k → k ≤ 10239 → (placementOf c.ord k).isSome = true →
      (fld b 2 1 = 2 → ∃ c' a, Effects 0x0A02 n m p c (c', a) ∧ a.status = .ok ∧ (partnerAt c'.ord k).assigns = [] ∧ a.payload = le 1 0 ++ zeros 7) ∧
      (∀ a : Assign, fld b 2 1 = 1 → a = { index := fld b 8 1, role := fld b 9 1, radio := fld b 10 1, slot := fld b 11 1, mini := fld b 12 1, period := fld b 14 2, phase := fld b 16 2, start := c.tick + 8 } → a.index ≤ 3 → a.role = 1 → a.radio ≤ 3 →
        3 ≤ a.slot → a.slot ≤ 17 → a.mini = 0xFF → a.phase < a.period → (partnerAt c.ord k).assigns = [] → kindThroughout c.ord a.radio (c.tick + 8) a.slot a.period a.phase 1 = true →
        freeOccurrence (occupied_ c.ord a.radio k (fun y => y.index != a.index)) a.slot a.mini a.period a.phase = true →
        ∃ c' r ref, Effects 0x0A02 n m p c (c', r) ∧ r.status = .ok ∧ (partnerAt c'.ord k).assigns = [{ a with ref := ref }] ∧ r.payload = le 1 1 ++ zeros 7 ++ a.bytes)) ∧
    (∀ nums hit, 1 ≤ fld b 0 1 → nums = (List.range (fld b 0 1)).map (fun i => fld b (4 + 4 * i) 4) → hit = (fun f : FaultRec => !f.acked && (nums.contains f.num || nums.contains 0xFFFFFFFF)) →
      Effects 0x0A04 n m p c ((c.modFaults (fun l => l.map (fun f => if hit f then { f with acked := true } else f))).derive 0x0E04 m (le 2 (c.ord.air.faults.filter hit).length ++ le 1 m),
        { payload := le 2 (c.ord.air.faults.filter hit).length ++ zeros 6 })) ∧
    (∀ ch x img t k all ts, chanOf c.ord h = some ch → sessionOf c.ord h = some x → x.image = some img → ch.judged ≠ .running → ch.judged ≠ .held → 1 ≤ fld b 2 1 → fld b 2 1 ≤ 15 → fld b 3 1 = 0 → fld b 8 2 ≤ 10000 → 60 ≤ fld b 10 4 → fld b 10 4 ≤ 604800 →
      fld b 4 4 % 65536 ≤ fld b 4 4 / 65536 → fld b 4 4 / 65536 ≤ 10239 → t = symbolSize c.ord c.tick (fld b 2 1) → (∀ r ∈ maskRadios (fld b 2 1), (planAt c.ord r c.tick).kinds.contains 3 = true) → (manifestTypes img.manifest).contains (fld b 0 2) = true →
      t ≠ 0 → k = (img.length + t - 1) / t → k ≤ 56403 → all = (placedIn c.ord (fld b 4 4 % 65536) (fld b 4 4 / 65536)).map Prod.fst → ts = all.filter (fun n => plHw (placed c.ord n) == fld b 0 2) →
      Effects 0x0A10 n m p c (((c.modSession h (fun x => { x with hw := fld b 0 2, mask := fld b 2 1, byGroup := false, target := fld b 4 4, overhead := fld b 8 2, duration := fld b 10 4, k, t, targets := ts, excluded := all.length - ts.length, phase := 0, cause := 0, toJoin := [], joined := [], reports := [], sent := 0 })).complete h).derive 0x0E05 m (le 4 h.toNat ++ le 1 0),
        { payload := le 2 ts.length ++ le 2 (all.length - ts.length) ++ le 2 k ++ le 2 t })) ∧
    (∀ ch x, chanOf c.ord h = some ch → sessionOf c.ord h = some x → (ch.state = .running → (x.phase = 1 ∨ x.phase = 2) → Effects 0x0A13 n m p c (c.endSession h 4 4, {})) ∧
      (ch.state ≠ .running → Effects 0x0A13 n m p c (c, { status := .wrongState })))

/-! ### The host window -/

/-- A host-window offset that no chapter assigns (R10; Safety.lean's `assignedOffset` lists those that are) reads as 0, a write to it changes nothing, and
neither raises an alert. -/
def Obligations.UnassignedOffsets : Prop :=
  ∀ (off v : Nat) (s : State), s.boot.stage ≠ 0 → off < 0x10000 → off % 4 = 0 → assignedOffset off = false →
    exec (.registerShadowRead off 4) s = .next (signal { s with host := { s.host with readValue := 0 } }) ∧
    exec (.registerWrite off v 4) s = .next (signal (signal s)) ∧
    alertStatus (signal { s with host := { s.host with readValue := 0 } }) = alertStatus s ∧ alertStatus (signal (signal s)) = alertStatus s

/-- Shadowed reads (R39): the first read loads the shadow; a held shadow is what the later registers read, whatever the live values have become; the last
read or 1 ms releases it, and a read of another register does not. -/
def Obligations.ShadowedReads : Prop :=
  ∀ (s : State), s.boot.stage ≠ 0 →
    (∃ t, exec (.registerShadowRead 0x2800 4) s = .next t ∧ t.host.readValue = tickNow s % 2 ^ 32 ∧ t.clerk.tickShadow = some (tickNow s / 2 ^ 32 % 2 ^ 32)) ∧
    (∀ h, s.clerk.tickShadow = some h → ∃ t, exec (.registerShadowRead 0x2804 4) s = .next t ∧ t.host.readValue = h ∧ t.clerk.tickShadow = none) ∧
    (s.clerk.tickShadow = none → ∃ t, exec (.registerShadowRead 0x2804 4) s = .next t ∧ t.host.readValue = tickNow s / 2 ^ 32 % 2 ^ 32) ∧
    (∃ t, exec (.registerShadowRead 0x2820 4) s = .next t ∧ t.host.readValue = s.clerk.lastD.toNat % 2 ^ 32 ∧ t.clerk.digestShadow = some (s.clerk.lastD, s.clerk.lastTick)) ∧
    (∀ d n, s.clerk.digestShadow = some (d, n) →
      (∀ k, 1 ≤ k → k ≤ 7 → ∃ t, exec (.registerShadowRead (0x2820 + 4 * k) 4) s = .next t ∧ t.host.readValue = d.toNat / 2 ^ (32 * k) % 2 ^ 32 ∧ t.clerk.digestShadow = some (d, n)) ∧
      (∃ t, exec (.registerShadowRead 0x2840 4) s = .next t ∧ t.host.readValue = n % 2 ^ 32 ∧ t.clerk.digestShadow = none)) ∧
    (∀ off, off ≠ 0x2800 → off ≠ 0x2804 → off ≠ 0x2820 → off ≠ 0x2840 → ∃ t, exec (.registerShadowRead off 4) s = .next t ∧ t.clerk.tickShadow = s.clerk.tickShadow ∧ t.clerk.digestShadow = s.clerk.digestShadow) ∧
    (∃ t, exec (.shadowTimeout 0x2800) s = .next t ∧ t.clerk.tickShadow = none) ∧ (∃ t, exec (.shadowTimeout 0x2820) s = .next t ∧ t.clerk.digestShadow = none)

/-- Setting a ring up and stopping it (R82): bases and moderation can be written only while the ring is not active; clearing ENABLE stops fetching, and
ACTIVE stands until the last completion is written; setting ENABLE while it is not active starts the ring afresh. -/
def Obligations.RingSetupAndStop : Prop :=
  ∀ (r v : Nat) (s : State) (x : Ring), s.boot.stage ≠ 0 → pcie s = true → r < 4 → ringOf s r = x → s.host.rings.length = 4 →
    (ringActive s r = true → ∀ reg, reg = 0x04 ∨ reg = 0x08 ∨ reg = 0x0C ∨ reg = 0x10 → exec (.registerWrite (0x400 + 0x100 * r + reg) v 4) s = .next (signal (signal s))) ∧
    (ringActive s r = true → ∃ t, exec (.registerWrite (0x400 + 0x100 * r) v 4) s = .next t ∧ (ringOf t r).modCount = x.modCount ∧ (ringOf t r).modUs = x.modUs) ∧
    (ringActive s r = false → exec (.registerWrite (0x404 + 0x100 * r) v 4) s = .next (signal (modRing r (fun x => { x with cmdLo := v % 2 ^ 32 / 2048 * 2048 }) (signal s))) ∧
      exec (.registerWrite (0x408 + 0x100 * r) v 4) s = .next (signal (modRing r (fun x => { x with cmdHi := v % 2 ^ 32 }) (signal s))) ∧
      exec (.registerWrite (0x40C + 0x100 * r) v 4) s = .next (signal (modRing r (fun x => { x with cmpLo := v % 2 ^ 32 / 2048 * 2048 }) (signal s))) ∧
      exec (.registerWrite (0x410 + 0x100 * r) v 4) s = .next (signal (modRing r (fun x => { x with cmpHi := v % 2 ^ 32 }) (signal s))) ∧
      (bit v 0 = false → exec (.registerWrite (0x400 + 0x100 * r) v 4) s =
        .next (signal (modRing r (fun x => { x with modCount := bits v 8 8, modUs := bits v 16 16, irqEn := bit v 1, enable := false }) (signal s))))) ∧
    (x.enable = false → ∀ d b, exec (.descriptorFetch r d b) s = .next s) ∧
    (∃ t, exec (.ringCtlDisable r v) s = .next t ∧ (ringOf t r).enable = false ∧ t.paths = s.paths ∧
      (ringActive t r = true ↔ ringTags s r ≠ 0 ∨ ∃ y ∈ s.paths.outgoing, onRing r y.path = true)) ∧
    (ringActive s r = false → ∃ t y, exec (.ringCtlEnable r v) s = .next t ∧ ringOf t r = y ∧ y.enable = true ∧ y.cmdHead = 0 ∧ y.cmdTail = 0 ∧ y.cmpHead = 0 ∧ y.cmpTail = 0 ∧ y.phase = true)

/-! ### Rules of the chapters -/

/-- LX-2 compensation (R191): the factor is VREF × 16,384 ÷ Vbus, rounded toward minus infinity, limited to 1 … 65,535; 65,535 for a Vbus at or below
VREF ÷ 4; and a sample at which it is limited counts event source 0xCD. -/
def Obligations.LxCompensation : Prop :=
  ∀ (env : LoopEnv) (ms : List LoopSlot) (sets : List LoopSet) (x y : LoopSlot) (vref vbus : Int), x.comp = 2 → x.queue = [] → vref = x.k 0x0A → 0 ≤ vref → vbus = env.vbus (x.bus - 0x28) → y = x.compute env ms sets →
    (4 * vbus ≤ vref → y.c = 65535 ∧ y.limited = true) ∧
    (vref < 4 * vbus → 1 ≤ y.c ∧ y.c ≤ 65535 ∧
      (y.limited = false → (y.c : Int) * vbus ≤ vref * 16384 ∧ vref * 16384 < ((y.c : Int) + 1) * vbus) ∧
      (y.limited = true → y.c = 1 ∧ vref * 16384 < vbus ∨ y.c = 65535 ∧ 65536 * vbus ≤ vref * 16384)) ∧
    (∀ before after : List LoopSlot, (0x0CD, (after.filter (·.limited)).length) ∈ sampleCounts before after)

/-- The derate curve (R211): 65,536 up to the knee, 0 from the maximum on, and in between the line of the rule, rounded down. -/
def Obligations.DerateCurve : Prop :=
  ∀ (l : Lum) (t : Int), l.knee < l.max →
    (t ≤ (l.knee : Int) * 65536 → derateCurve l t = 65536) ∧ ((l.max : Int) * 65536 ≤ t → derateCurve l t = 0) ∧
    ((l.knee : Int) * 65536 < t → t < (l.max : Int) * 65536 → ((derateCurve l t : Nat) : Int) * ((l.max - l.knee : Nat) : Int) ≤ (l.max : Int) * 65536 - t ∧
      (l.max : Int) * 65536 - t < (((derateCurve l t : Nat) : Int) + 1) * ((l.max - l.knee : Nat) : Int)) ∧
    (∀ u, t ≤ u → derateCurve l u ≤ derateCurve l t)

/-- Leap years and the end of the range (R337). -/
def Obligations.LeapYearsAndTheRangeEnd : Prop :=
  (∀ y, isLeap y = true ↔ y % 4 = 0 ∧ (y % 100 ≠ 0 ∨ y % 400 = 0)) ∧ isLeap 2000 = true ∧ isLeap 2100 = false ∧
  (∀ s : State, ∀ w, s.rtc.now = { year := 2100, month := 2, day := 28, hour := 23, min := 59, sec := 59, sub := 32767 } → s.rtc.weekday = w →
    (rtcCount s).rtc.now = { year := 2100, month := 3, day := 1, hour := 0, min := 0, sec := 0, sub := 0 } ∧ (rtcCount s).rtc.weekday = (w + 1) % 7) ∧
  (∀ s : State, s.rtc.now = { year := 2199, month := 12, day := 31, hour := 23, min := 59, sec := 59, sub := 32767 } →
    (rtcCount s).rtc.now = { year := 2000, month := 1, day := 1, hour := 0, min := 0, sec := 0, sub := 0 } ∧ (rtcCount s).rtc.weekday = 6 ∧ (rtcCount s).rtc.oscStop = true ∧ (rtcCount s).rtc.cause = 3)

/-- The allotments of ESCORT channels (R163): a configuration that would take their sum above 1,024 is refused with NO_RESOURCE and changes nothing; one
that lowers an allotment ends every traveller at or above it. -/
def Obligations.EscortAllotments : Prop :=
  ∀ (n m : Nat) (p : Packet) (c : Calc) (b : List Byte) (h : Handle) (e : Escort) (links : List Nat), p.payload = b → p.handle = h → escortOf c.ord h = some e → links = (List.range (fld b 12 2)).map (fun i => fld b (16 + 2 * i) 2) →
    3000 ≤ fld b 0 2 → fld b 0 2 ≤ 12000 → 250 ≤ fld b 2 2 → fld b 2 2 ≤ 4000 → fld b 2 2 + 1000 ≤ fld b 0 2 → 1 ≤ fld b 4 2 → fld b 4 2 ≤ 1024 → 100 ≤ fld b 6 2 → fld b 6 2 ≤ 5000 → 32 ≤ fld b 8 2 → fld b 8 2 ≤ 32768 → fld b 10 1 ≤ 3 →
    1 ≤ fld b 12 2 → fld b 12 2 ≤ 1024 → (∀ l ∈ links, l ≤ 4095) → links.eraseDups = links →
    (1024 < otherAllotments c.ord h + fld b 4 2 → Effects 0x0501 n m p c (c, { status := .noResource })) ∧
    (otherAllotments c.ord h + fld b 4 2 ≤ 1024 → ∃ c' e', Effects 0x0501 n m p c (c', {}) ∧ escortOf c'.ord h = some e' ∧ e'.allot = fld b 4 2 ∧ (∀ t ∈ e'.travellers, t.num < fld b 4 2) ∧
      (∀ t ∈ e.travellers, fld b 4 2 ≤ t.num → ∃ x ∈ e'.ended, x.1.num = t.num ∧ x.2 = 5) ∧ (∀ t ∈ e.travellers, t.num < fld b 4 2 → ∃ x ∈ e'.travellers, x.num = t.num))

/-- The Pruner is overdue (R363) when its lap has lasted longer than the limit: the flag is set, with it the STORE alert, and kind 0x1105 is written once
in the lap; the limit is 7,200 s by default, and PRUNER_CONFIG accepts 600 to 86,400 s; the next lap ends it. -/
def Obligations.PrunerOverdue : Prop :=
  (∀ s : State, s.store.limit < (s.uptime - s.store.lapStart) / 1000 → s.store.overdue = false → ∃ t, exec .prunerOverdue s = .next t ∧ t.store = { s.store with overdue := true } ∧
    t.gbk = (gbk 0x1105 0xFF (le 4 ((s.uptime - s.store.lapStart) / 1000)) s).gbk ∧ exec .prunerOverdue t = .next t ∧ bit (storeFlags t) 3 = true ∧ bit (alertStatus t) 5 = true) ∧
  (∀ s : State, (s.uptime - s.store.lapStart) / 1000 ≤ s.store.limit → exec .prunerOverdue s = .next s) ∧
  (∀ s : State, s.store.offset + 8 = 262144 → nextRegion s s.store.region = none → (prunerAdvance s).store.overdue = false ∧ (prunerAdvance s).store.lapStart = s.uptime) ∧
  State.reset.store.limit = 7200 ∧
  (∀ (p : Packet) (s : State), Executes 0x0D03 p s → (fld p.payload 0 4 < 600 ∨ 86400 < fld p.payload 0 4) → Answered (.prunerConfig p) p s { status := .badParam } (takeTag p s))

/-- The target of staging (R424): the slot that holds neither the TRIAL nor the ACTIVE set, else the slot that is not PREVIOUS, else slot 0; a TRIAL slot refuses
IMAGE_BEGIN; and neither IMAGE_BEGIN nor IMAGE_DATA writes the slot of the set in use. -/
def Obligations.StagingTarget : Prop :=
  (∀ (s : State) (busy : Nat → Prop), (∀ k, busy k ↔ (fwSlot s k).state = 3 ∨ (fwSlot s k).state = 4) →
    (∀ k, k < 2 → busy k → ¬ busy (1 - k) → stageTarget s = 1 - k) ∧
    (¬ busy 0 → ¬ busy 1 → (∀ k, k < 2 → (fwSlot s k).state = 5 → (fwSlot s (1 - k)).state ≠ 5 → stageTarget s = 1 - k) ∧ ((fwSlot s 0).state = 5 → (fwSlot s 1).state = 5 → stageTarget s = 0))) ∧
  (∀ (p : Packet) (s : State) (k : Nat), Executes 0x1101 p s → slotIn s 3 = some k → (fld p.payload 0 1 = 0 ∧ 512 ≤ fld p.payload 4 4 ∧ fld p.payload 4 4 ≤ 29360128 ∨ fld p.payload 0 1 = 1 ∨ fld p.payload 0 1 = 2 ∧ fld p.payload 8 1 = 0) →
    Answered (.imageBegin p) p s { status := .wrongState } (takeTag p s)) ∧
  (∀ (p : Packet) (s t : State) (k : Nat), exec (.imageBegin p) s = .next t → fld p.payload 0 1 = 0 → k ≠ stageTarget s → fwSlot t k = fwSlot s k) ∧
  (∀ (p : Packet) (s t : State) (k : Nat), exec (.imageData p) s = .next t → k ≠ s.firmware.slot → fwSlot t k = fwSlot s k)

/-- The chunks of IMAGE_DATA (R426): one at the bytes held is appended; one wholly within them is compared, and answers OK with nothing written, or
BAD_PARAM; any other is refused with BAD_PARAM. -/
def Obligations.ImageChunks : Prop :=
  ∀ (p : Packet) (s : State) (held data : List Byte) (off : Nat), Executes 0x1102 p s → s.firmware.session = 2 → held = (fwSlot s s.firmware.slot).bytes → data = p.payload.drop 8 → off = fld p.payload 0 4 →
    fld p.payload 4 4 = (Config.crc32c data).toNat → off + data.length ≤ s.firmware.total →
    (off = held.length → 0 < data.length → ∃ t, Answered (.imageData p) p s { payload := le 4 (held.length + data.length) ++ zeros 4 } t ∧
      t.firmware.slots = modAt s.firmware.slots s.firmware.slot (fun y => { y with bytes := y.bytes ++ data })) ∧
    (off + data.length ≤ held.length → (held.drop off).take data.length = data → ∃ t, Answered (.imageData p) p s { payload := le 4 held.length ++ zeros 4 } t ∧ t.firmware = { s.firmware with last := s.uptime }) ∧
    (off + data.length ≤ held.length → (held.drop off).take data.length ≠ data → Answered (.imageData p) p s { status := .badParam } (takeTag p s)) ∧
    (held.length < off + data.length → off ≠ held.length → Answered (.imageData p) p s { status := .badParam } (takeTag p s))

/-- A reply on the remote path whose port has no link (R391) is dropped and counted by event source 0x1EE; every change of a link's state writes kind 0x1407. -/
def Obligations.RepliesWithoutALink : Prop :=
  (∀ (r : Reply) (s : State) (port slot addr udp : Nat), r.path = .remote port slot addr udp → r.silent = false → linkUp s port = false →
    (sendReply r s).paths.sent = s.paths.sent ∧ (sendReply r s).cnt = (count 0x1EE s).cnt) ∧
  (∀ (p : Packet) (s : State) (port slot addr udp : Nat), Executes 0x0002 p s → p.path = .remote port slot addr udp → p.noReply = false → linkUp s port = false →
    ∃ t, exec (.echo p) s = .next t ∧ t.paths.sent = s.paths.sent ∧ t.cnt = (count 0x1EE s).cnt) ∧
  (∀ (s : State) (port speed : Nat), port < 2 → speed < 3 → s.bhLink.getD port 0 ≠ speed → 2 ≤ s.boot.stage → ∃ t, exec (.linkStateChange port speed) s = .next t ∧ t.bhLink = setAt s.bhLink port speed ∧
    t.gbk = (gbk 0x1407 0xFF (le 1 port ++ le 1 speed) s).gbk)

/-- The permanent area of the Guestbook (R384): the records of sequence 1 to 4,096 stay, whatever drains, is erased, is cleared or is recorded; only
repeats may be added to one (R385). -/
def Obligations.GuestbookKeepsThePermanentArea : Prop :=
  ∀ (c : Instr) (s t : State), (c = .guestbookDrain ∨ c = .gbkEraseComplete ∨ (∃ kind m d, c = .guestbookRecordEntry kind m d) ∨ ∃ p, c = .gbkClear p) → exec c s = .next t →
    ∀ r ∈ s.gbk.stored, r.seq ≤ 4096 → ∃ x ∈ t.gbk.stored, x.seq = r.seq ∧ x.kind = r.kind ∧ x.derived = r.derived ∧ x.master = r.master ∧ x.tick = r.tick ∧ x.detail = r.detail

/-- The boundaries of a circuit's intervals (R246): the start of a tick n with n mod 4 = 0 whose UTC label has seconds of day s with (s + 60 × A) mod (60 × L) = 0,
outside a leap second. -/
def Obligations.IntervalBoundaries : Prop :=
  ∀ (o : Ordered) (m : Meter) (n : Nat), (m.length = 1 ∨ m.length = 5 ∨ m.length = 15 ∨ m.length = 30 ∨ m.length = 60) →
    (∀ label, o.leap61 = false → o.leap59 = false → label = unixOfTick n o.utc → (intervalBoundary o m n = true ↔ n % 4 = 0 ∧ (label % 86400 + 60 * m.align) % (60 * (m.length : Int)) = 0)) ∧
    (intervalBoundary o m n = true → n % 4 = 0 ∧ (utcLabel o n % 86400 + 60 * m.align) % (60 * (m.length : Int)) = 0) ∧
    (o.leap61 = true → unixOfTick n o.utc - 946684800 = o.leapEnd → intervalBoundary o m n = false) ∧
    (({} : Meter).length = 15 ∧ ({} : Meter).align = 0)

/-! ### The queue, reset, and what every step keeps -/

/-- A step takes the command at the front of the queue and runs it on the state with the rest of the queue. -/
def Obligations.StepRunsFront : Prop :=
  ∀ (c : Instr) (rest : List Instr) (s : State), s.pending = c :: rest → step s = exec c { s with pending := rest }

/-- A command changes nothing of the queue; a step consumes its front and nothing else. With an empty queue the step answers a next state whose queue is
empty (the model's choice, log entry 4: one cycle of the calendar crystal). -/
def Obligations.QueueOnlyConsumed : Prop :=
  (∀ (c : Instr) (s t : State), exec c s = .next t → t.pending = s.pending) ∧
  (∀ (c : Instr) (rest : List Instr) (s t : State), s.pending = c :: rest → step s = .next t → t.pending = rest) ∧
  (∀ s : State, s.pending = [] → ∃ t, step s = .next t ∧ t.pending = [])

/-- What reset leaves: registers at the values their tables give, an empty queue, no channel, the calendar at 2000-01-01T00:00:00 with OSC_STOP set, the lifecycle MANUFACTURE,
and every slot's generation counter at 1 (R43, R343, R378). -/
def Obligations.ResetState : Prop :=
  (∀ x ∈ [(0x14, 0), (0x18, 4), (0x1C, 0), (0x20, 0), (0x104, 0), (0x10C, 0x3FFFF), (0x204, 0), (0x220, 0), (0x400, 0), (0x414, 0), (0x418, 0), (0x41C, 0), (0x420, 0x80), (0x424, 0), (0x428, 0),
      (0x1004, 0), (0x100C, 0), (0x1010, 0), (0x1014, 0), (0x1018, 0xFFFFFFFF), (0x1020, 0), (0x1600, 0), (0x1604, 0), (0x1608, 0), (0x2000, 1), (0x2024, 0), (0x2028, 0x07D00101), (0x2030, 0), (0x2034, 0)] ++
    [(0x2100, 0), (0x2104, 0), (0x2108, 0), (0x210C, 0), (0x2110, 0), (0x2114, 0), (0x2118, 0), (0x2200, 0), (0x2204, 0), (0x2210, 0), (0x2214, 0), (0x2280, 0), (0x2404, 0), (0x2414, 8), (0x2418, 0),
      (0x2800, 0), (0x2804, 0), (0x2808, 0), (0x280C, 0), (0x2814, 0), (0x2818, 0), (0x2840, 0), (0x2844, 0), (0x2848, 0), (0x3004, 0x100000), (0x3008, 0), (0x300C, 0), (0x3010, 0), (0x3C00, 0), (0x3C10, 16), (0x3C14, 0)],
    (readReg x.1 State.reset).1 = x.2) ∧
  State.reset.pending = [] ∧ State.reset.ord.channels = [] ∧ State.reset.rtc.now = { year := 2000, month := 1, day := 1, hour := 0, min := 0, sec := 0, sub := 0 } ∧ State.reset.rtc.oscStop = true ∧
  State.reset.mode.lifecycle = 1 ∧ (∀ k, k < 4096 → lookD k 1 State.reset.ord.gens = 1)

/-- The invariant holds at reset. -/
def Obligations.InvAtReset : Prop := Inv State.reset

/-- Every step keeps the invariant, whatever command stands at the front of the queue and on an empty queue. -/
def Obligations.InvKept : Prop := ∀ s t : State, Inv s → step s = .next t → Inv t
end

