-- ==== Sys2Proof/Laws/Keeps.lean ====
section
/-!
SUPPORT. Laws/Keeps.lean: the relation `Keeps` of Safety.lean, and its parts: the Guestbook and the calendar.
-/
namespace Sys2Proof.Machine

theorem Keeps.refl (s : State) : Keeps s s := ⟨rfl, id⟩
@[simp] theorem keeps_self (s : State) : Keeps s s := .refl s
theorem Keeps.trans {a b c : State} (h : Keeps a b) (k : Keeps b c) : Keeps a c := ⟨k.1.trans h.1, fun i => k.2 (h.2 i)⟩

/-- An update that leaves the parts which `Keeps` looks at. -/
@[simp] theorem Keeps.upd {a X : State} (h : Keeps a X) {f u : Nat} {md : Mode} {cl : Clerk} {o r : Ordered} {rt : Nat} {cm : List (TickResult × Ordered)} {ea : TickResult}
    {cx : List (Nat × Context)} {ro : Ordered} {pl : PlanStore} {ho : HostLink} {pa : Paths} {st : List StreamRun} {g : Guestbook} {cn : CountersTest} {rc : Rtc} {ti : TimeBases}
    {dr : Drive} {me : Metro} {ai : Air} {sr : Store} {inn : Inn} {ck sv : List Checkpoint} {va : Vault} {bh : List Nat} {tw : Twin} {bo : Boot} {fw : Firmware} {su : Supplies}
    (hm : md.role = X.mode.role) (hl : md.lifecycle = X.mode.lifecycle) (ht : tw.role = X.twin.role) (hc : cn.counters = X.cnt.counters)
    (hf : g.front = X.gbk.front) (hs : g.stored = X.gbk.stored) (hn : g.next = X.gbk.next) (hr : rc.now = X.rtc.now) :
    Keeps a ⟨X.pending, f, u, md, cl, o, r, rt, cm, ea, cx, ro, pl, ho, pa, st, g, cn, rc, ti, dr, me, ai, sr, inn, ck, sv, va, bh, tw, bo, fw, su⟩ := by
  refine h.trans ⟨rfl, fun i => ?_⟩
  unfold Inv at *
  simp only [hm, hl, ht, hc, hf, hs, hn, hr]; exact i

@[simp] theorem Keeps.ite {a x y : State} {c : Prop} [Decidable c] (h : Keeps a x) (k : Keeps a y) : Keeps a (if c then x else y) := by split <;> assumption

theorem Keeps.foldl {α : Type} {g : State → α → State} (hg : ∀ s x, Keeps s (g s x)) (l : List α) {a s : State} (h : Keeps a s) : Keeps a (l.foldl g s) := by
  induction l generalizing s with
  | nil => exact h
  | cons x l ih => exact ih (h.trans (hg s x))

@[simp] theorem keepsAll_next {a t : State} (h : Keeps a t) : KeepsAll a (.next t) := by intro t' e; cases e; exact h
@[simp] theorem keepsAll_fault {a : State} (f : Fault) : KeepsAll a (.fault f) := by intro t' e; cases e
@[simp] theorem KeepsAll.ite {a : State} {c : Prop} [Decidable c] {x y : Host.Outcome State Fault Refusal} (h : KeepsAll a x) (k : KeepsAll a y) : KeepsAll a (if c then x else y) := by split <;> assumption
@[simp] theorem Keeps.fstIte {α : Type} {a : State} {x y : State × α} {c : Prop} [Decidable c] (h : Keeps a x.1) (k : Keeps a y.1) : Keeps a (if c then x else y).1 := by split <;> assumption
@[simp] theorem Keeps.sndIte {α : Type} {a : State} {x y : α × State} {c : Prop} [Decidable c] (h : Keeps a x.2) (k : Keeps a y.2) : Keeps a (if c then x else y).2 := by split <;> assumption
theorem Keeps.foldlFst {α β : Type} {g : State × β → α → State × β} (hg : ∀ s x, Keeps s.1 (g s x).1) (l : List α) {a : State} {s : State × β} (h : Keeps a s.1) : Keeps a (l.foldl g s).1 := by
  induction l generalizing s with
  | nil => exact h
  | cons x l ih => exact ih (h.trans (hg s x))

theorem repeatStored_seq (n last : Nat) (rs : List GbkRec) : (repeatStored n last rs).map (·.seq) = rs.map (·.seq) := by
  unfold repeatStored modAt
  apply List.ext_getElem?; intro i
  simp only [List.getElem?_map, List.getElem?_modify]
  cases rs[i]? <;> simp; split <;> rfl

theorem GuestbookOk.lose {kind tick : Nat} {g : Guestbook} (h : GuestbookOk g.front g.stored g.next) : 
  GuestbookOk (g.lose kind tick).front (g.lose kind tick).stored (g.lose kind tick).next := h

theorem GuestbookOk.enter {r : GbkRec} {g : Guestbook} (h : GuestbookOk g.front g.stored g.next) : 
    GuestbookOk (g.enter r).front (g.enter r).stored (g.enter r).next := by
  have ⟨hf, hs, hn⟩ := h
  have grow : ∀ p, g.front.length < 256 → (g.front ++ [p]).length ≤ 256 := fun p hp => by simp; omega
  have stay : (g.front.dropLast).length + 1 ≤ 256 ∨ g.front = [] := by
    cases hg : g.front with
    | nil => exact .inr rfl
    | cons x l => left; rw [hg] at hf; simpa using hf
  unfold Guestbook.enter
  repeat' split
  all_goals first
    | exact h
    | exact ⟨hf, by simpa [repeatStored_seq] using hs, by simpa [repeatStored_seq] using hn⟩
    | exact ⟨grow _ ‹_›, hs, hn⟩
    | skip
  · rename_i hl
    refine ⟨?_, hs, hn⟩
    rcases stay with h | h
    · simpa using h
    · simp [h] at hl

@[simp] theorem gbk_keeps {a s : State} (h : Keeps a s) (kind : Nat) (master : Nat) (detail : List Byte) : Keeps a (gbk kind master detail s) :=
  h.trans ⟨rfl, fun ⟨hc, hg, r⟩ => ⟨hc, hg.enter, r⟩⟩

/-- Append -/
theorem GuestbookOk.append {r : GbkRec} {g : Guestbook} (h : GuestbookOk g.front g.stored g.next) :
    GuestbookOk (g.append r).front (g.append r).stored (g.append r).next := by
  have ⟨hf, hs, hn⟩ := h
  let x : GbkRec := { r with seq := g.next, damage := 0, found := false }
  have key : ∀ l : List GbkRec, (l.map (·.seq)).Sublist (g.stored.map (·.seq)) →
      ((l ++ [x]).map (·.seq)).Pairwise (· < ·) ∧ ∀ q ∈ (l ++ [x]).map (·.seq), q < g.next + 1 := by
    intro l hl
    have hb : ∀ q ∈ l.map (·.seq), q < g.next := fun q hq => hn q (hl.subset hq)
    rw [List.map_append]
    refine ⟨List.pairwise_append.mpr ⟨hs.sublist hl, by simp, fun x hx y hy => ?_⟩, fun q hq => ?_⟩
    · rw [List.map_singleton, List.mem_singleton] at hy; subst hy; exact hb x hx
    · rcases List.mem_append.mp hq with hq | hq
      · exact Nat.lt_succ_of_lt (hb q hq)
      · rw [List.map_singleton, List.mem_singleton] at hq; subst hq; exact Nat.lt_succ_self _
  unfold Guestbook.append
  refine ⟨hf, key _ ?_⟩
  split
  · exact List.filter_sublist.map _
  · exact List.Sublist.refl _

theorem DateTime.valid_iff (t : DateTime) : t.valid = true ↔ (2000 ≤ t.year ∧ t.year ≤ 2199 ∧ 1 ≤ t.month ∧ t.month ≤ 12 ∧ 1 ≤ t.day ∧ t.day ≤ monthDays t.year t.month ∧
    t.hour ≤ 23 ∧ t.min ≤ 59 ∧ t.sec ≤ 59 ∧ t.sub ≤ 32767) := by
  simp [DateTime.valid, and_assoc]

theorem monthDays_pos (y m : Nat) : 1 ≤ monthDays y m := by
  unfold monthDays; (repeat' split) <;> decide

theorem DateTime.nextDay_valid {t : DateTime} (h : t.valid = true) (e : ¬ (t.year = 2199 ∧ t.month = 12 ∧ t.day = 31)) : t.nextDay.valid = true := by
  rw [valid_iff] at h ⊢
  obtain ⟨h1, h2, h3, h4, h5, h6, h7⟩ := h
  unfold nextDay
  split
  · exact ⟨h1, h2, h3, h4, Nat.le_add_left _ _, ‹_›, h7⟩
  · split
    · exact ⟨h1, h2, Nat.le_add_left _ _, ‹_›, Nat.le_refl _, monthDays_pos _ _, h7⟩
    · rename_i hd hm
      have h12 : t.month = 12 := by omega
      have h31 : monthDays t.year t.month = 31 := by rw [h12]; rfl
      refine ⟨by simp only; omega, by simp only; omega, Nat.le_refl _, by simp only; decide, Nat.le_refl _, monthDays_pos _ _, h7⟩

theorem DateTime.tick_valid {t : DateTime} (h : t.valid = true) (e : t.atEnd = false) : t.tick.valid = true := by
  have hv := (valid_iff t).mp h
  obtain ⟨h1, h2, h3, h4, h5, h6, h7, h8, h9, h10⟩ := hv
  unfold tick
  split
  · rw [valid_iff]; exact ⟨h1, h2, h3, h4, h5, h6, h7, h8, h9, ‹_›⟩
  split
  · rw [valid_iff]; exact ⟨h1, h2, h3, h4, h5, h6, h7, h8, ‹_›, Nat.zero_le _⟩
  split
  · rw [valid_iff]; exact ⟨h1, h2, h3, h4, h5, h6, h7, ‹_›, Nat.zero_le _, Nat.zero_le _⟩
  split
  · rw [valid_iff]; exact ⟨h1, h2, h3, h4, h5, h6, ‹_›, Nat.zero_le _, Nat.zero_le _, Nat.zero_le _⟩
  · refine nextDay_valid ?_ ?_
    · rw [valid_iff]; exact ⟨h1, h2, h3, h4, h5, h6, Nat.zero_le _, Nat.zero_le _, Nat.zero_le _, Nat.zero_le _⟩
    · rintro ⟨a, b, c⟩
      have : t.atEnd = true := by
        simp only [atEnd, Bool.and_eq_true, beq_iff_eq]
        exact ⟨⟨⟨⟨⟨⟨a, b⟩, c⟩, by omega⟩, by omega⟩, by omega⟩, by omega⟩
      rw [this] at e; cases e

theorem modTwin_pre {a s : State} (h : Keeps a s) (f : Twin → Twin) (hf : (f s.twin).role = s.twin.role) : Keeps a (modTwin f s) :=
  h.trans ⟨rfl, fun ⟨hc, hg, hr, r⟩ => ⟨hc, hg, by simpa [modTwin, hf] using hr, r⟩⟩
@[simp] theorem modTwin_keeps {a s : State} (h : Keeps a s) (f : Twin → Twin) (hf : (f s.twin).role = s.twin.role) : Keeps a (modTwin f s) := modTwin_pre h f hf
@[simp] theorem modCnt_keeps {a s : State} (h : Keeps a s) (f : CountersTest → CountersTest) (hf : (f s.cnt).counters = s.cnt.counters) : Keeps a (modCnt f s) :=
  h.trans ⟨rfl, fun ⟨hc, r⟩ => ⟨by simpa [modCnt, hf] using hc, r⟩⟩
@[simp] theorem modGbk_keeps {a s : State} (h : Keeps a s) (f : Guestbook → Guestbook) (hf : (f s.gbk).front = s.gbk.front) (hs : (f s.gbk).stored = s.gbk.stored) (hn : (f s.gbk).next = s.gbk.next) :
    Keeps a (modGbk f s) :=
  h.trans ⟨rfl, fun ⟨hc, hg, r⟩ => ⟨hc, by simpa [modGbk, hf, hs, hn] using hg, r⟩⟩

theorem List.map_congr_left' {α β : Type} {f g : α → β} {l : List α} (h : ∀ x, f x = g x) : l.map f = l.map g := List.map_congr_left (fun x _ => h x)

/-- The stored records' sequence numbers alone matter. -/
theorem GuestbookOk.sameSeqs {front : List GbkPlace} {rs rs' : List GbkRec} {next : Nat} (h : GuestbookOk front rs next) (e : rs'.map (·.seq) = rs.map (·.seq)) : GuestbookOk front rs' next := by
  unfold GuestbookOk at *; rw [e]; exact h

theorem GuestbookOk.fewer {front : List GbkPlace} {rs rs' : List GbkRec} {next : Nat} (h : GuestbookOk front rs next) (e : rs'.Sublist rs) : GuestbookOk front rs' next :=
  ⟨h.1, h.2.1.sublist (e.map _), fun q hq => h.2.2 q ((e.map _).subset hq)⟩

theorem modGbk_of {a s : State} (h : Keeps a s) (f : Guestbook → Guestbook) (hf : GuestbookOk s.gbk.front s.gbk.stored s.gbk.next → GuestbookOk (f s.gbk).front (f s.gbk).stored (f s.gbk).next) :
    Keeps a (modGbk f s) := h.trans ⟨rfl, fun ⟨hc, hg, r⟩ => ⟨hc, hf hg, r⟩⟩

/-- A change of role shown as it is set (R392). -/
theorem setShown {a s : State} (h : Keeps a s) (f : Twin → Twin) (new : Nat) (hf : (f s.twin).role = new) : Keeps a { modTwin f s with mode := { s.mode with role := roleShown new } } :=
  h.trans ⟨rfl, fun ⟨hc, hg, _, hl, hv⟩ => ⟨hc, hg, by simp [modTwin, hf], hl, hv⟩⟩

theorem setClock {a s : State} (h : Keeps a s) (r : Rtc) (hr : r.now.valid = true) : Keeps a { s with rtc := r } := h.trans ⟨rfl, fun ⟨hc, hg, hk, hl, _⟩ => ⟨hc, hg, hk, hl, hr⟩⟩

end Sys2Proof.Machine
end

