-- ==== Sys2Proof/Laws/Ops.lean ====
section
/-!
SUPPORT. Laws/Ops.lean: what each function of Machine/Ops.lean keeps (Safety.lean).
-/
namespace Sys2Proof.Machine

/-- Counting keeps every counter within its 48 bits (R431). -/
theorem countersOk_map {cs : List Counter} (h : CountersOk cs) {f : Counter → Counter} (hf : ∀ c, c.count < 2 ^ 48 → (f c).count < 2 ^ 48) : CountersOk (cs.map f) := by
  refine ⟨by simpa using h.1, fun c hc => ?_⟩
  obtain ⟨d, hd, rfl⟩ := List.mem_map.mp hc
  exact hf d (h.2 d hd)

theorem counter_take_lt (src n : Nat) (c : Counter) (h : c.count < 2 ^ 48) : (c.take src n).count < 2 ^ 48 := by
  unfold Counter.take; split
  · exact Nat.mod_lt _ (by decide)
  · exact h

@[simp] theorem countN_keeps {a s : State} (h : Keeps a s) (src n : Nat) : Keeps a (countN src n s) :=
  h.trans ⟨rfl, fun ⟨hc, r⟩ => ⟨countersOk_map hc (counter_take_lt src n), r⟩⟩

@[simp] theorem count_keeps {a s : State} (h : Keeps a s) (src : Nat) : Keeps a (count src s) := by
  unfold count; simp (maxDischargeDepth := 60) [h]

@[simp] theorem placeEntry_keeps {a s : State} (h : Keeps a s) (e : Entry) : Keeps a (placeEntry e s) := by
  unfold placeEntry; simp (maxDischargeDepth := 60) [h]

@[simp] theorem freeTag_keeps {a s : State} (h : Keeps a s) (path : Path) (tag : Nat) : Keeps a (freeTag path tag s) := by
  unfold freeTag; simp (maxDischargeDepth := 60) [h]

@[simp] theorem sendRemote_keeps {a s : State} (h : Keeps a s) (port : Nat) (slot : Nat) (addr : Nat) (udp : Nat) (body : List Byte) : Keeps a (sendRemote port slot addr udp body s) := by
  unfold sendRemote; simp (maxDischargeDepth := 60) [h]

@[simp] theorem sendReply_keeps {a s : State} (h : Keeps a s) (r : Reply) : Keeps a (sendReply r s) := by
  unfold sendReply; (repeat' split) <;> simp (maxDischargeDepth := 60) [h]

@[simp] theorem markAnswered_keeps {a s : State} (h : Keeps a s) (path : Path) (tag : Nat) : Keeps a (markAnswered path tag s) := by
  unfold markAnswered; simp (maxDischargeDepth := 60) [h]

@[simp] theorem answer_keeps {a s : State} (h : Keeps a s) (p : Packet) (x2 : Ans) : Keeps a (answer p x2 s) := by
  unfold answer; simp (maxDischargeDepth := 60) [h]

@[simp] theorem sendAccepted_keeps {a s : State} (h : Keeps a s) (p : Packet) (wasHeld : Bool) : Keeps a (sendAccepted p wasHeld s) := by
  unfold sendAccepted; (repeat' split) <;> simp (maxDischargeDepth := 60) [h]

@[simp] theorem repeatReply_keeps {a s : State} (h : Keeps a s) (p : Packet) (d : Dup) : Keeps a (repeatReply p d s) := by
  unfold repeatReply; (repeat' split) <;> simp (maxDischargeDepth := 60) [h]

@[simp] theorem orderCommand_keeps {a s : State} (h : Keeps a s) (w : Waiting) (p : Packet) : Keeps a (orderCommand w p s) := by
  simp only [orderCommand]; (repeat' split) <;> simp (maxDischargeDepth := 60) [h]

@[simp] theorem acceptHead_keeps {a s : State} (h : Keeps a s) {now : Packet → State → State} (hn : ∀ p x, Keeps x (now p x)) (cls index : Nat) : Keeps a (acceptHead now cls index s) := by
  have k : ∀ p x, Keeps a x → Keeps a (now p x) := fun p x hx => hx.trans (hn p x)
  unfold acceptHead
  dsimp only
  (repeat' split) <;> simp (maxDischargeDepth := 60) [h, k]

@[simp] theorem placeClerk_keeps {a s : State} (h : Keeps a s) (kind : Nat) (b : List Byte) : Keeps a (placeClerk kind b s) := by
  unfold placeClerk; simp (maxDischargeDepth := 60) [h]

@[simp] theorem runNow_keeps {a s : State} (h : Keeps a s) {f : Packet → State → State × Ans} (hf : ∀ p x, Keeps x (f p x).1) (p : Packet) : Keeps a (runNow f p s) := by
  have k : ∀ p x, Keeps a x → Keeps a (f p x).1 := fun p x hx => hx.trans (hf p x)
  unfold runNow
  (repeat' split) <;> simp (maxDischargeDepth := 60) [h, k]

@[simp] theorem drawFree_keeps {a s : State} (h : Keeps a s) : Keeps a (drawFree s).2 := by
  unfold drawFree; simp (maxDischargeDepth := 60) [h]

@[simp] theorem replyTo_keeps {a s : State} (h : Keeps a s) (p : Packet) (r : Reply) : Keeps a (replyTo p r s) := by
  unfold replyTo; simp (maxDischargeDepth := 60) [h]

@[simp] theorem releaseReply_keeps {a s : State} (h : Keeps a s) (x1 : CmdResult) : Keeps a (releaseReply x1 s) := by
  simp (maxDischargeDepth := 60) [releaseReply, h, Keeps.foldl]

@[simp] theorem gbkDerived_keeps {a s : State} (h : Keeps a s) (tick : Nat) (d : Derived) : Keeps a (gbkDerived tick d s) :=
  h.trans ⟨rfl, fun ⟨hc, hg, r⟩ => ⟨hc, hg.enter, r⟩⟩

@[simp] theorem takeTag_keeps {a s : State} (h : Keeps a s) (p : Packet) : Keeps a (takeTag p s) := by
  unfold takeTag; simp (maxDischargeDepth := 60) [h]

@[simp] theorem enqueue_keeps {a s : State} (h : Keeps a s) (p : Packet) : Keeps a (enqueue p s) := by
  unfold enqueue; simp (maxDischargeDepth := 60) [h]

@[simp] theorem refuse_keeps {a s : State} (h : Keeps a s) (p : Packet) (st : Status) : Keeps a (refuse p st s) := by
  unfold refuse; (repeat' split) <;> simp (maxDischargeDepth := 60) [h]

@[simp] theorem submit_keeps {a s : State} (h : Keeps a s) (op : Nat) {f : Packet → State → State × Ans} (hf : ∀ p x, Keeps x (f p x).1) (p : Packet) : Keeps a (submit op f p s) := by
  simp only [submit]
  (repeat' split) <;> simp (maxDischargeDepth := 60) [h, hf]

@[simp] theorem submitW_keeps {a s : State} (h : Keeps a s) (op : Nat) (p : Packet) : Keeps a (submitW op p s) := by
  unfold submitW; simp (maxDischargeDepth := 60) [h]

@[simp] theorem logReadFails_keeps {a s : State} (h : Keeps a s) (x : LogPart) : Keeps a (logReadFails x s) := by
  unfold logReadFails; simp (maxDischargeDepth := 60) [h]

end Sys2Proof.Machine
end

