-- ==== Sys2Proof/Laws/Plan.lean ====
section
/-!
SUPPORT. Laws/Plan.lean: what each function of Machine/Plan.lean keeps (Safety.lean).
-/
namespace Sys2Proof.Machine

@[simp] theorem abandonPlan_keeps {a s : State} (h : Keeps a s) (cause : Nat) (outcome : Nat) (master : Nat) : Keeps a (abandonPlan cause outcome master s) := by
  unfold abandonPlan; simp (maxDischargeDepth := 60) [h]

@[simp] theorem cmdPlanBegin_keeps {a s : State} (h : Keeps a s) (p : Packet) : Keeps a (cmdPlanBegin p s).1 := by
  unfold cmdPlanBegin; simp (maxDischargeDepth := 60) [h]

@[simp] theorem cmdPlanLoad_keeps {a s : State} (h : Keeps a s) (p : Packet) : Keeps a (cmdPlanLoad p s).1 := by
  unfold cmdPlanLoad; simp (maxDischargeDepth := 60) [h]

@[simp] theorem cmdPlanAbort_keeps {a s : State} (h : Keeps a s) (p : Packet) : Keeps a (cmdPlanAbort p s).1 := by
  unfold cmdPlanAbort; simp (maxDischargeDepth := 60) [h]

@[simp] theorem cmdPlanStatus_keeps {a s : State} (h : Keeps a s) (x1 : Packet) : Keeps a (cmdPlanStatus x1 s).1 := by
  unfold cmdPlanStatus; simp (maxDischargeDepth := 60) [h]

theorem execPlanBegin_keeps {a s : State} (h : Keeps a s) (p : Packet) : KeepsAll a (execPlanBegin p s) := by
  unfold execPlanBegin; simp (maxDischargeDepth := 60) [h]

theorem execPlanLoad_keeps {a s : State} (h : Keeps a s) (p : Packet) : KeepsAll a (execPlanLoad p s) := by
  unfold execPlanLoad; simp (maxDischargeDepth := 60) [h]

theorem execPlanCommit_keeps {a s : State} (h : Keeps a s) (p : Packet) : KeepsAll a (execPlanCommit p s) := by
  unfold execPlanCommit; simp (maxDischargeDepth := 60) [h]

theorem execPlanAbort_keeps {a s : State} (h : Keeps a s) (p : Packet) : KeepsAll a (execPlanAbort p s) := by
  unfold execPlanAbort; simp (maxDischargeDepth := 60) [h]

theorem execPlanStatus_keeps {a s : State} (h : Keeps a s) (p : Packet) : KeepsAll a (execPlanStatus p s) := by
  unfold execPlanStatus; simp (maxDischargeDepth := 60) [h]

theorem execPlanSessionIdle_keeps {a s : State} (h : Keeps a s) : KeepsAll a (execPlanSessionIdle s) := by
  unfold execPlanSessionIdle; simp (maxDischargeDepth := 60) [h]

theorem execPlanCommitRecordValid_keeps {a s : State} (h : Keeps a s) : KeepsAll a (execPlanCommitRecordValid s) := by
  unfold execPlanCommitRecordValid; simp (maxDischargeDepth := 60) [h]

end Sys2Proof.Machine
end

