-- ==== Sys2Proof/Laws/Calendar.lean ====
section
/-!
SUPPORT. Laws/Calendar.lean: what each function of Machine/Calendar.lean keeps (Safety.lean).
-/
namespace Sys2Proof.Machine

@[simp] theorem cmdRtcSet_keeps {a s : State} (h : Keeps a s) (p : Packet) : Keeps a (cmdRtcSet p s).1 := by
  unfold cmdRtcSet; simp (maxDischargeDepth := 60) [h]

@[simp] theorem cmdRtcGet_keeps {a s : State} (h : Keeps a s) (x1 : Packet) : Keeps a (cmdRtcGet x1 s).1 := by
  unfold cmdRtcGet; simp (maxDischargeDepth := 60) [h]

@[simp] theorem setTrim_keeps {a s : State} (h : Keeps a s) (v : Nat) (master : Nat) : Keeps a (setTrim v master s) := by
  unfold setTrim; simp (maxDischargeDepth := 60) [h]

@[simp] theorem cmdRtcTrim_keeps {a s : State} (h : Keeps a s) (p : Packet) : Keeps a (cmdRtcTrim p s).1 := by
  unfold cmdRtcTrim; simp (maxDischargeDepth := 60) [h]

@[simp] theorem setWake_keeps {a s : State} (h : Keeps a s) (period : Nat) (en : Bool) (master : Nat) : Keeps a (setWake period en master s) := by
  unfold setWake; simp (maxDischargeDepth := 60) [h]

@[simp] theorem cmdWakeSet_keeps {a s : State} (h : Keeps a s) (p : Packet) : Keeps a (cmdWakeSet p s).1 := by
  unfold cmdWakeSet; simp (maxDischargeDepth := 60) [h]

@[simp] theorem setOscStop_keeps {a s : State} (h : Keeps a s) (cause : Nat) : Keeps a (setOscStop cause s) := by
  unfold setOscStop; simp (maxDischargeDepth := 60) [h]

@[simp] theorem commitReply_keeps {a s : State} (h : Keeps a s) (src : CommitSource) (st : Status) : Keeps a (commitReply src st s) := by
  unfold commitReply; (repeat' split) <;> simp (maxDischargeDepth := 60) [h]

@[simp] theorem rangeEnd_keeps {a s : State} (h : Keeps a s) : Keeps a (rangeEnd s) :=
  setOscStop_keeps (setClock h _ (show DateTime.valid {} = true by decide)) _

@[simp] theorem rtcCount_keeps {a s : State} (h : Keeps a s) : Keeps a (rtcCount s) := by
  unfold rtcCount
  split
  · exact rangeEnd_keeps h
  · rename_i e
    exact h.trans ⟨rfl, fun ⟨hc, hg, hr, hl, hv⟩ => ⟨hc, hg, hr, hl, DateTime.tick_valid hv (by simpa using e)⟩⟩

@[simp] theorem crystalCycle_keeps {a s : State} (h : Keeps a s) : Keeps a (crystalCycle s) := by
  unfold crystalCycle; simp (maxDischargeDepth := 60) [h]

@[simp] theorem effRtcCommitWrite_keeps {a s : State} (h : Keeps a s) : Keeps a (effRtcCommitWrite s) := by
  unfold effRtcCommitWrite; simp (maxDischargeDepth := 60) [h]

theorem execRtcSet_keeps {a s : State} (h : Keeps a s) (p : Packet) : KeepsAll a (execRtcSet p s) := by
  unfold execRtcSet; simp (maxDischargeDepth := 60) [h]

theorem execRtcGet_keeps {a s : State} (h : Keeps a s) (p : Packet) : KeepsAll a (execRtcGet p s) := by
  unfold execRtcGet; simp (maxDischargeDepth := 60) [h]

theorem execRtcTrim_keeps {a s : State} (h : Keeps a s) (p : Packet) : KeepsAll a (execRtcTrim p s) := by
  unfold execRtcTrim; simp (maxDischargeDepth := 60) [h]

theorem execWakeSet_keeps {a s : State} (h : Keeps a s) (p : Packet) : KeepsAll a (execWakeSet p s) := by
  unfold execWakeSet; simp (maxDischargeDepth := 60) [h]

@[simp] theorem trimWrite_keeps {a s : State} (h : Keeps a s) (v : Nat) : Keeps a (trimWrite v s) := by
  unfold trimWrite; simp (maxDischargeDepth := 60) [h]

@[simp] theorem rtcRead_keeps {a s : State} (h : Keeps a s) (reg : Nat) : Keeps a (rtcRead reg s).2 := by
  unfold rtcRead; simp (maxDischargeDepth := 60) [h]

theorem execRtcCtlCommit_keeps {a s : State} (h : Keeps a s) : KeepsAll a (execRtcCtlCommit s) := by
  unfold execRtcCtlCommit; simp (maxDischargeDepth := 60) [h]

theorem execRtcCtlShadowRel_keeps {a s : State} (h : Keeps a s) : KeepsAll a (execRtcCtlShadowRel s) := by
  unfold execRtcCtlShadowRel; simp (maxDischargeDepth := 60) [h]

theorem execRtcShadowRead_keeps {a s : State} (h : Keeps a s) (reg : Nat) : KeepsAll a (execRtcShadowRead reg s) := by
  unfold execRtcShadowRead; simp (maxDischargeDepth := 60) [h]

theorem execRtcShadowTimeout_keeps {a s : State} (h : Keeps a s) : KeepsAll a (execRtcShadowTimeout s) := by
  unfold execRtcShadowTimeout; simp (maxDischargeDepth := 60) [h]

@[simp] theorem takeCommit_keeps {a s : State} (h : Keeps a s) (src : CommitSource) (t : DateTime) : Keeps a (takeCommit src t s) := by
  unfold takeCommit
  split
  · simp [h]
  · split
    · simp (maxDischargeDepth := 60) [h]
    · rename_i hv
      have k : Keeps a { s with rtc := { s.rtc with now := t, weekday := weekdayOf t, trimAcc := 0, dateErr := false, oscStop := false } } :=
        h.trans ⟨rfl, fun ⟨hc, hg, hr, hl, _⟩ => ⟨hc, hg, hr, hl, by simpa using hv⟩⟩
      refine commitReply_keeps ?_ _ _
      split <;> exact gbk_keeps k _ _ _

theorem execRtcCommit_keeps {a s : State} (h : Keeps a s) : KeepsAll a (execRtcCommit s) := by
  unfold execRtcCommit; (repeat' split) <;> simp (maxDischargeDepth := 60) [h]

theorem execRtcTrimRegisterWrite_keeps {a s : State} (h : Keeps a s) (value : Nat) : KeepsAll a (execRtcTrimRegisterWrite value s) := by
  unfold execRtcTrimRegisterWrite; simp (maxDischargeDepth := 60) [h]

theorem execRtcWakeWrite_keeps {a s : State} (h : Keeps a s) (value : Nat) : KeepsAll a (execRtcWakeWrite value s) := by
  unfold execRtcWakeWrite; simp (maxDischargeDepth := 60) [h]

theorem execRtcRangeEnd_keeps {a s : State} (h : Keeps a s) : KeepsAll a (execRtcRangeEnd s) := by
  unfold execRtcRangeEnd; simp (maxDischargeDepth := 60) [h]

theorem execOscStopDetect_keeps {a s : State} (h : Keeps a s) (dip : Bool) : KeepsAll a (execOscStopDetect dip s) := by
  unfold execOscStopDetect; simp (maxDischargeDepth := 60) [h]

theorem execD0SupplySwitch_keeps {a s : State} (h : Keeps a s) (millivolts : Nat) : KeepsAll a (execD0SupplySwitch millivolts s) := by
  unfold execD0SupplySwitch; simp (maxDischargeDepth := 60) [h]

@[simp] theorem vbatMeasure_keeps {a s : State} (h : Keeps a s) (mv : Nat) : Keeps a (vbatMeasure mv s) := by
  unfold vbatMeasure; simp (maxDischargeDepth := 60) [h]

theorem execVbatMeasure_keeps {a s : State} (h : Keeps a s) (millivolts : Nat) : KeepsAll a (execVbatMeasure millivolts s) := by
  unfold execVbatMeasure; simp (maxDischargeDepth := 60) [h]

theorem execWakeFire_keeps {a s : State} (h : Keeps a s) : KeepsAll a (execWakeFire s) := by
  unfold execWakeFire; simp (maxDischargeDepth := 60) [h]

theorem execWakeNRelease_keeps {a s : State} (h : Keeps a s) : KeepsAll a (execWakeNRelease s) := by
  unfold execWakeNRelease; simp (maxDischargeDepth := 60) [h]

end Sys2Proof.Machine
end

