-- ==== Sys2Proof/Laws/Time.lean ====
section
/-!
SUPPORT. Laws/Time.lean: what each function of Machine/Time.lean keeps (Safety.lean).
-/
namespace Sys2Proof.Machine

@[simp] theorem modInst_keeps {a s : State} (h : Keeps a s) (port : Nat) (b : Nat) (f : PtpInst → PtpInst) : Keeps a (modInst port b f s) := by
  unfold modInst; simp (maxDischargeDepth := 60) [h]

@[simp] theorem modBase_keeps {a s : State} (h : Keeps a s) (b : Nat) (f : Base → Base) : Keeps a (modBase b f s) := by
  unfold modBase; simp (maxDischargeDepth := 60) [h]

@[simp] theorem usePort_keeps {a s : State} (h : Keeps a s) (b : Nat) (port : Nat) : Keeps a (usePort b port s) := by
  simp only [usePort]; (repeat' split) <;> simp (maxDischargeDepth := 60) [h]

@[simp] theorem setBaseState_keeps {a s : State} (h : Keeps a s) (b : Nat) (new : Nat) : Keeps a (setBaseState b new s) := by
  unfold setBaseState; simp (maxDischargeDepth := 60) [h]

@[simp] theorem baseHoldover_keeps {a s : State} (h : Keeps a s) (b : Nat) : Keeps a (baseHoldover b s) := by
  unfold baseHoldover; simp (maxDischargeDepth := 60) [h]

@[simp] theorem dropInst_keeps {a s : State} (h : Keeps a s) (port : Nat) (b : Nat) : Keeps a (dropInst port b s) := by
  unfold dropInst; simp (maxDischargeDepth := 60) [h]

@[simp] theorem baseEnables_keeps {a s : State} (h : Keeps a s) (b : Nat) : Keeps a (baseEnables b s) := by
  unfold baseEnables; simp (maxDischargeDepth := 60) [h]

@[simp] theorem cmdPtpPortConfig_keeps {a s : State} (h : Keeps a s) (p : Packet) : Keeps a (cmdPtpPortConfig p s).1 := by
  unfold cmdPtpPortConfig; simp (maxDischargeDepth := 60) [h]

@[simp] theorem restartBase_keeps {a s : State} (h : Keeps a s) (b : Nat) : Keeps a (restartBase b s) := by
  unfold restartBase; simp (maxDischargeDepth := 60) [h]

@[simp] theorem cmdTimeConfig_keeps {a s : State} (h : Keeps a s) (p : Packet) : Keeps a (cmdTimeConfig p s).1 := by
  unfold cmdTimeConfig; simp (maxDischargeDepth := 60) [h]

@[simp] theorem cmdTimeSelect_keeps {a s : State} (h : Keeps a s) (p : Packet) : Keeps a (cmdTimeSelect p s).1 := by
  unfold cmdTimeSelect; simp (maxDischargeDepth := 60) [h]

@[simp] theorem cmdTimeStatus_keeps {a s : State} (h : Keeps a s) (x1 : Packet) : Keeps a (cmdTimeStatus x1 s).1 := by
  unfold cmdTimeStatus; simp (maxDischargeDepth := 60) [h]

@[simp] theorem cmdPpsConfig_keeps {a s : State} (h : Keeps a s) (p : Packet) : Keeps a (cmdPpsConfig p s).1 := by
  unfold cmdPpsConfig; simp (maxDischargeDepth := 60) [h]

@[simp] theorem takeUtc_keeps {a s : State} (h : Keeps a s) (x1 : Announce) : Keeps a (takeUtc x1 s) := by
  unfold takeUtc; simp (maxDischargeDepth := 60) [h]

@[simp] theorem setTbmState_keeps {a s : State} (h : Keeps a s) (new : Nat) : Keeps a (setTbmState new s) := by
  unfold setTbmState; simp (maxDischargeDepth := 60) [h]

@[simp] theorem placeTime_keeps {a s : State} (h : Keeps a s) (kind : Nat) (b : List Byte) : Keeps a (placeTime kind b s) := by
  unfold placeTime; simp (maxDischargeDepth := 60) [h]

@[simp] theorem tbmSwitch_keeps {a s : State} (h : Keeps a s) : Keeps a (tbmSwitch s) := by
  simp only [tbmSwitch]; (repeat' split) <;> simp (maxDischargeDepth := 60) [h]

@[simp] theorem placeTimeTick_keeps {a s : State} (h : Keeps a s) : Keeps a (placeTimeTick s) := by
  unfold placeTimeTick; simp (maxDischargeDepth := 60) [h]

@[simp] theorem announceIn_keeps {a s : State} (h : Keeps a s) (port : Nat) (b : Nat) (x3 : Announce) : Keeps a (announceIn port b x3 s) := by
  unfold announceIn; simp (maxDischargeDepth := 60) [h]

@[simp] theorem baseSample_keeps {a s : State} (h : Keeps a s) (b : Nat) (off : Int) (logSync : Int) : Keeps a (baseSample b off logSync s) := by
  unfold baseSample; simp (maxDischargeDepth := 60) [h]

theorem execTimeConfig_keeps {a s : State} (h : Keeps a s) (p : Packet) : KeepsAll a (execTimeConfig p s) := by
  unfold execTimeConfig; simp (maxDischargeDepth := 60) [h]

theorem execTimeStatus_keeps {a s : State} (h : Keeps a s) (p : Packet) : KeepsAll a (execTimeStatus p s) := by
  unfold execTimeStatus; simp (maxDischargeDepth := 60) [h]

theorem execTimeSelect_keeps {a s : State} (h : Keeps a s) (p : Packet) : KeepsAll a (execTimeSelect p s) := by
  unfold execTimeSelect; simp (maxDischargeDepth := 60) [h]

theorem execPtpPortConfig_keeps {a s : State} (h : Keeps a s) (p : Packet) : KeepsAll a (execPtpPortConfig p s) := by
  unfold execPtpPortConfig; simp (maxDischargeDepth := 60) [h]

theorem execPpsConfig_keeps {a s : State} (h : Keeps a s) (p : Packet) : KeepsAll a (execPpsConfig p s) := by
  unfold execPpsConfig; simp (maxDischargeDepth := 60) [h]

@[simp] theorem ptpIn_keeps {a s : State} (h : Keeps a s) (port : Nat) (domain : Nat) (m : PtpKind) : Keeps a (ptpIn port domain m s) := by
  unfold ptpIn; (repeat' split) <;> simp (maxDischargeDepth := 60) [h]

theorem execPtpMessageReceive_keeps {a s : State} (h : Keeps a s) (port : Nat) (domain : Nat) (m : PtpKind) : KeepsAll a (execPtpMessageReceive port domain m s) := by
  unfold execPtpMessageReceive; simp (maxDischargeDepth := 60) [h]

theorem execBaseHoldover_keeps {a s : State} (h : Keeps a s) (base : Nat) : KeepsAll a (execBaseHoldover base s) := by
  unfold execBaseHoldover; simp (maxDischargeDepth := 60) [h]

@[simp] theorem tbmTable_keeps {a s : State} (h : Keeps a s) (taiNs : Nat) : Keeps a (tbmTable taiNs s) := by
  unfold tbmTable; simp (maxDischargeDepth := 60) [h]

@[simp] theorem mismatchStep_keeps {a s : State} (h : Keeps a s) : Keeps a (mismatchStep s) := by
  unfold mismatchStep; simp (maxDischargeDepth := 60) [h]

theorem execTbmEvaluation_keeps {a s : State} (h : Keeps a s) (taiNs : Nat) : KeepsAll a (execTbmEvaluation taiNs s) := by
  unfold execTbmEvaluation; simp (maxDischargeDepth := 60) [h]

theorem execTbmSwitch_keeps {a s : State} (h : Keeps a s) : KeepsAll a (execTbmSwitch s) := by
  unfold execTbmSwitch; simp (maxDischargeDepth := 60) [h]

theorem execTblComparison_keeps {a s : State} (h : Keeps a s) : KeepsAll a (execTblComparison s) := by
  unfold execTblComparison; simp (maxDischargeDepth := 60) [h]

theorem execPpsInEdge_keeps {a s : State} (h : Keeps a s) (falling : Bool) (offset : Int) : KeepsAll a (execPpsInEdge falling offset s) := by
  unfold execPpsInEdge; simp (maxDischargeDepth := 60) [h]

theorem execPpsInLoss_keeps {a s : State} (h : Keeps a s) : KeepsAll a (execPpsInLoss s) := by
  unfold execPpsInLoss; simp (maxDischargeDepth := 60) [h]

theorem execPpsOutPulse_keeps {a s : State} (h : Keeps a s) (second : Nat) : KeepsAll a (execPpsOutPulse second s) := by
  unfold execPpsOutPulse; simp (maxDischargeDepth := 60) [h]

theorem execAnnounceReceiptTimeout_keeps {a s : State} (h : Keeps a s) (port : Nat) (inst : Nat) : KeepsAll a (execAnnounceReceiptTimeout port inst s) := by
  unfold execAnnounceReceiptTimeout; simp (maxDischargeDepth := 60) [h]

theorem execPtpDelayReqSend_keeps {a s : State} (h : Keeps a s) (port : Nat) (inst : Nat) (stamp : Nat) : KeepsAll a (execPtpDelayReqSend port inst stamp s) := by
  unfold execPtpDelayReqSend; simp (maxDischargeDepth := 60) [h]

end Sys2Proof.Machine
end

