-- ==== Sys2Proof/Laws/Light.lean ====
section
/-!
SUPPORT. Laws/Light.lean: what each function of Machine/Light.lean keeps (Safety.lean).
-/
namespace Sys2Proof.Machine

@[simp] theorem cmdLanternLevelGet_keeps {a s : State} (h : Keeps a s) (p : Packet) : Keeps a (cmdLanternLevelGet p s).1 := by
  unfold cmdLanternLevelGet; simp (maxDischargeDepth := 60) [h]

@[simp] theorem cmdSolarGet_keeps {a s : State} (h : Keeps a s) (p : Packet) : Keeps a (cmdSolarGet p s).1 := by
  unfold cmdSolarGet; (repeat' split) <;> simp (maxDischargeDepth := 60) [h]

@[simp] theorem cmdGroupStatus_keeps {a s : State} (h : Keeps a s) (p : Packet) : Keeps a (cmdGroupStatus p s).1 := by
  unfold cmdGroupStatus; (repeat' split) <;> simp (maxDischargeDepth := 60) [h]

theorem execGroupConfig_keeps {a s : State} (h : Keeps a s) (p : Packet) : KeepsAll a (execGroupConfig p s) := by
  unfold execGroupConfig; simp (maxDischargeDepth := 60) [h]

theorem execGroupMembers_keeps {a s : State} (h : Keeps a s) (p : Packet) : KeepsAll a (execGroupMembers p s) := by
  unfold execGroupMembers; simp (maxDischargeDepth := 60) [h]

theorem execGroupStatus_keeps {a s : State} (h : Keeps a s) (p : Packet) : KeepsAll a (execGroupStatus p s) := by
  unfold execGroupStatus; simp (maxDischargeDepth := 60) [h]

theorem execLanternLevelGet_keeps {a s : State} (h : Keeps a s) (p : Packet) : KeepsAll a (execLanternLevelGet p s) := by
  unfold execLanternLevelGet; simp (maxDischargeDepth := 60) [h]

theorem execScheduleConfig_keeps {a s : State} (h : Keeps a s) (p : Packet) : KeepsAll a (execScheduleConfig p s) := by
  unfold execScheduleConfig; simp (maxDischargeDepth := 60) [h]

theorem execHolidaySet_keeps {a s : State} (h : Keeps a s) (p : Packet) : KeepsAll a (execHolidaySet p s) := by
  unfold execHolidaySet; simp (maxDischargeDepth := 60) [h]

theorem execSolarGet_keeps {a s : State} (h : Keeps a s) (p : Packet) : KeepsAll a (execSolarGet p s) := by
  unfold execSolarGet; simp (maxDischargeDepth := 60) [h]

theorem execOverride_keeps {a s : State} (h : Keeps a s) (p : Packet) : KeepsAll a (execOverride p s) := by
  unfold execOverride; simp (maxDischargeDepth := 60) [h]

theorem execOverrideCancel_keeps {a s : State} (h : Keeps a s) (p : Packet) : KeepsAll a (execOverrideCancel p s) := by
  unfold execOverrideCancel; simp (maxDischargeDepth := 60) [h]

theorem execCurfewSet_keeps {a s : State} (h : Keeps a s) (p : Packet) : KeepsAll a (execCurfewSet p s) := by
  unfold execCurfewSet; simp (maxDischargeDepth := 60) [h]

theorem execFallbackSet_keeps {a s : State} (h : Keeps a s) (p : Packet) : KeepsAll a (execFallbackSet p s) := by
  unfold execFallbackSet; simp (maxDischargeDepth := 60) [h]

@[simp] theorem openCalc_keeps {a s : State} (h : Keeps a s) (f : Calc → Calc) : Keeps a (openCalc f s) := by
  unfold openCalc; simp (maxDischargeDepth := 60) [h]

theorem execOverrideExpiry_keeps {a s : State} (h : Keeps a s) (group : Handle) (slot : Nat) : KeepsAll a (execOverrideExpiry group slot s) := by
  unfold execOverrideExpiry; (repeat' split) <;> simp (maxDischargeDepth := 60) [h]

theorem execRefreshDue_keeps {a s : State} (h : Keeps a s) (lantern : Nat) : KeepsAll a (execRefreshDue lantern s) := by
  unfold execRefreshDue; (repeat' split) <;> simp (maxDischargeDepth := 60) [h]

end Sys2Proof.Machine
end

