-- ==== Sys2Proof/Laws/Registry.lean ====
section
/-!
SUPPORT. Laws/Registry.lean: what each function of Machine/Registry.lean keeps (Safety.lean).
-/
namespace Sys2Proof.Machine

@[simp] theorem cmdRegistryGet_keeps {a s : State} (h : Keeps a s) (p : Packet) : Keeps a (cmdRegistryGet p s).1 := by
  simp only [cmdRegistryGet]; (repeat' split) <;> simp (maxDischargeDepth := 60) [h]

@[simp] theorem modStream_keeps {a s : State} (h : Keeps a s) (slot : Nat) (f : StreamRun → StreamRun) : Keeps a (modStream slot f s) := by
  unfold modStream; simp (maxDischargeDepth := 60) [h]

@[simp] theorem cmdRegistryExport_keeps {a s : State} (h : Keeps a s) (p : Packet) : Keeps a (cmdRegistryExport p s).1 := by
  simp only [cmdRegistryExport]; (repeat' split) <;> simp (maxDischargeDepth := 60) [h]

@[simp] theorem cmdRegistryFind_keeps {a s : State} (h : Keeps a s) (p : Packet) : Keeps a (cmdRegistryFind p s).1 := by
  unfold cmdRegistryFind; simp (maxDischargeDepth := 60) [h]

theorem execRegistryGet_keeps {a s : State} (h : Keeps a s) (p : Packet) : KeepsAll a (execRegistryGet p s) := by
  unfold execRegistryGet; simp (maxDischargeDepth := 60) [h]

theorem execRegistryExport_keeps {a s : State} (h : Keeps a s) (p : Packet) : KeepsAll a (execRegistryExport p s) := by
  unfold execRegistryExport; simp (maxDischargeDepth := 60) [h]

theorem execRegistryFind_keeps {a s : State} (h : Keeps a s) (p : Packet) : KeepsAll a (execRegistryFind p s) := by
  unfold execRegistryFind; simp (maxDischargeDepth := 60) [h]

end Sys2Proof.Machine
end

