-- ==== Sys2Proof/Laws/Escort.lean ====
section
/-!
SUPPORT. Laws/Escort.lean: what each function of Machine/Escort.lean keeps (Safety.lean).
-/
namespace Sys2Proof.Machine

@[simp] theorem cmdTrackList_keeps {a s : State} (h : Keeps a s) (p : Packet) : Keeps a (cmdTrackList p s).1 := by
  unfold cmdTrackList; simp (maxDischargeDepth := 60) [h]

@[simp] theorem cmdEscortStatus_keeps {a s : State} (h : Keeps a s) (p : Packet) : Keeps a (cmdEscortStatus p s).1 := by
  unfold cmdEscortStatus; (repeat' split) <;> simp (maxDischargeDepth := 60) [h]

theorem execEscortConfig_keeps {a s : State} (h : Keeps a s) (p : Packet) : KeepsAll a (execEscortConfig p s) := by
  unfold execEscortConfig; simp (maxDischargeDepth := 60) [h]

theorem execEscortProfile_keeps {a s : State} (h : Keeps a s) (p : Packet) : KeepsAll a (execEscortProfile p s) := by
  unfold execEscortProfile; simp (maxDischargeDepth := 60) [h]

theorem execChainageSet_keeps {a s : State} (h : Keeps a s) (p : Packet) : KeepsAll a (execChainageSet p s) := by
  unfold execChainageSet; simp (maxDischargeDepth := 60) [h]

theorem execTrafficHint_keeps {a s : State} (h : Keeps a s) (p : Packet) : KeepsAll a (execTrafficHint p s) := by
  unfold execTrafficHint; simp (maxDischargeDepth := 60) [h]

theorem execEscortStatus_keeps {a s : State} (h : Keeps a s) (p : Packet) : KeepsAll a (execEscortStatus p s) := by
  unfold execEscortStatus; simp (maxDischargeDepth := 60) [h]

theorem execTrackList_keeps {a s : State} (h : Keeps a s) (p : Packet) : KeepsAll a (execTrackList p s) := by
  unfold execTrackList; simp (maxDischargeDepth := 60) [h]

theorem execTravellerTimeout_keeps {a s : State} (h : Keeps a s) (zone : Handle) (traveller : Nat) : KeepsAll a (execTravellerTimeout zone traveller s) := by
  unfold execTravellerTimeout; (repeat' split) <;> simp (maxDischargeDepth := 60) [h]

theorem execOccupyExpiry_keeps {a s : State} (h : Keeps a s) (zone : Handle) (link : Nat) : KeepsAll a (execOccupyExpiry zone link s) := by
  unfold execOccupyExpiry; simp (maxDischargeDepth := 60) [h]

end Sys2Proof.Machine
end

