-- ==== Sys2Proof/Laws/Loop.lean ====
section
/-!
SUPPORT. Laws/Loop.lean: what each function of Machine/Loop.lean keeps (Safety.lean).
-/
namespace Sys2Proof.Machine

@[simp] theorem cmdLoopStatus_keeps {a s : State} (h : Keeps a s) (p : Packet) : Keeps a (cmdLoopStatus p s).1 := by
  simp only [cmdLoopStatus]; (repeat' split) <;> simp (maxDischargeDepth := 60) [h]

@[simp] theorem modTrace_keeps {a s : State} (h : Keeps a s) (x1 : Handle) (f : TraceRun → TraceRun) : Keeps a (modTrace x1 f s) := by
  unfold modTrace; simp (maxDischargeDepth := 60) [h]

@[simp] theorem cmdTraceArm_keeps {a s : State} (h : Keeps a s) (p : Packet) : Keeps a (cmdTraceArm p s).1 := by
  simp only [cmdTraceArm]; (repeat' split) <;> simp (maxDischargeDepth := 60) [h]

@[simp] theorem cmdTraceRead_keeps {a s : State} (h : Keeps a s) (p : Packet) : Keeps a (cmdTraceRead p s).1 := by
  unfold cmdTraceRead; (repeat' split) <;> simp (maxDischargeDepth := 60) [h]

@[simp] theorem traceSample_keeps {a s : State} (h : Keeps a s) (slots : List Nat) : Keeps a (traceSample slots s) := by
  simp (maxDischargeDepth := 60) [traceSample, h, Keeps.foldlFst]

@[simp] theorem answerAwaited_keeps {a s : State} (h : Keeps a s) (p : Packet) (payload : List Byte) : Keeps a (answerAwaited p payload s) := by
  unfold answerAwaited; (repeat' split) <;> simp (maxDischargeDepth := 60) [h]

theorem execLoopConfig_keeps {a s : State} (h : Keeps a s) (p : Packet) : KeepsAll a (execLoopConfig p s) := by
  unfold execLoopConfig; simp (maxDischargeDepth := 60) [h]

theorem execLoopCoeff_keeps {a s : State} (h : Keeps a s) (p : Packet) : KeepsAll a (execLoopCoeff p s) := by
  unfold execLoopCoeff; simp (maxDischargeDepth := 60) [h]

theorem execLoopCompTable_keeps {a s : State} (h : Keeps a s) (p : Packet) : KeepsAll a (execLoopCompTable p s) := by
  unfold execLoopCompTable; simp (maxDischargeDepth := 60) [h]

theorem execLoopHold_keeps {a s : State} (h : Keeps a s) (p : Packet) : KeepsAll a (execLoopHold p s) := by
  unfold execLoopHold; simp (maxDischargeDepth := 60) [h]

theorem execLoopRelease_keeps {a s : State} (h : Keeps a s) (p : Packet) : KeepsAll a (execLoopRelease p s) := by
  unfold execLoopRelease; simp (maxDischargeDepth := 60) [h]

theorem execLoopStatus_keeps {a s : State} (h : Keeps a s) (p : Packet) : KeepsAll a (execLoopStatus p s) := by
  unfold execLoopStatus; simp (maxDischargeDepth := 60) [h]

theorem execContentionSet_keeps {a s : State} (h : Keeps a s) (p : Packet) : KeepsAll a (execContentionSet p s) := by
  unfold execContentionSet; simp (maxDischargeDepth := 60) [h]

theorem execOscConfig_keeps {a s : State} (h : Keeps a s) (p : Packet) : KeepsAll a (execOscConfig p s) := by
  unfold execOscConfig; simp (maxDischargeDepth := 60) [h]

theorem execTraceConfig_keeps {a s : State} (h : Keeps a s) (p : Packet) : KeepsAll a (execTraceConfig p s) := by
  unfold execTraceConfig; simp (maxDischargeDepth := 60) [h]

theorem execTraceArm_keeps {a s : State} (h : Keeps a s) (p : Packet) : KeepsAll a (execTraceArm p s) := by
  unfold execTraceArm; simp (maxDischargeDepth := 60) [h]

theorem execTraceRead_keeps {a s : State} (h : Keeps a s) (p : Packet) : KeepsAll a (execTraceRead p s) := by
  unfold execTraceRead; simp (maxDischargeDepth := 60) [h]

theorem execLoopReleaseEffect_keeps {a s : State} (h : Keeps a s) (slot : Nat) : KeepsAll a (execLoopReleaseEffect slot s) := by
  unfold execLoopReleaseEffect; (repeat' split) <;> simp (maxDischargeDepth := 60) [h]

end Sys2Proof.Machine
end

