-- ==== Sys2Proof/Laws/Drive.lean ====
section
/-!
SUPPORT. Laws/Drive.lean: what each function of Machine/Drive.lean keeps (Safety.lean).
-/
namespace Sys2Proof.Machine

@[simp] theorem restartDrive_keeps {a s : State} (h : Keeps a s) : Keeps a (restartDrive s) := by
  unfold restartDrive; simp (maxDischargeDepth := 60) [h]

@[simp] theorem cmdDriveStatus_keeps {a s : State} (h : Keeps a s) (p : Packet) : Keeps a (cmdDriveStatus p s).1 := by
  unfold cmdDriveStatus; (repeat' split) <;> simp (maxDischargeDepth := 60) [h]

@[simp] theorem modLumRun_keeps {a s : State} (h : Keeps a s) (k : Nat) (f : LumRun → LumRun) : Keeps a (modLumRun k f s) := by
  unfold modLumRun; simp (maxDischargeDepth := 60) [h]

@[simp] theorem modStr_keeps {a s : State} (h : Keeps a s) (i : Nat) (f : StrRun → StrRun) : Keeps a (modStr i f s) := by
  unfold modStr; simp (maxDischargeDepth := 60) [h]

@[simp] theorem clearFault_keeps {a s : State} (h : Keeps a s) (f : Nat × Nat) : Keeps a (clearFault f s) := by
  unfold clearFault; (repeat' split) <;> simp (maxDischargeDepth := 60) [h]

@[simp] theorem gatesLow_keeps {a s : State} (h : Keeps a s) (k : Nat) : Keeps a (gatesLow k s) := by
  unfold gatesLow; simp (maxDischargeDepth := 60) [h]

@[simp] theorem driveChan_keeps {a s : State} (h : Keeps a s) (x1 : Handle) (what : Nat) (tick : Nat) : Keeps a (driveChan x1 what tick s) := by
  simp only [driveChan]; (repeat' split) <;> simp (maxDischargeDepth := 60) [h]

@[simp] theorem driveEntry_keeps {a s : State} (h : Keeps a s) (kind : Nat) (b : List Byte) : Keeps a (driveEntry kind b s) := by
  unfold driveEntry; simp (maxDischargeDepth := 60) [h]

@[simp] theorem modFast_keeps {a s : State} (h : Keeps a s) (n : Nat) (f : LoopSlot → LoopSlot) : Keeps a (modFast n f s) := by
  unfold modFast; simp (maxDischargeDepth := 60) [h]

@[simp] theorem driveMsg_keeps {a s : State} (h : Keeps a s) (m : DriveMsg) : Keeps a (driveMsg m s) := by
  simp only [driveMsg]; (repeat' split) <;> simp (maxDischargeDepth := 60) [h, Keeps.foldl]

theorem execLuminaireConfig_keeps {a s : State} (h : Keeps a s) (p : Packet) : KeepsAll a (execLuminaireConfig p s) := by
  unfold execLuminaireConfig; simp (maxDischargeDepth := 60) [h]

theorem execStringConfig_keeps {a s : State} (h : Keeps a s) (p : Packet) : KeepsAll a (execStringConfig p s) := by
  unfold execStringConfig; simp (maxDischargeDepth := 60) [h]

theorem execColourTable_keeps {a s : State} (h : Keeps a s) (p : Packet) : KeepsAll a (execColourTable p s) := by
  unfold execColourTable; simp (maxDischargeDepth := 60) [h]

theorem execDerateSet_keeps {a s : State} (h : Keeps a s) (p : Packet) : KeepsAll a (execDerateSet p s) := by
  unfold execDerateSet; simp (maxDischargeDepth := 60) [h]

theorem execDriveStatus_keeps {a s : State} (h : Keeps a s) (p : Packet) : KeepsAll a (execDriveStatus p s) := by
  unfold execDriveStatus; simp (maxDischargeDepth := 60) [h]

theorem execStringFaultClear_keeps {a s : State} (h : Keeps a s) (p : Packet) : KeepsAll a (execStringFaultClear p s) := by
  unfold execStringFaultClear; simp (maxDischargeDepth := 60) [h]

@[simp] theorem stringEntry_keeps {a s : State} (h : Keeps a s) (i : Nat) : Keeps a (stringEntry i s) := by
  unfold stringEntry; (repeat' split) <;> simp (maxDischargeDepth := 60) [h]

@[simp] theorem latchString_keeps {a s : State} (h : Keeps a s) (i : Nat) (cause : Nat) : Keeps a (latchString i cause s) := by
  unfold latchString; (repeat' split) <;> simp (maxDischargeDepth := 60) [h]

@[simp] theorem stringChecks_keeps {a s : State} (h : Keeps a s) (i : Nat) (x : LoopSlot) (had : Bool) : Keeps a (stringChecks i x had s) := by
  simp only [stringChecks]; (repeat' split) <;> simp (maxDischargeDepth := 60) [h]

@[simp] theorem ntcEntry_keeps {a s : State} (h : Keeps a s) (k : Nat) : Keeps a (ntcEntry k s) := by
  unfold ntcEntry; (repeat' split) <;> simp (maxDischargeDepth := 60) [h]

@[simp] theorem latchNtc_keeps {a s : State} (h : Keeps a s) (k : Nat) (cause : Nat) : Keeps a (latchNtc k cause s) := by
  unfold latchNtc; (repeat' split) <;> simp (maxDischargeDepth := 60) [h]

@[simp] theorem setCurrents_keeps {a s : State} (h : Keeps a s) (k : Nat) : Keeps a (setCurrents k s) := by
  unfold setCurrents; (repeat' split) <;> simp (maxDischargeDepth := 60) [h]

@[simp] theorem thermalSample_keeps {a s : State} (h : Keeps a s) (k : Nat) (x : LoopSlot) : Keeps a (thermalSample k x s) := by
  unfold thermalSample; (repeat' split) <;> simp (maxDischargeDepth := 60) [h]

@[simp] theorem countPairs_keeps {a s : State} (h : Keeps a s) (l : List (Nat × Nat)) : Keeps a (countPairs l s) := by
  unfold countPairs
  refine Keeps.foldl (fun s x => ?_) _ h
  split <;> simp

@[simp] theorem fastFired_keeps {a s : State} (h : Keeps a s) (before fired : List LoopSlot) : Keeps a (fastFired before fired s) := by
  unfold fastFired
  refine Keeps.foldl (fun s x => ?_) _ (by simp (maxDischargeDepth := 60) [h])
  dsimp only; (repeat' split) <;> simp (maxDischargeDepth := 60)

@[simp] theorem fastAnswered_keeps {a s : State} (h : Keeps a s) (before after : List LoopSlot) : Keeps a (fastAnswered before after s) := by
  unfold fastAnswered
  refine Keeps.foldl (fun s x => ?_) _ h
  (repeat' split) <;> simp (maxDischargeDepth := 60)

@[simp] theorem fastOwner_keeps {a s : State} (h : Keeps a s) (sense : List (Option Int)) (ntc : List Nat) (vbus : List Int) (x4 : Handle) : Keeps a (fastOwner sense ntc vbus s x4) := by
  unfold fastOwner; dsimp only; split
  · simp (maxDischargeDepth := 60) [h]
  · refine Keeps.foldl (fun s x => ?_) _ ?_
    · split <;> simp (maxDischargeDepth := 60)
    · simp (maxDischargeDepth := 60) [h]

theorem execFastSample_keeps {a s : State} (h : Keeps a s) (sense : List (Option Int)) (ntc : List Nat) (vbus : List Int) : KeepsAll a (execFastSample sense ntc vbus s) := by
  simp (maxDischargeDepth := 60) [execFastSample, h, Keeps.foldl]

theorem execDriveEntryReceive_keeps {a s : State} (h : Keeps a s) : KeepsAll a (execDriveEntryReceive s) := by
  simp only [execDriveEntryReceive]; (repeat' split) <;> simp (maxDischargeDepth := 60) [h, Keeps.foldl]

@[simp] theorem leaveFallback_keeps {a s : State} (h : Keeps a s) (l : LumRun) : Keeps a (leaveFallback l s) := by
  unfold leaveFallback; simp (maxDischargeDepth := 60) [h]

@[simp] theorem lumBoundary_keeps {a s : State} (h : Keeps a s) (l : LumRun) : Keeps a (lumBoundary l s) := by
  unfold lumBoundary
  dsimp only
  generalize (!vanaUnder s && _ : Bool) = c
  cases c <;> (repeat' split) <;> simp (maxDischargeDepth := 60) [h]

theorem execDriveTickMessage_keeps {a s : State} (h : Keeps a s) (ntc : List Nat) (vbus : List Int) : KeepsAll a (execDriveTickMessage ntc vbus s) := by
  unfold execDriveTickMessage
  split
  · simp [h]
  · refine keepsAll_next ?_
    refine driveEntry_keeps ?_ _ _
    refine Keeps.foldl (fun s k => ?_) _ ?_
    · (repeat' split) <;> simp
    refine Keeps.foldl (fun s k => ?_) _ ?_
    · (repeat' split) <;> simp
    refine Keeps.foldl (fun s l => lumBoundary_keeps (.refl s) l) _ ?_
    exact h.trans ⟨rfl, id⟩

theorem execLuminaireFallback_keeps {a s : State} (h : Keeps a s) (luminaire : Nat) : KeepsAll a (execLuminaireFallback luminaire s) := by
  unfold execLuminaireFallback; (repeat' split) <;> simp (maxDischargeDepth := 60) [h]

theorem execDimmingFrameStart_keeps {a s : State} (h : Keeps a s) : KeepsAll a (execDimmingFrameStart s) := by
  unfold execDimmingFrameStart; simp (maxDischargeDepth := 60) [h]

@[simp] theorem readback_keeps {a s : State} (h : Keeps a s) (i : Nat) (commanded : Bool) (pin : Bool) : Keeps a (readback i commanded pin s) := by
  simp only [readback]; (repeat' split) <;> simp (maxDischargeDepth := 60) [h]

theorem execSwitchingCycle_keeps {a s : State} (h : Keeps a s) (string : Nat) (subPeriod : Nat) (afterHigh : Bool) (afterLow : Bool) : KeepsAll a (execSwitchingCycle string subPeriod afterHigh afterLow s) := by
  unfold execSwitchingCycle; (repeat' split) <;> simp (maxDischargeDepth := 60) [h]

theorem execComparatorTrip_keeps {a s : State} (h : Keeps a s) (string : Nat) : KeepsAll a (execComparatorTrip string s) := by
  unfold execComparatorTrip; (repeat' split) <;> simp (maxDischargeDepth := 60) [h]

theorem execDriveControlArrival_keeps {a s : State} (h : Keeps a s) : KeepsAll a (execDriveControlArrival s) := by
  simp only [execDriveControlArrival]; (repeat' split) <;> simp (maxDischargeDepth := 60) [h, Keeps.foldl]

end Sys2Proof.Machine
end

