-- ==== Sys2Proof/Laws/Energy.lean ====
section
/-!
SUPPORT. Laws/Energy.lean: what each function of Machine/Energy.lean keeps (Safety.lean).
-/
namespace Sys2Proof.Machine

@[simp] theorem cmdBalanceRead_keeps {a s : State} (h : Keeps a s) (p : Packet) : Keeps a (cmdBalanceRead p s).1 := by
  unfold cmdBalanceRead; simp (maxDischargeDepth := 60) [h]

@[simp] theorem cmdHoldupResidueRead_keeps {a s : State} (h : Keeps a s) (x1 : Packet) : Keeps a (cmdHoldupResidueRead x1 s).1 := by
  unfold cmdHoldupResidueRead; simp (maxDischargeDepth := 60) [h]

@[simp] theorem cmdEnergyRead_keeps {a s : State} (h : Keeps a s) (p : Packet) : Keeps a (cmdEnergyRead p s).1 := by
  unfold cmdEnergyRead; (repeat' split) <;> simp (maxDischargeDepth := 60) [h]

@[simp] theorem cmdIntervalRead_keeps {a s : State} (h : Keeps a s) (p : Packet) : Keeps a (cmdIntervalRead p s).1 := by
  simp only [cmdIntervalRead]; (repeat' split) <;> simp (maxDischargeDepth := 60) [h]

theorem execEnergyRead_keeps {a s : State} (h : Keeps a s) (p : Packet) : KeepsAll a (execEnergyRead p s) := by
  unfold execEnergyRead; simp (maxDischargeDepth := 60) [h]

theorem execIntervalConfig_keeps {a s : State} (h : Keeps a s) (p : Packet) : KeepsAll a (execIntervalConfig p s) := by
  unfold execIntervalConfig; simp (maxDischargeDepth := 60) [h]

theorem execIntervalRead_keeps {a s : State} (h : Keeps a s) (p : Packet) : KeepsAll a (execIntervalRead p s) := by
  unfold execIntervalRead; simp (maxDischargeDepth := 60) [h]

theorem execPulseOutConfig_keeps {a s : State} (h : Keeps a s) (p : Packet) : KeepsAll a (execPulseOutConfig p s) := by
  unfold execPulseOutConfig; simp (maxDischargeDepth := 60) [h]

theorem execPulseInConfig_keeps {a s : State} (h : Keeps a s) (p : Packet) : KeepsAll a (execPulseInConfig p s) := by
  unfold execPulseInConfig; simp (maxDischargeDepth := 60) [h]

theorem execBalanceRead_keeps {a s : State} (h : Keeps a s) (p : Packet) : KeepsAll a (execBalanceRead p s) := by
  unfold execBalanceRead; simp (maxDischargeDepth := 60) [h]

theorem execHoldupResidueRead_keeps {a s : State} (h : Keeps a s) (p : Packet) : KeepsAll a (execHoldupResidueRead p s) := by
  unfold execHoldupResidueRead; simp (maxDischargeDepth := 60) [h]

@[simp] theorem modOut_keeps {a s : State} (h : Keeps a s) (o : Nat) (f : PulseOut → PulseOut) : Keeps a (modOut o f s) := by
  unfold modOut; simp (maxDischargeDepth := 60) [h]

theorem execPulseOutEdge_keeps {a s : State} (h : Keeps a s) (output : Nat) : KeepsAll a (execPulseOutEdge output s) := by
  unfold execPulseOutEdge; (repeat' split) <;> simp (maxDischargeDepth := 60) [h]

theorem execPulseOutEnd_keeps {a s : State} (h : Keeps a s) (output : Nat) : KeepsAll a (execPulseOutEnd output s) := by
  unfold execPulseOutEnd; simp (maxDischargeDepth := 60) [h]

theorem execPulseBacklogAged_keeps {a s : State} (h : Keeps a s) (output : Nat) : KeepsAll a (execPulseBacklogAged output s) := by
  unfold execPulseBacklogAged; (repeat' split) <;> simp (maxDischargeDepth := 60) [h]

@[simp] theorem modIn_keeps {a s : State} (h : Keeps a s) (i : Nat) (f : PulseIn → PulseIn) : Keeps a (modIn i f s) := by
  unfold modIn; simp (maxDischargeDepth := 60) [h]

theorem execPulseInLevelAccept_keeps {a s : State} (h : Keeps a s) (input : Nat) (level : Bool) (heldMs : Nat) : KeepsAll a (execPulseInLevelAccept input level heldMs s) := by
  unfold execPulseInLevelAccept; (repeat' split) <;> simp (maxDischargeDepth := 60) [h]

theorem execIntervalClose_keeps {a s : State} (h : Keeps a s) (circuit : Nat) : KeepsAll a (execIntervalClose circuit s) := by
  unfold execIntervalClose; simp (maxDischargeDepth := 60) [h]

theorem execBalanceClose_keeps {a s : State} (h : Keeps a s) (circuit : Nat) : KeepsAll a (execBalanceClose circuit s) := by
  unfold execBalanceClose; simp (maxDischargeDepth := 60) [h]

end Sys2Proof.Machine
end

