-- ==== Sys2Proof/Laws/Radio.lean ====
section
/-!
SUPPORT. Laws/Radio.lean: what each function of Machine/Radio.lean keeps (Safety.lean).
-/
namespace Sys2Proof.Machine

@[simp] theorem modSeq_keeps {a s : State} (h : Keeps a s) (r : Nat) (f : Sequencer → Sequencer) : Keeps a (modSeq r f s) := by
  unfold modSeq; simp (maxDischargeDepth := 60) [h]

@[simp] theorem cmdRegulatoryStatus_keeps {a s : State} (h : Keeps a s) (x1 : Packet) : Keeps a (cmdRegulatoryStatus x1 s).1 := by
  unfold cmdRegulatoryStatus; simp (maxDischargeDepth := 60) [h]

@[simp] theorem cmdRadioStatus_keeps {a s : State} (h : Keeps a s) (p : Packet) : Keeps a (cmdRadioStatus p s).1 := by
  unfold cmdRadioStatus; simp (maxDischargeDepth := 60) [h]

theorem execRadioConfig_keeps {a s : State} (h : Keeps a s) (p : Packet) : KeepsAll a (execRadioConfig p s) := by
  unfold execRadioConfig; simp (maxDischargeDepth := 60) [h]

theorem execSlotPlanSet_keeps {a s : State} (h : Keeps a s) (p : Packet) : KeepsAll a (execSlotPlanSet p s) := by
  unfold execSlotPlanSet; simp (maxDischargeDepth := 60) [h]

theorem execHopSet_keeps {a s : State} (h : Keeps a s) (p : Packet) : KeepsAll a (execHopSet p s) := by
  unfold execHopSet; simp (maxDischargeDepth := 60) [h]

theorem execRadioStatus_keeps {a s : State} (h : Keeps a s) (p : Packet) : KeepsAll a (execRadioStatus p s) := by
  unfold execRadioStatus; simp (maxDischargeDepth := 60) [h]

theorem execRegulatoryStatus_keeps {a s : State} (h : Keeps a s) (p : Packet) : KeepsAll a (execRegulatoryStatus p s) := by
  unfold execRegulatoryStatus; simp (maxDischargeDepth := 60) [h]

theorem execTxPowerSet_keeps {a s : State} (h : Keeps a s) (p : Packet) : KeepsAll a (execTxPowerSet p s) := by
  unfold execTxPowerSet; simp (maxDischargeDepth := 60) [h]

end Sys2Proof.Machine
end

