-- ==== Sys2Proof/Laws/Partners.lean ====
section
/-!
SUPPORT. Laws/Partners.lean: what each function of Machine/Partners.lean keeps (Safety.lean).
-/
namespace Sys2Proof.Machine

@[simp] theorem cmdPartnerStatus_keeps {a s : State} (h : Keeps a s) (p : Packet) : Keeps a (cmdPartnerStatus p s).1 := by
  unfold cmdPartnerStatus; simp (maxDischargeDepth := 60) [h]

@[simp] theorem cmdFaultList_keeps {a s : State} (h : Keeps a s) (p : Packet) : Keeps a (cmdFaultList p s).1 := by
  unfold cmdFaultList; simp (maxDischargeDepth := 60) [h]

theorem execPartnerStatus_keeps {a s : State} (h : Keeps a s) (p : Packet) : KeepsAll a (execPartnerStatus p s) := by
  unfold execPartnerStatus; simp (maxDischargeDepth := 60) [h]

theorem execPartnerSlotAssign_keeps {a s : State} (h : Keeps a s) (p : Packet) : KeepsAll a (execPartnerSlotAssign p s) := by
  unfold execPartnerSlotAssign; simp (maxDischargeDepth := 60) [h]

theorem execFaultList_keeps {a s : State} (h : Keeps a s) (p : Packet) : KeepsAll a (execFaultList p s) := by
  unfold execFaultList; simp (maxDischargeDepth := 60) [h]

theorem execFaultAck_keeps {a s : State} (h : Keeps a s) (p : Packet) : KeepsAll a (execFaultAck p s) := by
  unfold execFaultAck; simp (maxDischargeDepth := 60) [h]

theorem execOccurrenceMissed_keeps {a s : State} (h : Keeps a s) (partner : Nat) (index : Nat) : KeepsAll a (execOccurrenceMissed partner index s) := by
  unfold execOccurrenceMissed; (repeat' split) <;> simp (maxDischargeDepth := 60) [h]

theorem execPrimaryReturnMove_keeps {a s : State} (h : Keeps a s) (partner : Nat) : KeepsAll a (execPrimaryReturnMove partner s) := by
  unfold execPrimaryReturnMove; simp (maxDischargeDepth := 60) [h]

theorem execFaultMeterTest_keeps {a s : State} (h : Keeps a s) (record : Nat) : KeepsAll a (execFaultMeterTest record s) := by
  unfold execFaultMeterTest; simp (maxDischargeDepth := 60) [h]

end Sys2Proof.Machine
end

