-- ==== Sys2Proof/Laws/Session.lean ====
section
/-!
SUPPORT. Laws/Session.lean: what each function of Machine/Session.lean keeps (Safety.lean).
-/
namespace Sys2Proof.Machine

@[simp] theorem setStreamer_keeps {a s : State} (h : Keeps a s) (x : Streamer) : Keeps a (setStreamer x s) := by
  unfold setStreamer; simp (maxDischargeDepth := 60) [h]

@[simp] theorem sessionProgress_keeps {a s : State} (h : Keeps a s) : Keeps a (sessionProgress s) := by
  unfold sessionProgress; (repeat' (first | split | refine Keeps.foldl (fun s x => ?_) _ ?_ | refine Keeps.foldlFst (fun s x => ?_) _ ?_ | dsimp only)) <;> simp (maxDischargeDepth := 60) [h]

@[simp] theorem cmdSessionImageLoad_keeps {a s : State} (h : Keeps a s) (p : Packet) : Keeps a (cmdSessionImageLoad p s).1 := by
  unfold cmdSessionImageLoad; (repeat' split) <;> simp (maxDischargeDepth := 60) [h]

@[simp] theorem cmdSessionStatus_keeps {a s : State} (h : Keeps a s) (p : Packet) : Keeps a (cmdSessionStatus p s).1 := by
  unfold cmdSessionStatus; (repeat' split) <;> simp (maxDischargeDepth := 60) [h]

theorem execSessionConfig_keeps {a s : State} (h : Keeps a s) (p : Packet) : KeepsAll a (execSessionConfig p s) := by
  unfold execSessionConfig; simp (maxDischargeDepth := 60) [h]

theorem execSessionImageLoad_keeps {a s : State} (h : Keeps a s) (p : Packet) : KeepsAll a (execSessionImageLoad p s) := by
  unfold execSessionImageLoad; simp (maxDischargeDepth := 60) [h]

theorem execSessionStatus_keeps {a s : State} (h : Keeps a s) (p : Packet) : KeepsAll a (execSessionStatus p s) := by
  unfold execSessionStatus; simp (maxDischargeDepth := 60) [h]

theorem execSessionAbort_keeps {a s : State} (h : Keeps a s) (p : Packet) : KeepsAll a (execSessionAbort p s) := by
  unfold execSessionAbort; simp (maxDischargeDepth := 60) [h]

theorem execSessionDurationExpiry_keeps {a s : State} (h : Keeps a s) (session : Handle) : KeepsAll a (execSessionDurationExpiry session s) := by
  unfold execSessionDurationExpiry; (repeat' split) <;> simp (maxDischargeDepth := 60) [h]

end Sys2Proof.Machine
end

