-- ==== Sys2Proof/Laws/Air.lean ====
section
/-!
SUPPORT. Laws/Air.lean: what each function of Machine/Air.lean keeps (Safety.lean).
-/
namespace Sys2Proof.Machine

@[simp] theorem refuseFixed_keeps {a s : State} (h : Keeps a s) (r : Nat) (slot : Nat) : Keeps a (refuseFixed r slot s) := by
  unfold refuseFixed; simp (maxDischargeDepth := 60) [h]

@[simp] theorem putOnAir_keeps {a s : State} (h : Keeps a s) (r : Nat) (slot : Nat) (fixed : Bool) (psdu : Nat) (key : Nat) (power : Int) (payload : List Byte) : Keeps a (putOnAir r slot fixed psdu key power payload s) := by
  unfold putOnAir; simp (maxDischargeDepth := 60) [h]

@[simp] theorem sendFixed_keeps {a s : State} (h : Keeps a s) (r : Nat) (slot : Nat) (psdu : Nat) (key : Nat) (power : Int) (payload : List Byte) (e : Nat) : Keeps a (sendFixed r slot psdu key power payload e s).1 := by
  unfold sendFixed; simp (maxDischargeDepth := 60) [h]

@[simp] theorem sendAck_keeps {a s : State} (h : Keeps a s) (r : Nat) (slot : Nat) (nack : Bool) (f : AirFrame) : Keeps a (sendAck r slot nack f s).1 := by
  unfold sendAck; simp (maxDischargeDepth := 60) [h]

@[simp] theorem airEntry_keeps {a s : State} (h : Keeps a s) (r : Nat) (kind : Nat) (b : List Byte) : Keeps a (airEntry r kind b s) := by
  unfold airEntry; simp (maxDischargeDepth := 60) [h]

@[simp] theorem acceptFrame_keeps {a s : State} (h : Keeps a s) (r : Nat) (slot : Nat) (mini : Nat) (ack : Bool) (f : AirFrame) : Keeps a (acceptFrame r slot mini ack f s) := by
  unfold acceptFrame; simp (maxDischargeDepth := 60) [h]

@[simp] theorem finishDown_keeps {a s : State} (h : Keeps a s) (r : Nat) (result : Nat) (f : DownFrame) : Keeps a (finishDown r result f s) := by
  unfold finishDown; simp (maxDischargeDepth := 60) [h]

@[simp] theorem restartGroup_keeps {a s : State} (h : Keeps a s) (g : Nat) : Keeps a (restartGroup g s) := by
  simp (maxDischargeDepth := 60) [restartGroup, h, Keeps.foldl]

@[simp] theorem dropFrame_keeps {a s : State} (h : Keeps a s) (r : Nat) (e : Nat) : Keeps a (dropFrame r e s) := by
  unfold dropFrame; simp (maxDischargeDepth := 60) [h]

@[simp] theorem standbySlot_keeps {a s : State} (h : Keeps a s) (r : Nat) (slot : Nat) : Keeps a (standbySlot r slot s) := by
  unfold standbySlot; simp (maxDischargeDepth := 60) [h]

@[simp] theorem sendField_keeps {a s : State} (h : Keeps a s) (r : Nat) (slot : Nat) : Keeps a (sendField r slot s) := by
  unfold sendField; simp (maxDischargeDepth := 60) [h]

@[simp] theorem sendDownlink_keeps {a s : State} (h : Keeps a s) (r : Nat) (slot : Nat) : Keeps a (sendDownlink r slot s) := by
  simp only [sendDownlink]; (repeat' split) <;> simp (maxDischargeDepth := 60) [h]

@[simp] theorem sendBulk_keeps {a s : State} (h : Keeps a s) (r : Nat) (slot : Nat) : Keeps a (sendBulk r slot s) := by
  simp only [sendBulk]; (repeat' split) <;> simp (maxDischargeDepth := 60) [h]

theorem execSlotStart_keeps {a s : State} (h : Keeps a s) (radio : Nat) (slot : Nat) (sfdNs : Nat) : KeepsAll a (execSlotStart radio slot sfdNs s) := by
  simp only [execSlotStart]; (repeat' split) <;> simp (maxDischargeDepth := 60) [h]

theorem execRadioAlertExpiry_keeps {a s : State} (h : Keeps a s) (radio : Nat) : KeepsAll a (execRadioAlertExpiry radio s) := by
  unfold execRadioAlertExpiry; (repeat' split) <;> simp (maxDischargeDepth := 60) [h]

@[simp] theorem hearBeacon_keeps {a s : State} (h : Keeps a s) (f : AirFrame) : Keeps a (hearBeacon f s) := by
  unfold hearBeacon; simp (maxDischargeDepth := 60) [h]

@[simp] theorem missAck_keeps {a s : State} (h : Keeps a s) (r : Nat) (ref : Nat) : Keeps a (missAck r ref s) := by
  simp only [missAck]; (repeat' split) <;> simp (maxDischargeDepth := 60) [h]

@[simp] theorem rxOverflow_keeps {a s : State} (h : Keeps a s) (r : Nat) (slot : Nat) (ack : Bool) (f : AirFrame) : Keeps a (rxOverflow r slot ack f s) := by
  unfold rxOverflow; simp (maxDischargeDepth := 60) [h]

theorem execFrameReceive_keeps {a s : State} (h : Keeps a s) (radio : Nat) (slot : Nat) (mini : Nat) (f : AirFrame) : KeepsAll a (execFrameReceive radio slot mini f s) := by
  simp only [execFrameReceive]; (repeat' split) <;> simp (maxDischargeDepth := 60) [h]

theorem execReceiveWindowTimeout_keeps {a s : State} (h : Keeps a s) (radio : Nat) (slot : Nat) (mini : Nat) : KeepsAll a (execReceiveWindowTimeout radio slot mini s) := by
  simp only [execReceiveWindowTimeout]; (repeat' split) <;> simp (maxDischargeDepth := 60) [h]

theorem execDownlinkAgeTimeout_keeps {a s : State} (h : Keeps a s) (radio : Nat) (ref : Nat) : KeepsAll a (execDownlinkAgeTimeout radio ref s) := by
  unfold execDownlinkAgeTimeout; (repeat' split) <;> simp (maxDischargeDepth := 60) [h]

@[simp] theorem radioStateEntry_keeps {a s : State} (h : Keeps a s) (r : Nat) (st : Nat) (cause : Nat) : Keeps a (radioStateEntry r st cause s) := by
  unfold radioStateEntry; simp (maxDischargeDepth := 60) [h]

theorem execChangeInstant_keeps {a s : State} (h : Keeps a s) (radio : Nat) : KeepsAll a (execChangeInstant radio s) := by
  simp only [execChangeInstant]; (repeat' split) <;> simp (maxDischargeDepth := 60) [h]

theorem execRadioFail_keeps {a s : State} (h : Keeps a s) (radio : Nat) (cause : Nat) : KeepsAll a (execRadioFail radio cause s) := by
  unfold execRadioFail; simp (maxDischargeDepth := 60) [h]

@[simp] theorem groupRestarted_keeps {a s : State} (h : Keeps a s) (g : Nat) : Keeps a (groupRestarted g s) := by
  unfold groupRestarted; simp (maxDischargeDepth := 60) [h]

@[simp] theorem radioThermal_keeps {a s : State} (h : Keeps a s) (temp : Int) : Keeps a (radioThermal temp s) := by
  simp (maxDischargeDepth := 60) [radioThermal, h, Keeps.foldl]

end Sys2Proof.Machine
end

