-- ==== Sys2Proof/Laws/Packets.lean ====
section
/-!
SUPPORT. Laws/Packets.lean: what each function of Machine/Packets.lean keeps (Safety.lean).
-/
namespace Sys2Proof.Machine

@[simp] theorem cmdDeviceInfo_keeps {a s : State} (h : Keeps a s) (x1 : Packet) : Keeps a (cmdDeviceInfo x1 s).1 := by
  unfold cmdDeviceInfo; simp (maxDischargeDepth := 60) [h]

@[simp] theorem useSlot_keeps {a s : State} (h : Keeps a s) (slot : Nat) : Keeps a (useSlot slot s) := by
  unfold useSlot; simp (maxDischargeDepth := 60) [h]

@[simp] theorem cmdRemoteCfgGet_keeps {a s : State} (h : Keeps a s) (x1 : Packet) : Keeps a (cmdRemoteCfgGet x1 s).1 := by
  unfold cmdRemoteCfgGet; simp (maxDischargeDepth := 60) [h]

@[simp] theorem cmdRemoteCfgSet_keeps {a s : State} (h : Keeps a s) (p : Packet) : Keeps a (cmdRemoteCfgSet p s).1 := by
  unfold cmdRemoteCfgSet; simp (maxDischargeDepth := 60) [h]

@[simp] theorem cmdMailboxBindSet_keeps {a s : State} (h : Keeps a s) (p : Packet) : Keeps a (cmdMailboxBindSet p s).1 := by
  unfold cmdMailboxBindSet; simp (maxDischargeDepth := 60) [h]

@[simp] theorem cmdEcho_keeps {a s : State} (h : Keeps a s) (p : Packet) : Keeps a (cmdEcho p s).1 := by
  unfold cmdEcho; simp (maxDischargeDepth := 60) [h]

@[simp] theorem cmdRankGet_keeps {a s : State} (h : Keeps a s) (x1 : Packet) : Keeps a (cmdRankGet x1 s).1 := by
  unfold cmdRankGet; simp (maxDischargeDepth := 60) [h]

@[simp] theorem cmdMailboxBindGet_keeps {a s : State} (h : Keeps a s) (x1 : Packet) : Keeps a (cmdMailboxBindGet x1 s).1 := by
  unfold cmdMailboxBindGet; simp (maxDischargeDepth := 60) [h]

@[simp] theorem drainRemote_keeps {a s : State} (h : Keeps a s) : Keeps a (drainRemote s) := by
  unfold drainRemote; (repeat' split) <;> simp (maxDischargeDepth := 60) [h]

@[simp] theorem closeFlight_keeps {a s : State} (h : Keeps a s) (path : Path) (tag : Nat) : Keeps a (closeFlight path tag s) := by
  unfold closeFlight; simp (maxDischargeDepth := 60) [h]

theorem execDeviceInfo_keeps {a s : State} (h : Keeps a s) (p : Packet) : KeepsAll a (execDeviceInfo p s) := by
  unfold execDeviceInfo; simp (maxDischargeDepth := 60) [h]

theorem execEcho_keeps {a s : State} (h : Keeps a s) (p : Packet) : KeepsAll a (execEcho p s) := by
  unfold execEcho; simp (maxDischargeDepth := 60) [h]

theorem execRankGet_keeps {a s : State} (h : Keeps a s) (p : Packet) : KeepsAll a (execRankGet p s) := by
  unfold execRankGet; simp (maxDischargeDepth := 60) [h]

theorem execRankSet_keeps {a s : State} (h : Keeps a s) (p : Packet) : KeepsAll a (execRankSet p s) := by
  unfold execRankSet; simp (maxDischargeDepth := 60) [h]

theorem execMailboxBindGet_keeps {a s : State} (h : Keeps a s) (p : Packet) : KeepsAll a (execMailboxBindGet p s) := by
  unfold execMailboxBindGet; simp (maxDischargeDepth := 60) [h]

theorem execMailboxBindSet_keeps {a s : State} (h : Keeps a s) (p : Packet) : KeepsAll a (execMailboxBindSet p s) := by
  unfold execMailboxBindSet; simp (maxDischargeDepth := 60) [h]

theorem execRemoteCfgGet_keeps {a s : State} (h : Keeps a s) (p : Packet) : KeepsAll a (execRemoteCfgGet p s) := by
  unfold execRemoteCfgGet; simp (maxDischargeDepth := 60) [h]

theorem execRemoteCfgSet_keeps {a s : State} (h : Keeps a s) (p : Packet) : KeepsAll a (execRemoteCfgSet p s) := by
  unfold execRemoteCfgSet; simp (maxDischargeDepth := 60) [h]

theorem execIntakeTimeout_keeps {a s : State} (h : Keeps a s) (path : Path) (tag : Nat) : KeepsAll a (execIntakeTimeout path tag s) := by
  unfold execIntakeTimeout; (repeat' split) <;> simp (maxDischargeDepth := 60) [h]

@[simp] theorem remoteFail_keeps {a s : State} (h : Keeps a s) (src : Nat) (slot : Nat) : Keeps a (remoteFail src slot s) := by
  unfold remoteFail; simp (maxDischargeDepth := 60) [h]

@[simp] theorem remotePacket_keeps {a s : State} (h : Keeps a s) (p : Packet) : Keeps a (remotePacket p s) := by
  unfold remotePacket; (repeat' split) <;> simp (maxDischargeDepth := 60) [h]

theorem execRemoteDatagram_keeps {a s : State} (h : Keeps a s) (port : Nat) (addr : Nat) (udp : Nat) (dest : Nat) (b : List Byte) : KeepsAll a (execRemoteDatagram port addr udp dest b s) := by
  simp only [execRemoteDatagram]; (repeat' split) <;> simp (maxDischargeDepth := 60) [h]

@[simp] theorem recordFailures_keeps {a s : State} (h : Keeps a s) : Keeps a (recordFailures s) := by
  simp (maxDischargeDepth := 60) [recordFailures, h, Keeps.foldl]

end Sys2Proof.Machine
end

