-- ==== Sys2Proof/Laws/Streams.lean ====
section
/-!
SUPPORT. Laws/Streams.lean: what each function of Machine/Streams.lean keeps (Safety.lean).
-/
namespace Sys2Proof.Machine

@[simp] theorem cmdStreamCredit_keeps {a s : State} (h : Keeps a s) (p : Packet) : Keeps a (cmdStreamCredit p s).1 := by
  unfold cmdStreamCredit; (repeat' split) <;> simp (maxDischargeDepth := 60) [h]

@[simp] theorem cmdStreamStatus_keeps {a s : State} (h : Keeps a s) (p : Packet) : Keeps a (cmdStreamStatus p s).1 := by
  unfold cmdStreamStatus; simp (maxDischargeDepth := 60) [h]

@[simp] theorem readSpill_keeps {a s : State} (h : Keeps a s) (x1 : Handle) (n : Nat) (r : StreamRun) : Keeps a (readSpill x1 n r s).2 := by
  induction n generalizing r s with
  | zero => exact h
  | succ n ih =>
    simp only [readSpill]
    split
    · exact h
    · exact ih (by simp (maxDischargeDepth := 60) [h]) _

@[simp] theorem formMessage_keeps {a s : State} (h : Keeps a s) (x1 : Handle) (r : StreamRun) : Keeps a (formMessage x1 r s).1 := by
  simp (maxDischargeDepth := 60) [formMessage, h, Keeps.foldl]

@[simp] theorem cmdStreamRead_keeps {a s : State} (h : Keeps a s) (p : Packet) : Keeps a (cmdStreamRead p s).1 := by
  simp only [cmdStreamRead]; (repeat' split) <;> simp (maxDischargeDepth := 60) [h]

@[simp] theorem addItem_keeps {a s : State} (h : Keeps a s) (cfg : StreamCfg) (slot : Nat) (tick : Nat) (sel : Nat) (b : List Byte) : Keeps a (addItem cfg slot tick sel b s) := by
  unfold addItem; (repeat' split) <;> simp (maxDischargeDepth := 60) [h]

@[simp] theorem syncStreams_keeps {a s : State} (h : Keeps a s) (old : Ordered) (new : Ordered) : Keeps a (syncStreams old new s) := by
  unfold syncStreams; simp (maxDischargeDepth := 60) [h]

@[simp] theorem dropStreamItem_keeps {a s : State} (h : Keeps a s) (x1 : Handle) (num : Nat) : Keeps a (dropStreamItem x1 num s) := by
  unfold dropStreamItem; (repeat' split) <;> simp (maxDischargeDepth := 60) [h]

theorem execStreamConfig_keeps {a s : State} (h : Keeps a s) (p : Packet) : KeepsAll a (execStreamConfig p s) := by
  unfold execStreamConfig; simp (maxDischargeDepth := 60) [h]

theorem execStreamCredit_keeps {a s : State} (h : Keeps a s) (p : Packet) : KeepsAll a (execStreamCredit p s) := by
  unfold execStreamCredit; simp (maxDischargeDepth := 60) [h]

theorem execStreamRead_keeps {a s : State} (h : Keeps a s) (p : Packet) : KeepsAll a (execStreamRead p s) := by
  unfold execStreamRead; simp (maxDischargeDepth := 60) [h]

theorem execStreamStatus_keeps {a s : State} (h : Keeps a s) (p : Packet) : KeepsAll a (execStreamStatus p s) := by
  unfold execStreamStatus; simp (maxDischargeDepth := 60) [h]

@[simp] theorem produceFor_keeps {a s : State} (h : Keeps a s) (o : Ordered) (tick : Nat) (items : List (Nat × Nat × List Byte)) (ch : Channel) : Keeps a (produceFor o tick items ch s) := by
  unfold produceFor; (repeat' (first | split | refine Keeps.foldl (fun s x => ?_) _ ?_ | refine Keeps.foldlFst (fun s x => ?_) _ ?_ | dsimp only)) <;> simp (maxDischargeDepth := 60) [h]

@[simp] theorem produce_keeps {a s : State} (h : Keeps a s) (o : Ordered) (tick : Nat) (items : List (Nat × Nat × List Byte)) : Keeps a (produce o tick items s) := by
  simp (maxDischargeDepth := 60) [produce, h, Keeps.foldl]

@[simp] theorem pushMessage_keeps {a s : State} (h : Keeps a s) (x1 : Handle) (cfg : StreamCfg) (m : StreamMsg) : Keeps a (pushMessage x1 cfg m s) := by
  unfold pushMessage; simp (maxDischargeDepth := 60) [h]

theorem execStreamMessageSend_keeps {a s : State} (h : Keeps a s) (stream : Handle) : KeepsAll a (execStreamMessageSend stream s) := by
  unfold execStreamMessageSend; (repeat' split) <;> simp (maxDischargeDepth := 60) [h]

theorem execStreamResend_keeps {a s : State} (h : Keeps a s) (stream : Handle) (message : Nat) : KeepsAll a (execStreamResend stream message s) := by
  unfold execStreamResend; (repeat' split) <;> simp (maxDischargeDepth := 60) [h]

end Sys2Proof.Machine
end

