-- ==== Sys2Proof/Laws/Store.lean ====
section
/-!
SUPPORT. Laws/Store.lean: what each function of Machine/Store.lean keeps (Safety.lean).
-/
namespace Sys2Proof.Machine

@[simp] theorem cmdStoreStatus_keeps {a s : State} (h : Keeps a s) (p : Packet) : Keeps a (cmdStoreStatus p s).1 := by
  unfold cmdStoreStatus; simp (maxDischargeDepth := 60) [h]

@[simp] theorem cmdPrunerConfig_keeps {a s : State} (h : Keeps a s) (p : Packet) : Keeps a (cmdPrunerConfig p s).1 := by
  unfold cmdPrunerConfig; simp (maxDischargeDepth := 60) [h]

@[simp] theorem cmdRegionList_keeps {a s : State} (h : Keeps a s) (p : Packet) : Keeps a (cmdRegionList p s).1 := by
  unfold cmdRegionList; simp (maxDischargeDepth := 60) [h]

@[simp] theorem queueEvacuation_keeps {a s : State} (h : Keeps a s) (r : Nat) (cause : Nat) : Keeps a (queueEvacuation r cause s) := by
  unfold queueEvacuation; simp (maxDischargeDepth := 60) [h]

@[simp] theorem cmdRegionRetire_keeps {a s : State} (h : Keeps a s) (p : Packet) : Keeps a (cmdRegionRetire p s).1 := by
  unfold cmdRegionRetire; simp (maxDischargeDepth := 60) [h]

@[simp] theorem freeRegions_keeps {a s : State} (h : Keeps a s) (x1 : Handle) : Keeps a (freeRegions x1 s) := by
  unfold freeRegions; simp (maxDischargeDepth := 60) [h]

@[simp] theorem modRegion_keeps {a s : State} (h : Keeps a s) (r : Nat) (f : Region → Region) : Keeps a (modRegion r f s) := by
  unfold modRegion; simp (maxDischargeDepth := 60) [h]

@[simp] theorem allocRegion_keeps {a s : State} (h : Keeps a s) (x1 : Handle) : Keeps a (allocRegion x1 s).1 := by
  unfold allocRegion; (repeat' split) <;> simp (maxDischargeDepth := 60) [h]

@[simp] theorem badSlot_keeps {a s : State} (h : Keeps a s) (slot : Nat) (cause : Nat) : Keeps a (badSlot slot cause s) := by
  unfold badSlot; simp (maxDischargeDepth := 60) [h]

@[simp] theorem latchStore_keeps {a s : State} (h : Keeps a s) (k : Nat) : Keeps a (latchStore k s) := by
  unfold latchStore; simp (maxDischargeDepth := 60) [h]

@[simp] theorem correctedWord_keeps {a s : State} (h : Keeps a s) (region : Nat) : Keeps a (correctedWord region s) := by
  simp only [correctedWord]; (repeat' split) <;> simp (maxDischargeDepth := 60) [h]

theorem execStoreStatus_keeps {a s : State} (h : Keeps a s) (p : Packet) : KeepsAll a (execStoreStatus p s) := by
  unfold execStoreStatus; simp (maxDischargeDepth := 60) [h]

theorem execRegionList_keeps {a s : State} (h : Keeps a s) (p : Packet) : KeepsAll a (execRegionList p s) := by
  unfold execRegionList; simp (maxDischargeDepth := 60) [h]

theorem execPrunerConfig_keeps {a s : State} (h : Keeps a s) (p : Packet) : KeepsAll a (execPrunerConfig p s) := by
  unfold execPrunerConfig; simp (maxDischargeDepth := 60) [h]

theorem execRegionRetire_keeps {a s : State} (h : Keeps a s) (p : Packet) : KeepsAll a (execRegionRetire p s) := by
  unfold execRegionRetire; simp (maxDischargeDepth := 60) [h]

@[simp] theorem switchLodge_keeps {a s : State} (h : Keeps a s) (l : Lodge) : Keeps a (switchLodge l s) := by
  unfold switchLodge; (repeat' split) <;> simp (maxDischargeDepth := 60) [h]

@[simp] theorem queueRebuild_keeps {a s : State} (h : Keeps a s) (x1 : Handle) : Keeps a (queueRebuild x1 s) := by
  unfold queueRebuild; simp (maxDischargeDepth := 60) [h]

@[simp] theorem taintOwner_keeps {a s : State} (h : Keeps a s) (x1 : Handle) : Keeps a (taintOwner x1 s) := by
  simp only [taintOwner]; (repeat' split) <;> simp (maxDischargeDepth := 60) [h]

@[simp] theorem ownerAction_keeps {a s : State} (h : Keeps a s) (o : StoreOwner) : Keeps a (ownerAction o s) := by
  unfold ownerAction; (repeat' split) <;> simp (maxDischargeDepth := 60) [h]

@[simp] theorem findingRecord_keeps {a s : State} (h : Keeps a s) (region : Nat) (word : Nat) (finder : Nat) (o : StoreOwner) : Keeps a (findingRecord region word finder o s) := by
  unfold findingRecord; simp (maxDischargeDepth := 60) [h]

@[simp] theorem readerTainted_keeps {a s : State} (h : Keeps a s) (o : StoreOwner) : Keeps a (readerTainted o s) := by
  unfold readerTainted; (repeat' split) <;> simp (maxDischargeDepth := 60) [h]

@[simp] theorem readFinding_keeps {a s : State} (h : Keeps a s) (region : Nat) (word : Nat) (finder : Nat) (o : StoreOwner) : Keeps a (readFinding region word finder o s) := by
  simp only [readFinding]; (repeat' split) <;> simp (maxDischargeDepth := 60) [h]

@[simp] theorem logFault_keeps {a s : State} (h : Keeps a s) (x : LogPart) : Keeps a (logFault x s) := by
  unfold logFault; (repeat' split) <;> simp (maxDischargeDepth := 60) [h]

@[simp] theorem storeEvent_keeps {a s : State} (h : Keeps a s) (e : StoreEvent) : Keeps a (storeEvent e s) := by
  unfold storeEvent; (repeat' split) <;> simp (maxDischargeDepth := 60) [h]

@[simp] theorem finding_keeps {a s : State} (h : Keeps a s) (region : Nat) (word : Nat) (finder : Nat) (o : StoreOwner) : Keeps a (finding region word finder o s) := by
  unfold finding; simp (maxDischargeDepth := 60) [h]

theorem execDataMoveComplete_keeps {a s : State} (h : Keeps a s) (slot : Nat) (damaged : List Nat) : KeepsAll a (execDataMoveComplete slot damaged s) := by
  simp only [execDataMoveComplete]; (repeat' split) <;> simp (maxDischargeDepth := 60) [h, Keeps.foldl]

@[simp] theorem prunerAdvance_keeps {a s : State} (h : Keeps a s) : Keeps a (prunerAdvance s) := by
  unfold prunerAdvance; (repeat' split) <;> simp (maxDischargeDepth := 60) [h]

@[simp] theorem prunerWord_keeps {a s : State} (h : Keeps a s) (region : Nat) (word : Nat) (code : Nat) (o : StoreOwner) : Keeps a (prunerWord region word code o s) := by
  unfold prunerWord; (repeat' split) <;> simp (maxDischargeDepth := 60) [h]

theorem execPrunerBurst_keeps {a s : State} (h : Keeps a s) (words : List Nat) (owner : StoreOwner) : KeepsAll a (execPrunerBurst words owner s) := by
  simp (maxDischargeDepth := 60) [execPrunerBurst, h, Keeps.foldl]

theorem execEvacuationStart_keeps {a s : State} (h : Keeps a s) : KeepsAll a (execEvacuationStart s) := by
  unfold execEvacuationStart; (repeat' split) <;> simp (maxDischargeDepth := 60) [h]

theorem execEvacuationComplete_keeps {a s : State} (h : Keeps a s) : KeepsAll a (execEvacuationComplete s) := by
  unfold execEvacuationComplete; (repeat' split) <;> simp (maxDischargeDepth := 60) [h]

theorem execRegionTestComplete_keeps {a s : State} (h : Keeps a s) (region : Nat) (error : Bool) : KeepsAll a (execRegionTestComplete region error s) := by
  unfold execRegionTestComplete; (repeat' split) <;> simp (maxDischargeDepth := 60) [h]

theorem execPrunerOverdue_keeps {a s : State} (h : Keeps a s) : KeepsAll a (execPrunerOverdue s) := by
  unfold execPrunerOverdue; simp (maxDischargeDepth := 60) [h]

@[simp] theorem mramAction_keeps {a s : State} (h : Keeps a s) (m : MramArea) : Keeps a (mramAction m s) := by
  unfold mramAction
  split
  all_goals first
    | exact h.trans ⟨rfl, id⟩
    | exact badSlot_keeps h _ _
    | skip
  · refine h.trans ⟨rfl, fun ⟨hc, hg, q⟩ => ⟨hc, hg.sameSeqs ?_, q⟩⟩
    rw [List.map_map]; refine List.map_congr_left' (fun x => ?_)
    simp only [Function.comp]; split <;> rfl

@[simp] theorem mramError_keeps {a s : State} (h : Keeps a s) (e : MramError) : Keeps a (mramError e s) := by
  unfold mramError; simp (maxDischargeDepth := 60) [h]

theorem execMramScrub_keeps {a s : State} (h : Keeps a s) (errors : List MramError) : KeepsAll a (execMramScrub errors s) := by
  simp (maxDischargeDepth := 60) [execMramScrub, h, Keeps.foldl]

end Sys2Proof.Machine
end

