-- ==== Sys2Proof/Laws/Vault.lean ====
section
/-!
SUPPORT. Laws/Vault.lean: what each function of Machine/Vault.lean keeps (Safety.lean).
-/
namespace Sys2Proof.Machine

@[simp] theorem vaultServed_keeps {a s : State} (h : Keeps a s) : Keeps a (vaultServed s) := by
  unfold vaultServed; simp (maxDischargeDepth := 60) [h]

@[simp] theorem modKeySlot_keeps {a s : State} (h : Keeps a s) (k : Nat) (f : KeySlot → KeySlot) : Keeps a (modKeySlot k f s) := by
  unfold modKeySlot; simp (maxDischargeDepth := 60) [h]

@[simp] theorem cmdKeyDestroy_keeps {a s : State} (h : Keeps a s) (p : Packet) : Keeps a (cmdKeyDestroy p s).1 := by
  unfold cmdKeyDestroy; simp (maxDischargeDepth := 60) [h]

@[simp] theorem fillSlot_keeps {a s : State} (h : Keeps a s) (k : Nat) (attr : Nat) (m : Nat) (key : List Byte) : Keeps a (fillSlot k attr m key s) := by
  unfold fillSlot; simp (maxDischargeDepth := 60) [h]

@[simp] theorem cmdKeyImport_keeps {a s : State} (h : Keeps a s) (p : Packet) : Keeps a (cmdKeyImport p s).1 := by
  simp only [cmdKeyImport]; (repeat' split) <;> simp (maxDischargeDepth := 60) [h]

@[simp] theorem enterLifecycle_keeps {a s : State} (h : Keeps a s) (new : Nat) (hn : new ≤ 4) (m : Nat) : Keeps a (enterLifecycle new m s) := by
  have set_ : Keeps a { s with mode := { s.mode with lifecycle := new } } := h.trans ⟨rfl, fun ⟨hc, hg, hr, _, hv⟩ => ⟨hc, hg, hr, hn, hv⟩⟩
  unfold enterLifecycle
  refine gbk_keeps ?_ _ _ _
  split <;> exact set_.trans ⟨rfl, id⟩

@[simp] theorem checkToken_keeps {a s : State} (h : Keeps a s) (purpose m : Nat) (b : List Byte) : Keeps a (checkToken purpose m b s).1 := by
  simp only [checkToken]; (repeat' split) <;> simp (maxDischargeDepth := 60) [h]

/-- What a token's check answers goes on from a state that keeps. -/
theorem checkToken_match {a s : State} (h : Keeps a s) (purpose m : Nat) (b : List Byte) {no : Status → Ans} {yes : State → State × Ans} (hy : ∀ x, Keeps a x → Keeps a (yes x).1) :
    Keeps a (match checkToken purpose m b s with | (x, some st) => (x, no st) | (x, none) => yes x).1 := by
  have k := checkToken_keeps h purpose m b
  generalize checkToken purpose m b s = y at k
  obtain ⟨x, st⟩ := y
  cases st with
  | none => exact hy x k
  | some st => exact k

@[simp] theorem cmdLifecycleSet_keeps {a s : State} (h : Keeps a s) (p : Packet) : Keeps a (cmdLifecycleSet p s).1 := by
  unfold cmdLifecycleSet
  dsimp only
  have hv := vaultServed_keeps h
  split
  · exact hv
  rename_i ht
  have h4 : fld p.payload 0 1 ≤ 4 := by simp at ht; omega
  repeat' (first | exact hv | exact enterLifecycle_keeps hv _ h4 _ | refine Keeps.fstIte ?_ ?_)
  all_goals first
    | exact checkToken_match hv _ _ _ (no := fun st => { status := st }) (yes := fun x => (enterLifecycle (fld p.payload 0 1) (masterOf s p.path) x, { payload := le 1 (fld p.payload 0 1) ++ zeros 7 })) (fun x hx => enterLifecycle_keeps hx _ h4 _)

@[simp] theorem cmdAttest_keeps {a s : State} (h : Keeps a s) (p : Packet) : Keeps a (cmdAttest p s).1 := by
  unfold cmdAttest; simp (maxDischargeDepth := 60) [h]

@[simp] theorem cmdKeyInfo_keeps {a s : State} (h : Keeps a s) (p : Packet) : Keeps a (cmdKeyInfo p s).1 := by
  unfold cmdKeyInfo; simp (maxDischargeDepth := 60) [h]

@[simp] theorem cmdKeyGenerate_keeps {a s : State} (h : Keeps a s) (p : Packet) : Keeps a (cmdKeyGenerate p s).1 := by
  unfold cmdKeyGenerate; simp (maxDischargeDepth := 60) [h]

@[simp] theorem cmdDebugUnlock_keeps {a s : State} (h : Keeps a s) (p : Packet) : Keeps a (cmdDebugUnlock p s).1 := by
  unfold cmdDebugUnlock
  dsimp only
  split
  · simp (maxDischargeDepth := 60) [h]
  · exact checkToken_match (vaultServed_keeps h) _ _ _ (fun x hx => by simp [hx])

theorem execKeyGenerate_keeps {a s : State} (h : Keeps a s) (p : Packet) : KeepsAll a (execKeyGenerate p s) := by
  unfold execKeyGenerate; simp (maxDischargeDepth := 60) [h]

theorem execKeyImport_keeps {a s : State} (h : Keeps a s) (p : Packet) : KeepsAll a (execKeyImport p s) := by
  unfold execKeyImport; simp (maxDischargeDepth := 60) [h]

theorem execKeyInfo_keeps {a s : State} (h : Keeps a s) (p : Packet) : KeepsAll a (execKeyInfo p s) := by
  unfold execKeyInfo; simp (maxDischargeDepth := 60) [h]

theorem execKeyDestroy_keeps {a s : State} (h : Keeps a s) (p : Packet) : KeepsAll a (execKeyDestroy p s) := by
  unfold execKeyDestroy; simp (maxDischargeDepth := 60) [h]

theorem execAttest_keeps {a s : State} (h : Keeps a s) (p : Packet) : KeepsAll a (execAttest p s) := by
  unfold execAttest; simp (maxDischargeDepth := 60) [h]

theorem execLifecycleSet_keeps {a s : State} (h : Keeps a s) (p : Packet) : KeepsAll a (execLifecycleSet p s) := by
  unfold execLifecycleSet; simp (maxDischargeDepth := 60) [h]

theorem execDebugUnlock_keeps {a s : State} (h : Keeps a s) (p : Packet) : KeepsAll a (execDebugUnlock p s) := by
  unfold execDebugUnlock; simp (maxDischargeDepth := 60) [h]

theorem execVaultRequest_keeps {a s : State} (h : Keeps a s) : KeepsAll a (execVaultRequest s) := by
  unfold execVaultRequest; (repeat' split) <;> simp (maxDischargeDepth := 60) [h]

end Sys2Proof.Machine
end

