-- ==== Sys2Proof/Laws/Counters.lean ====
section
/-!
SUPPORT. Laws/Counters.lean: what each function of Machine/Counters.lean keeps (Safety.lean).
-/
namespace Sys2Proof.Machine

theorem countersOk_modAt {cs : List Counter} (h : CountersOk cs) {f : Counter → Counter} (hf : ∀ c, c.count < 2 ^ 48 → (f c).count < 2 ^ 48) (k : Nat) : CountersOk (modAt cs k f) := by
  refine ⟨by simpa [modAt] using h.1, fun c hc => ?_⟩
  obtain ⟨i, hi, rfl⟩ := List.mem_iff_getElem.mp hc
  have hi' : i < cs.length := by simpa [modAt] using hi
  have hb := h.2 _ (List.getElem_mem hi')
  simp only [modAt, List.getElem_modify]
  split
  · exact hf _ hb
  · exact hb

@[simp] theorem writeCntCfg_keeps {a s : State} (h : Keeps a s) (k value : Nat) : Keeps a (writeCntCfg k value s) :=
  h.trans ⟨rfl, fun ⟨hc, r⟩ => ⟨countersOk_modAt hc (fun c hlt => by dsimp only; split; exact Nat.two_pow_pos 48; exact hlt) k, r⟩⟩

@[simp] theorem cmdCounterConfig_keeps {a s : State} (h : Keeps a s) (p : Packet) : Keeps a (cmdCounterConfig p s).1 := by
  unfold cmdCounterConfig; simp (maxDischargeDepth := 60) [h]

@[simp] theorem takeSnapshot_keeps {a s : State} (h : Keeps a s) (cause : Nat) : Keeps a (takeSnapshot cause s) := by
  unfold takeSnapshot; simp (maxDischargeDepth := 60) [h]

@[simp] theorem clearEnabled_keeps {a s : State} (h : Keeps a s) : Keeps a (clearEnabled s) :=
  h.trans ⟨rfl, fun ⟨hc, r⟩ => ⟨countersOk_map hc (fun c hlt => by split; exact Nat.two_pow_pos 48; exact hlt), r⟩⟩

@[simp] theorem cmdCounterSnapshot_keeps {a s : State} (h : Keeps a s) (p : Packet) : Keeps a (cmdCounterSnapshot p s).1 := by
  unfold cmdCounterSnapshot; simp (maxDischargeDepth := 60) [h]

@[simp] theorem endLease_keeps {a s : State} (h : Keeps a s) (cause : Nat) (m : Nat) : Keeps a (endLease cause m s) := by
  unfold endLease; simp (maxDischargeDepth := 60) [h]

@[simp] theorem cmdTmuxUnlock_keeps {a s : State} (h : Keeps a s) (p : Packet) : Keeps a (cmdTmuxUnlock p s).1 := by
  unfold cmdTmuxUnlock; simp (maxDischargeDepth := 60) [h]

theorem execCounterConfig_keeps {a s : State} (h : Keeps a s) (p : Packet) : KeepsAll a (execCounterConfig p s) := by
  unfold execCounterConfig; simp (maxDischargeDepth := 60) [h]

theorem execCounterSnapshot_keeps {a s : State} (h : Keeps a s) (p : Packet) : KeepsAll a (execCounterSnapshot p s) := by
  unfold execCounterSnapshot; simp (maxDischargeDepth := 60) [h]

theorem execTmuxUnlock_keeps {a s : State} (h : Keeps a s) (p : Packet) : KeepsAll a (execTmuxUnlock p s) := by
  unfold execTmuxUnlock; simp (maxDischargeDepth := 60) [h]

@[simp] theorem setCntCtl_keeps {a s : State} (h : Keeps a s) (value : Nat) : Keeps a (setCntCtl value s) := by
  unfold setCntCtl; simp (maxDischargeDepth := 60) [h]

theorem execCntCtlSnap_keeps {a s : State} (h : Keeps a s) (value : Nat) : KeepsAll a (execCntCtlSnap value s) := by
  unfold execCntCtlSnap; simp (maxDischargeDepth := 60) [h]

theorem execCntCtlSnapClear_keeps {a s : State} (h : Keeps a s) (value : Nat) : KeepsAll a (execCntCtlSnapClear value s) := by
  unfold execCntCtlSnapClear; simp (maxDischargeDepth := 60) [h]

theorem execCntCfgWrite_keeps {a s : State} (h : Keeps a s) (counter : Nat) (value : Nat) : KeepsAll a (execCntCfgWrite counter value s) := by
  unfold execCntCfgWrite; simp (maxDischargeDepth := 60) [h]

theorem execCounterClear_keeps {a s : State} (h : Keeps a s) (counter : Nat) (value : Nat) : KeepsAll a (execCounterClear counter value s) := by
  unfold execCounterClear; simp (maxDischargeDepth := 60) [h]

theorem execTmuxLeaseExpiry_keeps {a s : State} (h : Keeps a s) : KeepsAll a (execTmuxLeaseExpiry s) := by
  unfold execTmuxLeaseExpiry; simp (maxDischargeDepth := 60) [h]

theorem execBoundaryScanInstruction_keeps {a s : State} (h : Keeps a s) (code : Nat) : KeepsAll a (execBoundaryScanInstruction code s) := by
  unfold execBoundaryScanInstruction; simp (maxDischargeDepth := 60) [h]

end Sys2Proof.Machine
end

