-- ==== Sys2Proof/Laws/Guestbook.lean ====
section
/-!
SUPPORT. Laws/Guestbook.lean: what each function of Machine/Guestbook.lean keeps (Safety.lean).
-/
namespace Sys2Proof.Machine

@[simp] theorem readRec_keeps {a s : State} (h : Keeps a s) (r : GbkRec) : Keeps a (readRec r s) := by
  unfold readRec
  split
  · exact h
  · refine gbk_keeps (modGbk_of h _ (fun hg => hg.sameSeqs ?_)) _ _ _
    rw [List.map_map]; refine List.map_congr_left' (fun x => ?_)
    simp only [Function.comp]; split <;> rfl

@[simp] theorem cmdGbkRead_keeps {a s : State} (h : Keeps a s) (p : Packet) : Keeps a (cmdGbkRead p s).1 := by
  simp (maxDischargeDepth := 60) [cmdGbkRead, h, Keeps.foldl]

@[simp] theorem cmdGbkStatus_keeps {a s : State} (h : Keeps a s) (x1 : Packet) : Keeps a (cmdGbkStatus x1 s).1 := by
  unfold cmdGbkStatus; simp (maxDischargeDepth := 60) [h]

@[simp] theorem cmdGbkClear_keeps {a s : State} (h : Keeps a s) (p : Packet) : Keeps a (cmdGbkClear p s).1 := by
  unfold cmdGbkClear
  dsimp only
  split
  · exact h
  · exact checkToken_match (vaultServed_keeps h) _ _ _ (fun x hx => by (repeat' split) <;> simp [hx])

@[simp] theorem storeRec_keeps {a s : State} (h : Keeps a s) (r : GbkRec) : Keeps a (storeRec r s) := by
  have one : ∀ (r : GbkRec) (x : State), Keeps a x → Keeps a (modGbk (Guestbook.append r) x) := fun r x hx => modGbk_of hx _ GuestbookOk.append
  unfold storeRec
  refine one _ _ ?_
  split
  · exact one _ _ h
  · exact h

@[simp] theorem drainOne_keeps {a s : State} (h : Keeps a s) : Keeps a (drainOne s) := by
  have tail : ∀ (l : List GbkPlace), l.length ≤ 256 → l.tail.length ≤ 256 := fun l hl => by simp; omega
  unfold drainOne
  dsimp only
  repeat' split
  all_goals first
    | exact h
    | exact modGbk_of h _ (fun hg => GuestbookOk.sameSeqs ⟨tail _ hg.1, hg.2⟩ (repeatStored_seq _ _ _))
    | exact storeRec_keeps (modGbk_keeps h _ rfl rfl rfl) _
    | exact storeRec_keeps (modGbk_of h _ (fun hg => ⟨tail _ hg.1, hg.2⟩)) _

@[simp] theorem drainAll_keeps {a s : State} (h : Keeps a s)  (n : Nat) : Keeps a (drainAll  n s) := by
  induction n generalizing s with
  | zero => exact h
  | succ n ih => exact ih (drainOne_keeps h)

@[simp] theorem repeatsFirst_keeps {a s : State} (h : Keeps a s) : Keeps a (modGbk Guestbook.repeatsFirst s) := by
  refine modGbk_of h _ (fun hg => ?_)
  unfold Guestbook.repeatsFirst
  split
  · rename_i e; rw [e] at hg
    exact GuestbookOk.sameSeqs ⟨by have := hg.1; simp at this; dsimp only; omega, hg.2⟩ (repeatStored_seq _ _ _)
  · exact hg

@[simp] theorem eraseDone_keeps {a s : State} (h : Keeps a s) (last counter m : Nat) (p : Packet) : Keeps a (eraseDone last counter m p s) := by
  unfold eraseDone
  exact answer_keeps (storeRec_keeps (modGbk_of (repeatsFirst_keeps h) _ (fun hg => hg.fewer List.filter_sublist)) _) _ _

theorem execGbkRead_keeps {a s : State} (h : Keeps a s) (p : Packet) : KeepsAll a (execGbkRead p s) := by
  unfold execGbkRead; simp (maxDischargeDepth := 60) [h]

theorem execGbkClear_keeps {a s : State} (h : Keeps a s) (p : Packet) : KeepsAll a (execGbkClear p s) := by
  unfold execGbkClear; simp (maxDischargeDepth := 60) [h]

theorem execGbkStatus_keeps {a s : State} (h : Keeps a s) (p : Packet) : KeepsAll a (execGbkStatus p s) := by
  unfold execGbkStatus; simp (maxDischargeDepth := 60) [h]

@[simp] theorem loadSel_keeps {a s : State} (h : Keeps a s) (seq : Nat) : Keeps a (loadSel seq s) := by
  simp only [loadSel]; (repeat' split) <;> simp (maxDischargeDepth := 60) [h]

theorem execGuestbookRecordEntry_keeps {a s : State} (h : Keeps a s) (kind : Nat) (master : Nat) (detail : List Byte) : KeepsAll a (execGuestbookRecordEntry kind master detail s) := by
  unfold execGuestbookRecordEntry; simp (maxDischargeDepth := 60) [h]

theorem execGuestbookDrain_keeps {a s : State} (h : Keeps a s) : KeepsAll a (execGuestbookDrain s) := by
  unfold execGuestbookDrain; simp (maxDischargeDepth := 60) [h]

theorem execGbkCtlFreeze_keeps {a s : State} (h : Keeps a s) (value : Nat) : KeepsAll a (execGbkCtlFreeze value s) := by
  unfold execGbkCtlFreeze; simp (maxDischargeDepth := 60) [h]

theorem execGbkFreezeTimeout_keeps {a s : State} (h : Keeps a s) (ms : Nat) : KeepsAll a (execGbkFreezeTimeout ms s) := by
  unfold execGbkFreezeTimeout; simp (maxDischargeDepth := 60) [h]

theorem execGbkSelWrite_keeps {a s : State} (h : Keeps a s) (value : Nat) : KeepsAll a (execGbkSelWrite value s) := by
  unfold execGbkSelWrite; simp (maxDischargeDepth := 60) [h]

theorem execGbkData15Read_keeps {a s : State} (h : Keeps a s) : KeepsAll a (execGbkData15Read s) := by
  unfold execGbkData15Read; simp (maxDischargeDepth := 60) [h]

theorem execGbkEraseComplete_keeps {a s : State} (h : Keeps a s) : KeepsAll a (execGbkEraseComplete s) := by
  unfold execGbkEraseComplete; (repeat' split) <;> simp (maxDischargeDepth := 60) [h]

end Sys2Proof.Machine
end

