-- ==== Sys2Proof/Laws/Metro.lean ====
section
/-!
SUPPORT. Laws/Metro.lean: what each function of Machine/Metro.lean keeps (Safety.lean).
-/
namespace Sys2Proof.Machine

@[simp] theorem cmdCalStatus_keeps {a s : State} (h : Keeps a s) (x1 : Packet) : Keeps a (cmdCalStatus x1 s).1 := by
  unfold cmdCalStatus; simp (maxDischargeDepth := 60) [h]

@[simp] theorem restartMetro_keeps {a s : State} (h : Keeps a s) : Keeps a (restartMetro s) := by
  unfold restartMetro; simp (maxDischargeDepth := 60) [h]

@[simp] theorem cmdHarmonicsRead_keeps {a s : State} (h : Keeps a s) (p : Packet) : Keeps a (cmdHarmonicsRead p s).1 := by
  simp only [cmdHarmonicsRead]; (repeat' split) <;> simp (maxDischargeDepth := 60) [h]

@[simp] theorem cmdCalStart_keeps {a s : State} (h : Keeps a s) (p : Packet) : Keeps a (cmdCalStart p s).1 := by
  unfold cmdCalStart; simp (maxDischargeDepth := 60) [h]

@[simp] theorem cmdMeterRead_keeps {a s : State} (h : Keeps a s) (p : Packet) : Keeps a (cmdMeterRead p s).1 := by
  unfold cmdMeterRead; (repeat' split) <;> simp (maxDischargeDepth := 60) [h]

@[simp] theorem metroEntry_keeps {a s : State} (h : Keeps a s) (kind : Nat) (b : List Byte) : Keeps a (metroEntry kind b s) := by
  unfold metroEntry; simp (maxDischargeDepth := 60) [h]

@[simp] theorem closeRun_keeps {a s : State} (h : Keeps a s) (t : Nat) (run : MeterRun) : Keeps a (closeRun t s run) := by
  unfold closeRun; simp (maxDischargeDepth := 60) [h]

@[simp] theorem pulseInTick_keeps {a s : State} (h : Keeps a s) : Keeps a (pulseInTick s) := by
  unfold pulseInTick; simp (maxDischargeDepth := 60) [h]

@[simp] theorem applyLater_keeps {a s : State} (h : Keeps a s) (t : Nat) (m : MetroMsg) : Keeps a (applyLater t s m) := by
  unfold applyLater; (repeat' split) <;> simp (maxDischargeDepth := 60) [h]

@[simp] theorem metroBoundary_keeps {a s : State} (h : Keeps a s) (t : Nat) : Keeps a (metroBoundary t s) := by
  simp (maxDischargeDepth := 60) [metroBoundary, h, Keeps.foldl]

@[simp] theorem cancelMetroSave_keeps {a s : State} (h : Keeps a s) : Keeps a (cancelMetroSave s) := by
  unfold cancelMetroSave; simp (maxDischargeDepth := 60) [h]

@[simp] theorem endCycle_keeps {a s : State} (h : Keeps a s) (x1 : Handle) (p : Nat) : Keeps a (endCycle x1 p s) := by
  unfold endCycle; (repeat' split) <;> simp (maxDischargeDepth := 60) [h]

@[simp] theorem phaseSample_keeps {a s : State} (h : Keeps a s) (x1 : Handle) (p : Nat) (crossing : Bool) (v : Int) (vh : Int) (i : Int) (clipped : Bool) (switched : Bool) : Keeps a (phaseSample x1 p crossing v vh i clipped switched s) := by
  unfold phaseSample; (repeat' split) <;> simp (maxDischargeDepth := 60) [h]

@[simp] theorem takePath_keeps {a s : State} (h : Keeps a s) (k : Nat) (pr : PathRun × Option Bool) : Keeps a (takePath k pr s) := by
  unfold takePath; dsimp only; (repeat' split) <;> simp (maxDischargeDepth := 60) [h]

@[simp] theorem addResidual_keeps {a s : State} (h : Keeps a s) (x1 : Handle) (res : Int) : Keeps a (addResidual x1 res s) := by
  unfold addResidual; simp (maxDischargeDepth := 60) [h]

@[simp] theorem circuitSample_keeps {a s : State} (h : Keeps a s) (v : List Int) (i1 : List Int) (i16 : List Int) (vh : List Int) (cross : List Bool) (run : MeterRun) : Keeps a (circuitSample v i1 i16 vh cross s run) := by
  unfold circuitSample; dsimp only; split
  · refine Keeps.foldlFst (fun s x => ?_) _ ?_
    · dsimp only; split <;> simp (maxDischargeDepth := 60)
    · simp (maxDischargeDepth := 60) [h]
  · refine addResidual_keeps (takePath_keeps (Keeps.foldlFst (fun s x => ?_) _ ?_) _ _) _ _
    · dsimp only; split <;> simp (maxDischargeDepth := 60)
    · simp (maxDischargeDepth := 60) [h]

theorem execCircuitConfig_keeps {a s : State} (h : Keeps a s) (p : Packet) : KeepsAll a (execCircuitConfig p s) := by
  unfold execCircuitConfig; simp (maxDischargeDepth := 60) [h]

theorem execMeterInputConfig_keeps {a s : State} (h : Keeps a s) (p : Packet) : KeepsAll a (execMeterInputConfig p s) := by
  unfold execMeterInputConfig; simp (maxDischargeDepth := 60) [h]

theorem execCalStart_keeps {a s : State} (h : Keeps a s) (p : Packet) : KeepsAll a (execCalStart p s) := by
  unfold execCalStart; simp (maxDischargeDepth := 60) [h]

theorem execCalStatus_keeps {a s : State} (h : Keeps a s) (p : Packet) : KeepsAll a (execCalStatus p s) := by
  unfold execCalStatus; simp (maxDischargeDepth := 60) [h]

theorem execCalCommit_keeps {a s : State} (h : Keeps a s) (p : Packet) : KeepsAll a (execCalCommit p s) := by
  unfold execCalCommit; simp (maxDischargeDepth := 60) [h]

theorem execMeterRead_keeps {a s : State} (h : Keeps a s) (p : Packet) : KeepsAll a (execMeterRead p s) := by
  unfold execMeterRead; simp (maxDischargeDepth := 60) [h]

theorem execHarmonicsRead_keeps {a s : State} (h : Keeps a s) (p : Packet) : KeepsAll a (execHarmonicsRead p s) := by
  unfold execHarmonicsRead; simp (maxDischargeDepth := 60) [h]

theorem execMeteringSample_keeps {a s : State} (h : Keeps a s) (v : List Int) (i1 : List Int) (i16 : List Int) (vh : List Int) (cross : List Bool) : KeepsAll a (execMeteringSample v i1 i16 vh cross s) := by
  simp (maxDischargeDepth := 60) [execMeteringSample, h, Keeps.foldl]

theorem execCalJobComplete_keeps {a s : State} (h : Keeps a s) (cause : Nat) (done : Nat) (volts : Nat) (amps : Nat) (freq : Nat) (mean : Int) (angle : Int) : KeepsAll a (execCalJobComplete cause done volts amps freq mean angle s) := by
  unfold execCalJobComplete; simp (maxDischargeDepth := 60) [h]

@[simp] theorem metroSave_keeps {a s : State} (h : Keeps a s) (residue : Option (List (Nat × Nat))) : Keeps a (metroSave residue s) := by
  unfold metroSave; simp (maxDischargeDepth := 60) [h]

theorem execLastSaveCancel_keeps {a s : State} (h : Keeps a s) : KeepsAll a (execLastSaveCancel s) := by
  unfold execLastSaveCancel; simp (maxDischargeDepth := 60) [h]

@[simp] theorem metroMsg_keeps {a s : State} (h : Keeps a s) (tick : Nat) (m : MetroMsg) : Keeps a (metroMsg tick s m) := by
  unfold metroMsg; (repeat' split) <;> simp (maxDischargeDepth := 60) [h]

theorem execMetroControlArrival_keeps {a s : State} (h : Keeps a s) : KeepsAll a (execMetroControlArrival s) := by
  simp only [execMetroControlArrival]; (repeat' split) <;> simp (maxDischargeDepth := 60) [h, Keeps.foldl]

end Sys2Proof.Machine
end

