-- ==== Sys2Proof/Laws/Channels.lean ====
section
/-!
SUPPORT. Laws/Channels.lean: what each function of Machine/Channels.lean keeps (Safety.lean).
-/
namespace Sys2Proof.Machine

theorem execChannelCreate_keeps {a s : State} (h : Keeps a s) (p : Packet) : KeepsAll a (execChannelCreate p s) := by
  unfold execChannelCreate; simp (maxDischargeDepth := 60) [h]

theorem execChannelStart_keeps {a s : State} (h : Keeps a s) (p : Packet) : KeepsAll a (execChannelStart p s) := by
  unfold execChannelStart; simp (maxDischargeDepth := 60) [h]

theorem execChannelHold_keeps {a s : State} (h : Keeps a s) (p : Packet) : KeepsAll a (execChannelHold p s) := by
  unfold execChannelHold; simp (maxDischargeDepth := 60) [h]

theorem execChannelRelease_keeps {a s : State} (h : Keeps a s) (p : Packet) : KeepsAll a (execChannelRelease p s) := by
  unfold execChannelRelease; simp (maxDischargeDepth := 60) [h]

theorem execChannelDestroy_keeps {a s : State} (h : Keeps a s) (p : Packet) : KeepsAll a (execChannelDestroy p s) := by
  unfold execChannelDestroy; simp (maxDischargeDepth := 60) [h]

end Sys2Proof.Machine
end

