-- ==== Sys2Proof/Laws/Lodging.lean ====
section
/-!
SUPPORT. Laws/Lodging.lean: what each function of Machine/Lodging.lean keeps (Safety.lean).
-/
namespace Sys2Proof.Machine

@[simp] theorem modLodge_keeps {a s : State} (h : Keeps a s) (slot : Nat) (f : Lodge → Lodge) : Keeps a (modLodge slot f s) := by
  unfold modLodge; simp (maxDischargeDepth := 60) [h]

@[simp] theorem noteHints_keeps {a s : State} (h : Keeps a s) : Keeps a (noteHints s) := by
  unfold noteHints; simp (maxDischargeDepth := 60) [h]

@[simp] theorem cmdPlacementHint_keeps {a s : State} (h : Keeps a s) (p : Packet) : Keeps a (cmdPlacementHint p s).1 := by
  unfold cmdPlacementHint; simp (maxDischargeDepth := 60) [h]

@[simp] theorem cmdChannelList_keeps {a s : State} (h : Keeps a s) (p : Packet) : Keeps a (cmdChannelList p s).1 := by
  unfold cmdChannelList; simp (maxDischargeDepth := 60) [h]

@[simp] theorem placeFault_keeps {a s : State} (h : Keeps a s) (x1 : Handle) (cause : Nat) (detail : Nat) : Keeps a (placeFault x1 cause detail s) := by
  unfold placeFault; simp (maxDischargeDepth := 60) [h]

@[simp] theorem cmdChannelReset_keeps {a s : State} (h : Keeps a s) (p : Packet) : Keeps a (cmdChannelReset p s).1 := by
  simp only [cmdChannelReset]; (repeat' split) <;> simp (maxDischargeDepth := 60) [h]

@[simp] theorem cmdLodgingGet_keeps {a s : State} (h : Keeps a s) (p : Packet) : Keeps a (cmdLodgingGet p s).1 := by
  unfold cmdLodgingGet; (repeat' split) <;> simp (maxDischargeDepth := 60) [h]

@[simp] theorem moveLodge_keeps {a s : State} (h : Keeps a s) (slot : Nat) (e : Nat) : Keeps a (moveLodge slot e s) := by
  unfold moveLodge; simp (maxDischargeDepth := 60) [h]

@[simp] theorem cmdChannelPin_keeps {a s : State} (h : Keeps a s) (p : Packet) : Keeps a (cmdChannelPin p s).1 := by
  unfold cmdChannelPin; simp (maxDischargeDepth := 60) [h]

@[simp] theorem cmdEngineStatus_keeps {a s : State} (h : Keeps a s) (x1 : Packet) : Keeps a (cmdEngineStatus x1 s).1 := by
  unfold cmdEngineStatus; simp (maxDischargeDepth := 60) [h]

@[simp] theorem cmdChannelInfo_keeps {a s : State} (h : Keeps a s) (p : Packet) : Keeps a (cmdChannelInfo p s).1 := by
  unfold cmdChannelInfo; (repeat' split) <;> simp (maxDischargeDepth := 60) [h]

@[simp] theorem evacuateEngine_keeps {a s : State} (h : Keeps a s) (e : Nat) (policy : Nat) (others : List Nat) : Keeps a (evacuateEngine e policy others s) := by
  unfold evacuateEngine; (repeat' (first | split | refine Keeps.foldl (fun s x => ?_) _ ?_ | refine Keeps.foldlFst (fun s x => ?_) _ ?_ | dsimp only)) <;> simp (maxDischargeDepth := 60) [h]

@[simp] theorem dropLodge_keeps {a s : State} (h : Keeps a s) (x1 : Handle) : Keeps a (dropLodge x1 s) := by
  unfold dropLodge; simp (maxDischargeDepth := 60) [h]

@[simp] theorem addLodge_keeps {a s : State} (h : Keeps a s) (x1 : Handle) (hint : Nat) (near : Handle) : Keeps a (addLodge x1 hint near s) := by
  unfold addLodge; simp (maxDischargeDepth := 60) [h]

@[simp] theorem syncLodges_keeps {a s : State} (h : Keeps a s) (old : Ordered) (new : Ordered) (rs : List CmdResult) : Keeps a (syncLodges old new rs s) := by
  simp (maxDischargeDepth := 60) [syncLodges, h, Keeps.foldl]

@[simp] theorem engineErrors_keeps {a s : State} (h : Keeps a s) (x : Nat × Nat × Nat) : Keeps a (engineErrors x s) := by
  simp only [engineErrors]; (repeat' split) <;> simp (maxDischargeDepth := 60) [h]

theorem execChannelReset_keeps {a s : State} (h : Keeps a s) (p : Packet) : KeepsAll a (execChannelReset p s) := by
  unfold execChannelReset; simp (maxDischargeDepth := 60) [h]

theorem execChannelInfo_keeps {a s : State} (h : Keeps a s) (p : Packet) : KeepsAll a (execChannelInfo p s) := by
  unfold execChannelInfo; simp (maxDischargeDepth := 60) [h]

theorem execChannelList_keeps {a s : State} (h : Keeps a s) (p : Packet) : KeepsAll a (execChannelList p s) := by
  unfold execChannelList; simp (maxDischargeDepth := 60) [h]

theorem execLodgingGet_keeps {a s : State} (h : Keeps a s) (p : Packet) : KeepsAll a (execLodgingGet p s) := by
  unfold execLodgingGet; simp (maxDischargeDepth := 60) [h]

theorem execPlacementHint_keeps {a s : State} (h : Keeps a s) (p : Packet) : KeepsAll a (execPlacementHint p s) := by
  unfold execPlacementHint; simp (maxDischargeDepth := 60) [h]

theorem execChannelPin_keeps {a s : State} (h : Keeps a s) (p : Packet) : KeepsAll a (execChannelPin p s) := by
  unfold execChannelPin; simp (maxDischargeDepth := 60) [h]

theorem execEngineStatus_keeps {a s : State} (h : Keeps a s) (p : Packet) : KeepsAll a (execEngineStatus p s) := by
  unfold execEngineStatus; simp (maxDischargeDepth := 60) [h]

@[simp] theorem failComputation_keeps {a s : State} (h : Keeps a s) (x1 : Handle) : Keeps a (failComputation x1 s) := by
  unfold failComputation; (repeat' split) <;> simp (maxDischargeDepth := 60) [h]

theorem execChannelFaultDetect_keeps {a s : State} (h : Keeps a s) (channel : Handle) (cause : Nat) : KeepsAll a (execChannelFaultDetect channel cause s) := by
  unfold execChannelFaultDetect; (repeat' split) <;> simp (maxDischargeDepth := 60) [h]

@[simp] theorem noteWork_keeps {a s : State} (h : Keeps a s) (work : List (Nat × Nat)) : Keeps a (noteWork work s) := by
  unfold noteWork; simp (maxDischargeDepth := 60) [h]

@[simp] theorem reviewMove_keeps {a s : State} (h : Keeps a s) (m : Nat × Nat) : Keeps a (reviewMove m s) := by
  unfold reviewMove; (repeat' split) <;> simp (maxDischargeDepth := 60) [h]

@[simp] theorem reviewGating_keeps {a s : State} (h : Keeps a s) : Keeps a (reviewGating s) := by
  unfold reviewGating; (repeat' split) <;> simp (maxDischargeDepth := 60) [h]

theorem execPlacementReview_keeps {a s : State} (h : Keeps a s) (work : List (Nat × Nat)) (moves : List (Nat × Nat)) (errors : List (Nat × Nat × Nat)) : KeepsAll a (execPlacementReview work moves errors s) := by
  simp (maxDischargeDepth := 60) [execPlacementReview, h, Keeps.foldl]

end Sys2Proof.Machine
end

