-- ==== Sys2Proof/Laws/Waybills.lean ====
section
/-!
SUPPORT. Laws/Waybills.lean: what each function of Machine/Waybills.lean keeps (Safety.lean).
-/
namespace Sys2Proof.Machine

@[simp] theorem abortReplay_keeps {a s : State} (h : Keeps a s) (reason : Nat) : Keeps a (abortReplay reason s) := by
  unfold abortReplay; simp (maxDischargeDepth := 60) [h]

@[simp] theorem cmdWaybillRead_keeps {a s : State} (h : Keeps a s) (p : Packet) : Keeps a (cmdWaybillRead p s).1 := by
  simp only [cmdWaybillRead]; (repeat' split) <;> simp (maxDischargeDepth := 60) [h]

@[simp] theorem cmdReplayStatus_keeps {a s : State} (h : Keeps a s) (x1 : Packet) : Keeps a (cmdReplayStatus x1 s).1 := by
  unfold cmdReplayStatus; simp (maxDischargeDepth := 60) [h]

@[simp] theorem cmdReplayAbort_keeps {a s : State} (h : Keeps a s) (x1 : Packet) : Keeps a (cmdReplayAbort x1 s).1 := by
  unfold cmdReplayAbort; simp (maxDischargeDepth := 60) [h]

@[simp] theorem cmdQuotaGet_keeps {a s : State} (h : Keeps a s) (x1 : Packet) : Keeps a (cmdQuotaGet x1 s).1 := by
  unfold cmdQuotaGet; simp (maxDischargeDepth := 60) [h]

@[simp] theorem cmdCheckpointList_keeps {a s : State} (h : Keeps a s) (x1 : Packet) : Keeps a (cmdCheckpointList x1 s).1 := by
  unfold cmdCheckpointList; simp (maxDischargeDepth := 60) [h]

@[simp] theorem cmdReplay_keeps {a s : State} (h : Keeps a s) (p : Packet) : Keeps a (cmdReplay p s).1 := by
  simp only [cmdReplay]; (repeat' split) <;> simp (maxDischargeDepth := 60) [h]

@[simp] theorem cmdDigestRead_keeps {a s : State} (h : Keeps a s) (p : Packet) : Keeps a (cmdDigestRead p s).1 := by
  unfold cmdDigestRead; simp (maxDischargeDepth := 60) [h]

theorem execQuotaGet_keeps {a s : State} (h : Keeps a s) (p : Packet) : KeepsAll a (execQuotaGet p s) := by
  unfold execQuotaGet; simp (maxDischargeDepth := 60) [h]

theorem execQuotaSet_keeps {a s : State} (h : Keeps a s) (p : Packet) : KeepsAll a (execQuotaSet p s) := by
  unfold execQuotaSet; simp (maxDischargeDepth := 60) [h]

theorem execWaybillRead_keeps {a s : State} (h : Keeps a s) (p : Packet) : KeepsAll a (execWaybillRead p s) := by
  unfold execWaybillRead; simp (maxDischargeDepth := 60) [h]

theorem execDigestRead_keeps {a s : State} (h : Keeps a s) (p : Packet) : KeepsAll a (execDigestRead p s) := by
  unfold execDigestRead; simp (maxDischargeDepth := 60) [h]

theorem execCheckpointList_keeps {a s : State} (h : Keeps a s) (p : Packet) : KeepsAll a (execCheckpointList p s) := by
  unfold execCheckpointList; simp (maxDischargeDepth := 60) [h]

theorem execReplay_keeps {a s : State} (h : Keeps a s) (p : Packet) : KeepsAll a (execReplay p s) := by
  unfold execReplay; simp (maxDischargeDepth := 60) [h]

theorem execReplayStatus_keeps {a s : State} (h : Keeps a s) (p : Packet) : KeepsAll a (execReplayStatus p s) := by
  unfold execReplayStatus; simp (maxDischargeDepth := 60) [h]

theorem execReplayAbort_keeps {a s : State} (h : Keeps a s) (p : Packet) : KeepsAll a (execReplayAbort p s) := by
  unfold execReplayAbort; simp (maxDischargeDepth := 60) [h]

end Sys2Proof.Machine
end

