-- ==== Sys2Proof/Laws/Reset.lean ====
section
/-!
SUPPORT. Laws/Reset.lean: what each function of Machine/Reset.lean keeps (Safety.lean).
-/
namespace Sys2Proof.Machine

@[simp] theorem cmdBootReport_keeps {a s : State} (h : Keeps a s) (x1 : Packet) : Keeps a (cmdBootReport x1 s).1 := by
  unfold cmdBootReport; simp (maxDischargeDepth := 60) [h]

@[simp] theorem cmdRecoveryStatus_keeps {a s : State} (h : Keeps a s) (x1 : Packet) : Keeps a (cmdRecoveryStatus x1 s).1 := by
  unfold cmdRecoveryStatus; simp (maxDischargeDepth := 60) [h]

@[simp] theorem beginRestart_keeps {a s : State} (h : Keeps a s) (d : Nat) : Keeps a (beginRestart d s) := by
  unfold beginRestart; simp (maxDischargeDepth := 60) [h]

@[simp] theorem cmdDomainRestart_keeps {a s : State} (h : Keeps a s) (p : Packet) : Keeps a (cmdDomainRestart p s).1 := by
  simp only [cmdDomainRestart]; (repeat' split) <;> simp (maxDischargeDepth := 60) [h]

@[simp] theorem cmdResetDevice_keeps {a s : State} (h : Keeps a s) (p : Packet) : Keeps a (cmdResetDevice p s).1 := by
  unfold cmdResetDevice; simp (maxDischargeDepth := 60) [h]

@[simp] theorem moveRestarting_keeps {a s : State} (h : Keeps a s) : Keeps a (moveRestarting s) := by
  simp (maxDischargeDepth := 60) [moveRestarting, h, Keeps.foldl]

@[simp] theorem dueAtBoot_keeps {a s : State} (h : Keeps a s) (kind : Nat) (n : Nat) : Keeps a (dueAtBoot kind n s) := by
  unfold dueAtBoot; simp (maxDischargeDepth := 60) [h]

@[simp] theorem endSessions_keeps {a s : State} (h : Keeps a s) : Keeps a (endSessions s) := by
  simp (maxDischargeDepth := 60) [endSessions, h, Keeps.foldl]

@[simp] theorem afterReset_keeps {a s : State} (h : Keeps a s) (device : Bool) (code : Nat) : Keeps a (afterReset device code s) := by
  have e := endSessions_keeps h
  refine e.trans ⟨rfl, fun ⟨_, ⟨hf, hs, hn⟩, _, hl, hv⟩ => ⟨⟨rfl, fun c hc => ?_⟩, ?_, ?_, hl, hv⟩⟩
  · rw [List.eq_of_mem_replicate hc]; exact Nat.two_pow_pos 48
  · unfold afterReset keptGuestbook
    cases device
    · refine ⟨Nat.zero_le _, hs, ?_⟩
      change ∀ q ∈ (endSessions s).gbk.stored.map (·.seq), q < (((endSessions s).gbk.stored.getLast?).map (fun (r : GbkRec) => r.seq + 1)).getD 1
      generalize (endSessions s).gbk.stored = rs at hs hn
      rcases List.eq_nil_or_concat rs with rfl | ⟨l, x, rfl⟩
      · intro q hq; cases hq
      · rw [List.concat_eq_append] at *
        rw [List.map_append, List.pairwise_append] at hs
        intro q hq
        rw [List.map_append, List.mem_append] at hq
        have last : (((l ++ [x]).getLast?).map (fun (r : GbkRec) => r.seq + 1)).getD 1 = x.seq + 1 := by simp
        rw [last]
        rcases hq with hq | hq
        · exact Nat.lt_succ_of_lt (hs.2.2 q hq x.seq (by simp))
        · rw [List.map_singleton, List.mem_singleton] at hq; omega
    · exact ⟨hf, hs, hn⟩
  · unfold afterReset keptTwin roleShown
    dsimp only
    split <;> rfl

@[simp] theorem coldD0_keeps {a s : State} (h : Keeps a s) : Keeps a (coldD0 s) := by
  unfold coldD0
  refine setOscStop_keeps (h.trans ?_) _
  exact ⟨rfl, fun ⟨hc, hg, hr, hl, _⟩ => ⟨hc, hg, hr, hl, show DateTime.valid {} = true by decide⟩⟩

@[simp] theorem deviceReset_keeps {a s : State} (h : Keeps a s) (code : Nat) : Keeps a (deviceReset code s) := by
  unfold deviceReset; simp (maxDischargeDepth := 60) [h]

theorem execResetDevice_keeps {a s : State} (h : Keeps a s) (p : Packet) : KeepsAll a (execResetDevice p s) := by
  unfold execResetDevice; simp (maxDischargeDepth := 60) [h]

theorem execDomainRestart_keeps {a s : State} (h : Keeps a s) (p : Packet) : KeepsAll a (execDomainRestart p s) := by
  unfold execDomainRestart; simp (maxDischargeDepth := 60) [h]

theorem execBootReport_keeps {a s : State} (h : Keeps a s) (p : Packet) : KeepsAll a (execBootReport p s) := by
  unfold execBootReport; simp (maxDischargeDepth := 60) [h]

theorem execRecoveryStatus_keeps {a s : State} (h : Keeps a s) (p : Packet) : KeepsAll a (execRecoveryStatus p s) := by
  unfold execRecoveryStatus; simp (maxDischargeDepth := 60) [h]

@[simp] theorem sampleStraps_keeps {a s : State} (h : Keeps a s) (hostsel : Bool) (bootsel : Bool) : Keeps a (sampleStraps hostsel bootsel s) := by
  unfold sampleStraps; simp (maxDischargeDepth := 60) [h]

@[simp] theorem holdReset_keeps {a s : State} (h : Keeps a s) : Keeps a (holdReset s) := by
  unfold holdReset; simp (maxDischargeDepth := 60) [h]

@[simp] theorem powerOnReset_keeps {a s : State} (h : Keeps a s) (code : Nat) : Keeps a (powerOnReset code s) := by
  unfold powerOnReset; simp (maxDischargeDepth := 60) [h]

theorem execPowerOn_keeps {a s : State} (h : Keeps a s) (hostsel : Bool) (bootsel : Bool) (d0Kept : Bool) (lateMs : Nat) : KeepsAll a (execPowerOn hostsel bootsel d0Kept lateMs s) := by
  unfold execPowerOn; simp (maxDischargeDepth := 60) [h]

theorem execPorstNLow_keeps {a s : State} (h : Keeps a s) (hostsel : Bool) (bootsel : Bool) : KeepsAll a (execPorstNLow hostsel bootsel s) := by
  unfold execPorstNLow; simp (maxDischargeDepth := 60) [h]

theorem execRstNLow_keeps {a s : State} (h : Keeps a s) (us : Nat) (takes : Bool) : KeepsAll a (execRstNLow us takes s) := by
  unfold execRstNLow; simp (maxDischargeDepth := 60) [h]

theorem execResetDeviceAssert_keeps {a s : State} (h : Keeps a s) : KeepsAll a (execResetDeviceAssert s) := by
  unfold execResetDeviceAssert; (repeat' split) <;> simp (maxDischargeDepth := 60) [h]

@[simp] theorem requestPowerCycle_keeps {a s : State} (h : Keeps a s) (cause : Nat) : Keeps a (requestPowerCycle cause s) := by
  unfold requestPowerCycle; simp (maxDischargeDepth := 60) [h]

theorem execWatchdogExpiry_keeps {a s : State} (h : Keeps a s) (ms : Nat) : KeepsAll a (execWatchdogExpiry ms s) := by
  unfold execWatchdogExpiry; simp (maxDischargeDepth := 60) [h]

theorem execBootRomSilent_keeps {a s : State} (h : Keeps a s) : KeepsAll a (execBootRomSilent s) := by
  unfold execBootRomSilent; simp (maxDischargeDepth := 60) [h]

theorem execPwrcycRelease_keeps {a s : State} (h : Keeps a s) : KeepsAll a (execPwrcycRelease s) := by
  unfold execPwrcycRelease; simp (maxDischargeDepth := 60) [h]

theorem execDomainRestartComplete_keeps {a s : State} (h : Keeps a s) (domain : Nat) (ms : Nat) : KeepsAll a (execDomainRestartComplete domain ms s) := by
  simp only [execDomainRestartComplete]; (repeat' split) <;> simp (maxDischargeDepth := 60) [h]

end Sys2Proof.Machine
end

