-- ==== Sys2Proof/Laws/Supplies.lean ====
section
/-!
SUPPORT. Laws/Supplies.lean: what each function of Machine/Supplies.lean keeps (Safety.lean).
-/
namespace Sys2Proof.Machine

@[simp] theorem modSupply_keeps {a s : State} (h : Keeps a s) (f : Supplies → Supplies) : Keeps a (modSupply f s) := by
  unfold modSupply; simp (maxDischargeDepth := 60) [h]

@[simp] theorem cmdSupplyStatus_keeps {a s : State} (h : Keeps a s) (p : Packet) : Keeps a (cmdSupplyStatus p s).1 := by
  unfold cmdSupplyStatus; simp (maxDischargeDepth := 60) [h]

@[simp] theorem cmdThermalConfig_keeps {a s : State} (h : Keeps a s) (p : Packet) : Keeps a (cmdThermalConfig p s).1 := by
  unfold cmdThermalConfig; simp (maxDischargeDepth := 60) [h]

@[simp] theorem cmdPowerReport_keeps {a s : State} (h : Keeps a s) (x1 : Packet) : Keeps a (cmdPowerReport x1 s).1 := by
  unfold cmdPowerReport; simp (maxDischargeDepth := 60) [h]

theorem execSupplyStatus_keeps {a s : State} (h : Keeps a s) (p : Packet) : KeepsAll a (execSupplyStatus p s) := by
  unfold execSupplyStatus; simp (maxDischargeDepth := 60) [h]

theorem execThermalConfig_keeps {a s : State} (h : Keeps a s) (p : Packet) : KeepsAll a (execThermalConfig p s) := by
  unfold execThermalConfig; simp (maxDischargeDepth := 60) [h]

theorem execPowerReport_keeps {a s : State} (h : Keeps a s) (p : Packet) : KeepsAll a (execPowerReport p s) := by
  unfold execPowerReport; simp (maxDischargeDepth := 60) [h]

theorem execMetroDomainGate_keeps {a s : State} (h : Keeps a s) (quiet : Bool) : KeepsAll a (execMetroDomainGate quiet s) := by
  unfold execMetroDomainGate; simp (maxDischargeDepth := 60) [h]

@[simp] theorem stopErase_keeps {a s : State} (h : Keeps a s) : Keeps a (stopErase s) := by
  unfold stopErase
  split
  · exact h
  · exact answer_keeps (modGbk_of (drawFree_keeps h) _ (fun hg => hg.fewer List.filter_sublist)) _ _

@[simp] theorem lastSave_keeps {a s : State} (h : Keeps a s) (residue : Option (List (Nat × Nat))) (parts : Nat) (us : Nat) : Keeps a (lastSave residue parts us s) := by
  unfold lastSave; simp (maxDischargeDepth := 60) [h]

theorem execPfwAccept_keeps {a s : State} (h : Keeps a s) (residue : Option (List (Nat × Nat))) (parts : Nat) (us : Nat) : KeepsAll a (execPfwAccept residue parts us s) := by
  unfold execPfwAccept; simp (maxDischargeDepth := 60) [h]

@[simp] theorem vanaLost_keeps {a s : State} (h : Keeps a s) : Keeps a (vanaLost s) := by
  simp (maxDischargeDepth := 60) [vanaLost, h, Keeps.foldl]

@[simp] theorem mainLost_keeps {a s : State} (h : Keeps a s) : Keeps a (mainLost s) := by
  unfold mainLost; simp (maxDischargeDepth := 60) [h]

theorem execSupplyMonitorCrossing_keeps {a s : State} (h : Keeps a s) (supply : Nat) (above : Bool) (beyond : Bool) (mv : Nat) : KeepsAll a (execSupplyMonitorCrossing supply above beyond mv s) := by
  unfold execSupplyMonitorCrossing; simp (maxDischargeDepth := 60) [h]

theorem execSequenceFault_keeps {a s : State} (h : Keeps a s) (vcore : Nat) (vio : Nat) : KeepsAll a (execSequenceFault vcore vio s) := by
  unfold execSequenceFault; simp (maxDischargeDepth := 60) [h]

theorem execSequenceFaultClear_keeps {a s : State} (h : Keeps a s) (kept : Bool) : KeepsAll a (execSequenceFaultClear kept s) := by
  unfold execSequenceFaultClear; simp (maxDischargeDepth := 60) [h]

@[simp] theorem thermalMoves_keeps {a s : State} (h : Keeps a s) : Keeps a (thermalMoves s) := by
  unfold thermalMoves; simp (maxDischargeDepth := 60) [h]

@[simp] theorem stageRecord_keeps {a s : State} (h : Keeps a s) (stage : Nat) (temp : Int) (hot : Nat) : Keeps a (stageRecord stage temp hot s) := by
  unfold stageRecord; simp (maxDischargeDepth := 60) [h]

@[simp] theorem thermalStage_keeps {a s : State} (h : Keeps a s) (temp : Int) : Keeps a (thermalStage temp s) := by
  unfold thermalStage; simp (maxDischargeDepth := 60) [h]

@[simp] theorem thermalAlerts_keeps {a s : State} (h : Keeps a s) (temp : Int) : Keeps a (thermalAlerts temp s) := by
  unfold thermalAlerts; simp (maxDischargeDepth := 60) [h]

theorem execThermalReading_keeps {a s : State} (h : Keeps a s) (temps : List Int) (mv : List Nat) (ma : List Nat) : KeepsAll a (execThermalReading temps mv ma s) := by
  simp only [execThermalReading]; (repeat' split) <;> simp (maxDischargeDepth := 60) [h]

end Sys2Proof.Machine
end

