-- ==== Sys2Proof/Laws/Firmware.lean ====
section
/-!
SUPPORT. Laws/Firmware.lean: what each function of Machine/Firmware.lean keeps (Safety.lean).
-/
namespace Sys2Proof.Machine

@[simp] theorem cmdImageStatus_keeps {a s : State} (h : Keeps a s) (x1 : Packet) : Keeps a (cmdImageStatus x1 s).1 := by
  unfold cmdImageStatus; simp (maxDischargeDepth := 60) [h]

@[simp] theorem cmdFwsetInfo_keeps {a s : State} (h : Keeps a s) (x1 : Packet) : Keeps a (cmdFwsetInfo x1 s).1 := by
  unfold cmdFwsetInfo; simp (maxDischargeDepth := 60) [h]

@[simp] theorem modFw_keeps {a s : State} (h : Keeps a s) (f : Firmware → Firmware) : Keeps a (modFw f s) := by
  unfold modFw; simp (maxDischargeDepth := 60) [h]

@[simp] theorem setFwSlot_keeps {a s : State} (h : Keeps a s) (k : Nat) (f : FwSlot → FwSlot) : Keeps a (setFwSlot k f s) := by
  unfold setFwSlot; simp (maxDischargeDepth := 60) [h]

@[simp] theorem cmdImageBegin_keeps {a s : State} (h : Keeps a s) (p : Packet) : Keeps a (cmdImageBegin p s).1 := by
  simp only [cmdImageBegin]; (repeat' split) <;> simp (maxDischargeDepth := 60) [h]

@[simp] theorem cmdImageEnd_keeps {a s : State} (h : Keeps a s) (p : Packet) : Keeps a (cmdImageEnd p s).1 := by
  unfold cmdImageEnd; simp (maxDischargeDepth := 60) [h]

@[simp] theorem endStaging_keeps {a s : State} (h : Keeps a s) (k : Nat) (cause : Nat) : Keeps a (endStaging k cause s) := by
  unfold endStaging; simp (maxDischargeDepth := 60) [h]

@[simp] theorem cmdImageAbort_keeps {a s : State} (h : Keeps a s) (p : Packet) : Keeps a (cmdImageAbort p s).1 := by
  simp only [cmdImageAbort]; (repeat' split) <;> simp (maxDischargeDepth := 60) [h]

@[simp] theorem cmdImageData_keeps {a s : State} (h : Keeps a s) (p : Packet) : Keeps a (cmdImageData p s).1 := by
  unfold cmdImageData; simp (maxDischargeDepth := 60) [h]

@[simp] theorem failSlot_keeps {a s : State} (h : Keeps a s) (k : Nat) (f : Nat × Nat × Nat) : Keeps a (failSlot k f s) := by
  unfold failSlot; simp (maxDischargeDepth := 60) [h]

@[simp] theorem installSlot_keeps {a s : State} (h : Keeps a s) (k : Nat) : Keeps a (installSlot k s) := by
  unfold installSlot; simp (maxDischargeDepth := 60) [h]

@[simp] theorem chooseSet_keeps {a s : State} (h : Keeps a s) (readErrors refused : List Nat) (n : Nat) : Keeps a (chooseSet readErrors refused n s) := by
  induction n generalizing s with
  | zero => exact h
  | succ n ih => unfold chooseSet; (repeat' split) <;> first | exact h | exact ih (failSlot_keeps h _ _) | exact installSlot_keeps h _

theorem execImageBegin_keeps {a s : State} (h : Keeps a s) (p : Packet) : KeepsAll a (execImageBegin p s) := by
  unfold execImageBegin; simp (maxDischargeDepth := 60) [h]

theorem execImageData_keeps {a s : State} (h : Keeps a s) (p : Packet) : KeepsAll a (execImageData p s) := by
  unfold execImageData; simp (maxDischargeDepth := 60) [h]

theorem execImageEnd_keeps {a s : State} (h : Keeps a s) (p : Packet) : KeepsAll a (execImageEnd p s) := by
  unfold execImageEnd; simp (maxDischargeDepth := 60) [h]

theorem execImageStatus_keeps {a s : State} (h : Keeps a s) (p : Packet) : KeepsAll a (execImageStatus p s) := by
  unfold execImageStatus; simp (maxDischargeDepth := 60) [h]

theorem execImageAbort_keeps {a s : State} (h : Keeps a s) (p : Packet) : KeepsAll a (execImageAbort p s) := by
  unfold execImageAbort; simp (maxDischargeDepth := 60) [h]

theorem execFwsetInfo_keeps {a s : State} (h : Keeps a s) (p : Packet) : KeepsAll a (execFwsetInfo p s) := by
  unfold execFwsetInfo; simp (maxDischargeDepth := 60) [h]

theorem execTrialComplete_keeps {a s : State} (h : Keeps a s) : KeepsAll a (execTrialComplete s) := by
  unfold execTrialComplete; (repeat' split) <;> simp (maxDischargeDepth := 60) [h]

theorem execImageStagingIdle_keeps {a s : State} (h : Keeps a s) : KeepsAll a (execImageStagingIdle s) := by
  unfold execImageStagingIdle; simp (maxDischargeDepth := 60) [h]

theorem execSlotEraseComplete_keeps {a s : State} (h : Keeps a s) (ms : Nat) (ok : Bool) : KeepsAll a (execSlotEraseComplete ms ok s) := by
  simp only [execSlotEraseComplete]; (repeat' split) <;> simp (maxDischargeDepth := 60) [h]

@[simp] theorem releaseAbort_keeps {a s : State} (h : Keeps a s) : Keeps a (releaseAbort s) := by
  unfold releaseAbort; (repeat' split) <;> simp (maxDischargeDepth := 60) [h]

theorem execImageReadBackComplete_keeps {a s : State} (h : Keeps a s) (readError : Bool) : KeepsAll a (execImageReadBackComplete readError s) := by
  simp only [execImageReadBackComplete]; (repeat' split) <;> simp (maxDischargeDepth := 60) [h]

end Sys2Proof.Machine
end

