-- ==== Sys2Proof/Laws/Twin.lean ====
section
/-!
SUPPORT. Laws/Twin.lean: what each function of Machine/Twin.lean keeps (Safety.lean).
-/
namespace Sys2Proof.Machine

@[simp] theorem cmdTwinStatus_keeps {a s : State} (h : Keeps a s) (x1 : Packet) : Keeps a (cmdTwinStatus x1 s).1 := by
  unfold cmdTwinStatus; simp (maxDischargeDepth := 60) [h]

@[simp] theorem cmdPathStatus_keeps {a s : State} (h : Keeps a s) (x1 : Packet) : Keeps a (cmdPathStatus x1 s).1 := by
  unfold cmdPathStatus; simp (maxDischargeDepth := 60) [h]

@[simp] theorem announceShared_keeps {a s : State} (h : Keeps a s) : Keeps a (announceShared s) := by
  unfold announceShared; simp (maxDischargeDepth := 60) [h]

@[simp] theorem setRole_keeps {a s : State} (h : Keeps a s) (new : Nat) : Keeps a (setRole new s) := by
  unfold setRole
  dsimp only
  split
  · exact h
  · refine gbk_keeps (drawFree_keeps (setShown ?_ _ _ rfl)) _ _ _
    split <;> simp [h]

@[simp] theorem cmdTwinConfig_keeps {a s : State} (h : Keeps a s) (p : Packet) : Keeps a (cmdTwinConfig p s).1 := by
  simp only [cmdTwinConfig]; (repeat' split) <;> simp (maxDischargeDepth := 60) [h]

@[simp] theorem cmdTwinSwitch_keeps {a s : State} (h : Keeps a s) (p : Packet) : Keeps a (cmdTwinSwitch p s).1 := by
  unfold cmdTwinSwitch; simp (maxDischargeDepth := 60) [h]

@[simp] theorem resync_keeps {a s : State} (h : Keeps a s) (cause : Nat) : Keeps a (resync cause s) := by
  unfold resync; simp (maxDischargeDepth := 60) [h]

@[simp] theorem exportQueue_keeps {a s : State} (h : Keeps a s) : Keeps a (exportQueue s) := by
  unfold exportQueue; simp (maxDischargeDepth := 60) [h]

@[simp] theorem exportWaybill_keeps {a s : State} (h : Keeps a s) (tick : Nat) : Keeps a (exportWaybill tick s) := by
  unfold exportWaybill; simp (maxDischargeDepth := 60) [h]

theorem execTwinConfig_keeps {a s : State} (h : Keeps a s) (p : Packet) : KeepsAll a (execTwinConfig p s) := by
  unfold execTwinConfig; simp (maxDischargeDepth := 60) [h]

theorem execTwinStatus_keeps {a s : State} (h : Keeps a s) (p : Packet) : KeepsAll a (execTwinStatus p s) := by
  unfold execTwinStatus; simp (maxDischargeDepth := 60) [h]

theorem execTwinSwitch_keeps {a s : State} (h : Keeps a s) (p : Packet) : KeepsAll a (execTwinSwitch p s) := by
  unfold execTwinSwitch; simp (maxDischargeDepth := 60) [h]

theorem execPathStatus_keeps {a s : State} (h : Keeps a s) (p : Packet) : KeepsAll a (execPathStatus p s) := by
  unfold execPathStatus; simp (maxDischargeDepth := 60) [h]

@[simp] theorem exportRecord_keeps {a s : State} (h : Keeps a s) (r : DigestRec) : Keeps a (exportRecord r s) := by
  unfold exportRecord; simp (maxDischargeDepth := 60) [h]

theorem execHeartbeatSend_keeps {a s : State} (h : Keeps a s) : KeepsAll a (execHeartbeatSend s) := by
  unfold execHeartbeatSend; simp (maxDischargeDepth := 60) [h]

@[simp] theorem roleOnHeartbeat_keeps {a s : State} (h : Keeps a s) (p : PeerInfo) : Keeps a (roleOnHeartbeat p s) := by
  unfold roleOnHeartbeat; simp (maxDischargeDepth := 60) [h]

theorem execHeartbeatReceive_keeps {a s : State} (h : Keeps a s) (path : Nat) (b : List Byte) : KeepsAll a (execHeartbeatReceive path b s) := by
  unfold execHeartbeatReceive; simp (maxDischargeDepth := 60) [h]

@[simp] theorem notePath_keeps {a s : State} (h : Keeps a s) (path : Nat) (was : Bool) (now : Bool) : Keeps a (notePath path was now s) := by
  unfold notePath; simp (maxDischargeDepth := 60) [h]

theorem execHeartbeatDeadline_keeps {a s : State} (h : Keeps a s) : KeepsAll a (execHeartbeatDeadline s) := by
  unfold execHeartbeatDeadline; simp (maxDischargeDepth := 60) [h]

theorem execJoinTimeout_keeps {a s : State} (h : Keeps a s) : KeepsAll a (execJoinTimeout s) := by
  unfold execJoinTimeout; simp (maxDischargeDepth := 60) [h]

theorem execSyncRetry_keeps {a s : State} (h : Keeps a s) : KeepsAll a (execSyncRetry s) := by
  unfold execSyncRetry; simp (maxDischargeDepth := 60) [h]

theorem execLinkStateChange_keeps {a s : State} (h : Keeps a s) (port : Nat) (speed : Nat) : KeepsAll a (execLinkStateChange port speed s) := by
  unfold execLinkStateChange; simp (maxDischargeDepth := 60) [h]

theorem execTwinLinkStateChange_keeps {a s : State} (h : Keeps a s) (up : Bool) : KeepsAll a (execTwinLinkStateChange up s) := by
  unfold execTwinLinkStateChange; simp (maxDischargeDepth := 60) [h]

end Sys2Proof.Machine
end

