-- ==== Sys2Proof/Laws/Command.lean ====
section
/-!
SUPPORT. Laws/Command.lean: what each function of Machine/Command.lean keeps (Safety.lean).
-/
namespace Sys2Proof.Machine

theorem commandLow_keeps {op : Nat} {f : Packet → State → State × Ans} (e : commandLow op = some f) (p : Packet) (s : State) : Keeps s (f p s).1 := by
  unfold commandLow at e
  split at e <;> first | (cases e; simp; done) | cases e

theorem commandHigh_keeps {op : Nat} {f : Packet → State → State × Ans} (e : commandHigh op = some f) (p : Packet) (s : State) : Keeps s (f p s).1 := by
  unfold commandHigh at e
  split at e <;> first | (cases e; simp; done) | cases e

@[simp] theorem runWaiting_keeps {a s : State} (h : Keeps a s) (p : Packet) : Keeps a (runWaiting p s) := by
  unfold runWaiting
  split
  · rename_i f e
    refine runNow_keeps h ?_ p
    cases el : commandLow p.opcode with
    | some g => rw [el] at e; cases e; exact commandLow_keeps el
    | none => rw [el] at e; exact commandHigh_keeps e
  · exact answer_keeps h _ _

theorem execClerkAccept_keeps {a s : State} (h : Keeps a s) (cls : Nat) (index : Nat) (offset : Nat) : KeepsAll a (execClerkAccept cls index offset s) := by
  unfold execClerkAccept; simp (maxDischargeDepth := 60) [h]

end Sys2Proof.Machine
end

