-- ==== Sys2Proof/Laws/Flags.lean ====
section
/-!
SUPPORT. Laws/Flags.lean: what each function of Machine/Flags.lean keeps (Safety.lean).
-/
namespace Sys2Proof.Machine

@[simp] theorem signal_keeps {a s : State} (h : Keeps a s) : Keeps a (signal s) := by
  unfold signal; simp (maxDischargeDepth := 60) [h]

@[simp] theorem signalled_keeps {a s : State} (h : Keeps a s) : KeepsAll a (signalled s) := by
  unfold signalled; simp (maxDischargeDepth := 60) [h]

theorem execInkBeat_keeps {a s : State} (h : Keeps a s) : KeepsAll a (execInkBeat s) := by
  unfold execInkBeat; simp (maxDischargeDepth := 60) [h]

@[simp] theorem idle_keeps {a s : State} (h : Keeps a s) : Keeps a (idle s) := by
  unfold idle; simp (maxDischargeDepth := 60) [h]

end Sys2Proof.Machine
end

