-- ==== Sys2Proof/Laws/HostLink.lean ====
section
/-!
SUPPORT. Laws/HostLink.lean: what each function of Machine/HostLink.lean keeps (Safety.lean).
-/
namespace Sys2Proof.Machine

@[simp] theorem modHost_keeps {a s : State} (h : Keeps a s) (f : HostLink → HostLink) : Keeps a (modHost f s) := by
  unfold modHost; simp (maxDischargeDepth := 60) [h]

@[simp] theorem modRing_keeps {a s : State} (h : Keeps a s) (r : Nat) (f : Ring → Ring) : Keeps a (modRing r f s) := by
  unfold modRing; simp (maxDischargeDepth := 60) [h]

@[simp] theorem modPaths_keeps {a s : State} (h : Keeps a s) (f : Paths → Paths) : Keeps a (modPaths f s) := by
  unfold modPaths; simp (maxDischargeDepth := 60) [h]

@[simp] theorem signalRing_keeps {a s : State} (h : Keeps a s) (r : Nat) : Keeps a (signalRing r s) := by
  unfold signalRing; simp (maxDischargeDepth := 60) [h]

@[simp] theorem writeCompletion_keeps {a s : State} (h : Keeps a s) (r : Nat) : Keeps a (writeCompletion r s) := by
  unfold writeCompletion; (repeat' split) <;> simp (maxDischargeDepth := 60) [h]

@[simp] theorem completionTurn_keeps {a s : State} (h : Keeps a s) (r : Nat) : Keeps a (completionTurn r s) := by
  unfold completionTurn; simp (maxDischargeDepth := 60) [h]

@[simp] theorem mbxViolation_keeps {a s : State} (h : Keeps a s) (m : Nat) : Keeps a (mbxViolation m s) := by
  unfold mbxViolation; simp (maxDischargeDepth := 60) [h]

@[simp] theorem modMbx_keeps {a s : State} (h : Keeps a s) (m : Nat) (f : Mailbox → Mailbox) : Keeps a (modMbx m f s) := by
  unfold modMbx; simp (maxDischargeDepth := 60) [h]

@[simp] theorem writeRingCtl_keeps {a s : State} (h : Keeps a s) (r : Nat) (v : Nat) : Keeps a (writeRingCtl r v s) := by
  unfold writeRingCtl; simp (maxDischargeDepth := 60) [h]

@[simp] theorem ringError_keeps {a s : State} (h : Keeps a s) (r : Nat) (slot : Nat) (desc : Bool) : Keeps a (ringError r slot desc s) := by
  unfold ringError; simp (maxDischargeDepth := 60) [h]

@[simp] theorem writeCmdTail_keeps {a s : State} (h : Keeps a s) (r : Nat) (v : Nat) : Keeps a (writeCmdTail r v s) := by
  unfold writeCmdTail; simp (maxDischargeDepth := 60) [h]

@[simp] theorem writeHeld_keeps {a s : State} (h : Keeps a s) (r : Nat) (n : Nat) : Keeps a (writeHeld r n s) := by
  induction n generalizing s with
  | zero => exact h
  | succ n ih => unfold writeHeld; split <;> simp (maxDischargeDepth := 60) [h, ih]

@[simp] theorem writeCmpHead_keeps {a s : State} (h : Keeps a s) (r : Nat) (v : Nat) : Keeps a (writeCmpHead r v s) := by
  unfold writeCmpHead; simp (maxDischargeDepth := 60) [h]

@[simp] theorem mbxPost_keeps {a s : State} (h : Keeps a s) (m : Nat) : Keeps a (mbxPost m s) := by
  unfold mbxPost; simp (maxDischargeDepth := 60) [h]

@[simp] theorem twinMail_keeps {a s : State} (h : Keeps a s) (m : Nat) (word : Nat) (data : List Byte) : Keeps a (twinMail m word data s) := by
  unfold twinMail; simp (maxDischargeDepth := 60) [h]

@[simp] theorem mbxAck_keeps {a s : State} (h : Keeps a s) (m : Nat) (code : Nat) : Keeps a (mbxAck m code s) := by
  unfold mbxAck; simp (maxDischargeDepth := 60) [h]

@[simp] theorem mbxDiscard_keeps {a s : State} (h : Keeps a s) (m : Nat) : Keeps a (mbxDiscard m s) := by
  unfold mbxDiscard; simp (maxDischargeDepth := 60) [h]

@[simp] theorem writeIdb_keeps {a s : State} (h : Keeps a s) (m : Nat) (v : Nat) : Keeps a (writeIdb m v s) := by
  unfold writeIdb; simp (maxDischargeDepth := 60) [h]

@[simp] theorem nextSeq_keeps {a s : State} (h : Keeps a s) (old : Nat) : Keeps a (nextSeq old s).2 := by
  unfold nextSeq; simp (maxDischargeDepth := 60) [h]

@[simp] theorem releaseOut_keeps {a s : State} (h : Keeps a s) (m : Nat) (err : Bool) : Keeps a (releaseOut m err s) := by
  simp only [releaseOut]; (repeat' split) <;> simp (maxDischargeDepth := 60) [h]

@[simp] theorem writeOack_keeps {a s : State} (h : Keeps a s) (m : Nat) (v : Nat) : Keeps a (writeOack m v s) := by
  unfold writeOack; simp (maxDischargeDepth := 60) [h]

theorem execSpiLinkStatus_keeps {a s : State} (h : Keeps a s) (instruction : Nat) : KeepsAll a (execSpiLinkStatus instruction s) := by
  unfold execSpiLinkStatus; simp (maxDischargeDepth := 60) [h]

theorem execHostLinkReset_keeps {a s : State} (h : Keeps a s) : KeepsAll a (execHostLinkReset s) := by
  unfold execHostLinkReset; simp (maxDischargeDepth := 60) [h]

theorem execHostLinkState_keeps {a s : State} (h : Keeps a s) (up : Bool) (speed : Nat) (msi : Nat) (aer : Bool) : KeepsAll a (execHostLinkState up speed msi aer s) := by
  unfold execHostLinkState; simp (maxDischargeDepth := 60) [h]

theorem execRingCtlEnable_keeps {a s : State} (h : Keeps a s) (ring : Nat) (value : Nat) : KeepsAll a (execRingCtlEnable ring value s) := by
  unfold execRingCtlEnable; simp (maxDischargeDepth := 60) [h]

theorem execRingCtlDisable_keeps {a s : State} (h : Keeps a s) (ring : Nat) (value : Nat) : KeepsAll a (execRingCtlDisable ring value s) := by
  unfold execRingCtlDisable; simp (maxDischargeDepth := 60) [h]

theorem execCmdTailDoorbell_keeps {a s : State} (h : Keeps a s) (ring : Nat) (value : Nat) : KeepsAll a (execCmdTailDoorbell ring value s) := by
  unfold execCmdTailDoorbell; simp (maxDischargeDepth := 60) [h]

@[simp] theorem ringReject_keeps {a s : State} (h : Keeps a s) (r : Nat) (slot : Nat) (path : Path) (st : Status) : Keeps a (ringReject r slot path st s) := by
  unfold ringReject; simp (maxDischargeDepth := 60) [h]

@[simp] theorem ringPacket_keeps {a s : State} (h : Keeps a s) (p : Packet) : Keeps a (ringPacket p s) := by
  unfold ringPacket; (repeat' split) <;> simp (maxDischargeDepth := 60) [h]

theorem execDescriptorFetch_keeps {a s : State} (h : Keeps a s) (ring : Nat) (desc : List Byte) (packet : Option (List Byte)) : KeepsAll a (execDescriptorFetch ring desc packet s) := by
  unfold execDescriptorFetch; (repeat' split) <;> simp (maxDischargeDepth := 60) [h]

theorem execCompletionWrite_keeps {a s : State} (h : Keeps a s) (ring : Nat) : KeepsAll a (execCompletionWrite ring s) := by
  unfold execCompletionWrite; simp (maxDischargeDepth := 60) [h]

theorem execCmpHeadAdvance_keeps {a s : State} (h : Keeps a s) (ring : Nat) (value : Nat) : KeepsAll a (execCmpHeadAdvance ring value s) := by
  unfold execCmpHeadAdvance; simp (maxDischargeDepth := 60) [h]

theorem execRingModerationTimeout_keeps {a s : State} (h : Keeps a s) (ring : Nat) : KeepsAll a (execRingModerationTimeout ring s) := by
  unfold execRingModerationTimeout; simp (maxDischargeDepth := 60) [h]

theorem execMbxPost_keeps {a s : State} (h : Keeps a s) (mailbox : Nat) (value : Nat) : KeepsAll a (execMbxPost mailbox value s) := by
  unfold execMbxPost; simp (maxDischargeDepth := 60) [h]

theorem execMbxDiscard_keeps {a s : State} (h : Keeps a s) (mailbox : Nat) (value : Nat) : KeepsAll a (execMbxDiscard mailbox value s) := by
  unfold execMbxDiscard; simp (maxDischargeDepth := 60) [h]

@[simp] theorem mbxPacket_keeps {a s : State} (h : Keeps a s) (p : Packet) : Keeps a (mbxPacket p s) := by
  unfold mbxPacket; (repeat' split) <;> simp (maxDischargeDepth := 60) [h]

@[simp] theorem mbxTake_keeps {a s : State} (h : Keeps a s) (m : Nat) : Keeps a (mbxTake m s) := by
  simp only [mbxTake]; (repeat' split) <;> simp (maxDischargeDepth := 60) [h]

theorem execMbxIack_keeps {a s : State} (h : Keeps a s) (mailbox : Nat) : KeepsAll a (execMbxIack mailbox s) := by
  unfold execMbxIack; simp (maxDischargeDepth := 60) [h]

@[simp] theorem postOut_keeps {a s : State} (h : Keeps a s) (m : Nat) (seg : Nat) (b : List Byte) : Keeps a (postOut m seg b s) := by
  unfold postOut; simp (maxDischargeDepth := 60) [h]

@[simp] theorem outboundPost_keeps {a s : State} (h : Keeps a s) (m : Nat) : Keeps a (outboundPost m s) := by
  unfold outboundPost; (repeat' split) <;> simp (maxDischargeDepth := 60) [h]

theorem execMbxOutboundPost_keeps {a s : State} (h : Keeps a s) (mailbox : Nat) : KeepsAll a (execMbxOutboundPost mailbox s) := by
  unfold execMbxOutboundPost; simp (maxDischargeDepth := 60) [h]

theorem execMbxOack_keeps {a s : State} (h : Keeps a s) (mailbox : Nat) (value : Nat) : KeepsAll a (execMbxOack mailbox value s) := by
  unfold execMbxOack; simp (maxDischargeDepth := 60) [h]

theorem execMbxAged_keeps {a s : State} (h : Keeps a s) (mailbox : Nat) : KeepsAll a (execMbxAged mailbox s) := by
  unfold execMbxAged; simp (maxDischargeDepth := 60) [h]

theorem execServiceConnectionOpen_keeps {a s : State} (h : Keeps a s) : KeepsAll a (execServiceConnectionOpen s) := by
  unfold execServiceConnectionOpen; simp (maxDischargeDepth := 60) [h]

theorem execServicePacket_keeps {a s : State} (h : Keeps a s) (b : List Byte) : KeepsAll a (execServicePacket b s) := by
  simp only [execServicePacket]; (repeat' split) <;> simp (maxDischargeDepth := 60) [h]

theorem execServiceConnectionClose_keeps {a s : State} (h : Keeps a s) : KeepsAll a (execServiceConnectionClose s) := by
  unfold execServiceConnectionClose; simp (maxDischargeDepth := 60) [h]

end Sys2Proof.Machine
end

