-- ==== Sys2Proof/Laws/Ticks.lean ====
section
/-!
SUPPORT. Laws/Ticks.lean: what each function of Machine/Ticks.lean keeps (Safety.lean).
-/
namespace Sys2Proof.Machine

@[simp] theorem issueLast_keeps {a s : State} (h : Keeps a s) : Keeps a (issueLast s) := by
  unfold issueLast; (repeat' split) <;> simp (maxDischargeDepth := 60) [h]

@[simp] theorem deferSource_keeps {a s : State} (h : Keeps a s) (q : Quota) : Keeps a (deferSource s q) := by
  unfold deferSource; simp (maxDischargeDepth := 60) [h]

@[simp] theorem deferSources_keeps {a s : State} (h : Keeps a s) : Keeps a (deferSources s) := by
  simp (maxDischargeDepth := 60) [deferSources, h, Keeps.foldl]

@[simp] theorem admitAll_keeps {a s : State} (h : Keeps a s) (cls index : Nat) (n : Nat) : Keeps a (admitAll cls index n s) := by
  induction n generalizing s with
  | zero => exact h
  | succ n ih => exact ih (acceptHead_keeps h (fun p x => runWaiting_keeps (.refl x) p) cls index)

@[simp] theorem beforeSeal_keeps {a s : State} (h : Keeps a s) : Keeps a (beforeSeal s) := by
  unfold beforeSeal; simp (maxDischargeDepth := 60) [h]

@[simp] theorem admitHeld_keeps {a s : State} (h : Keeps a s) (cls index : Nat) (n : Nat) : Keeps a (admitHeld cls index n s) := by
  induction n generalizing s with
  | zero => exact h
  | succ n ih => unfold admitHeld; dsimp only; (repeat' split) <;> first | exact h | exact ih (acceptHead_keeps h (fun p x => runWaiting_keeps (.refl x) p) cls index)

@[simp] theorem admitSources_keeps {a s : State} (h : Keeps a s) : Keeps a (admitSources s) := by
  simp (maxDischargeDepth := 60) [admitSources, h, Keeps.foldl]

@[simp] theorem roleBoundary_keeps {a s : State} (h : Keeps a s) : Keeps a (roleBoundary s) := by
  unfold roleBoundary; simp (maxDischargeDepth := 60) [h]

@[simp] theorem openTick_keeps {a s : State} (h : Keeps a s) (last : Nat) : Keeps a (openTick last s) := by
  unfold openTick; simp (maxDischargeDepth := 60) [h]

@[simp] theorem storeWaybill_keeps {a s : State} (h : Keeps a s) (w : Waybill) : Keeps a (storeWaybill w s) := by
  unfold storeWaybill; simp (maxDischargeDepth := 60) [h]

@[simp] theorem modClerk_keeps {a s : State} (h : Keeps a s) (f : Clerk → Clerk) : Keeps a (modClerk f s) := by
  unfold modClerk; simp (maxDischargeDepth := 60) [h]

@[simp] theorem sendStiles_keeps {a s : State} (h : Keeps a s) (r : TickResult) : Keeps a (sendStiles r s) := by
  unfold sendStiles; simp (maxDischargeDepth := 60) [h]

@[simp] theorem noteTaints_keeps {a s : State} (h : Keeps a s) (before : Ordered) (tick : Nat) : Keeps a (noteTaints before tick s) := by
  simp (maxDischargeDepth := 60) [noteTaints, h, Keeps.foldl]

@[simp] theorem ungateDrive_keeps {a s : State} (h : Keeps a s) (before : Ordered) : Keeps a (ungateDrive before s) := by
  unfold ungateDrive; simp (maxDischargeDepth := 60) [h]

@[simp] theorem computeWaybill_keeps {a s : State} (h : Keeps a s) (w : Waybill) (d : Digest) : Keeps a (computeWaybill w d s) := by
  unfold computeWaybill; simp (maxDischargeDepth := 60) [h]

@[simp] theorem releaseHeld_keeps {a s : State} (h : Keeps a s) : Keeps a (releaseHeld s) := by
  simp (maxDischargeDepth := 60) [releaseHeld, h, Keeps.foldl]

@[simp] theorem closeTick_keeps {a s : State} (h : Keeps a s) (es : List Entry) (carry : List Entry) : Keeps a (closeTick es carry s) := by
  simp only [closeTick]; (repeat' split) <;> simp (maxDischargeDepth := 60) [h, Keeps.foldl]

@[simp] theorem activeBoundary_keeps {a s : State} (h : Keeps a s) : Keeps a (activeBoundary s) := by
  unfold activeBoundary; simp (maxDischargeDepth := 60) [h]

@[simp] theorem addRecord_keeps {a s : State} (h : Keeps a s) (d : DigestRec) : Keeps a (addRecord d s) := by
  unfold addRecord; simp (maxDischargeDepth := 60) [h]

@[simp] theorem makeCkpt_keeps {a s : State} (h : Keeps a s) (tick : Nat) (chain : Digest) (o : Ordered) (installed : Bool) : Keeps a (makeCkpt tick chain o installed s).1 := by
  unfold makeCkpt; simp (maxDischargeDepth := 60) [h]

@[simp] theorem standbyBoundary_keeps {a s : State} (h : Keeps a s) : Keeps a (standbyBoundary s) := by
  unfold standbyBoundary; simp (maxDischargeDepth := 60) [h]

@[simp] theorem handOver_keeps {a s : State} (h : Keeps a s) (at_ : Nat) : Keeps a (handOver at_ s) := by
  unfold handOver; simp (maxDischargeDepth := 60) [h]

@[simp] theorem boundary_keeps {a s : State} (h : Keeps a s) : Keeps a (boundary s) := by
  unfold boundary; (repeat' split) <;> simp (maxDischargeDepth := 60) [h]

@[simp] theorem compareTwin_keeps {a s : State} (h : Keeps a s) (tick : Nat) : Keeps a (compareTwin tick s) := by
  unfold compareTwin; (repeat' split) <;> simp (maxDischargeDepth := 60) [h]

@[simp] theorem queueDown_keeps {a s : State} (h : Keeps a s) (fs : List (Nat × DownFrame)) : Keeps a (queueDown fs s) := by
  simp (maxDischargeDepth := 60) [queueDown, Keeps.foldl, h]

@[simp] theorem emitDown_keeps {a s : State} (h : Keeps a s) (r : TickResult) : Keeps a (emitDown r s) := by
  simp (maxDischargeDepth := 60) [emitDown, h]

@[simp] theorem fieldEntries_keeps {a s : State} (h : Keeps a s) (tick : Nat) (es : List (Nat × Nat × Nat × Nat)) : Keeps a (fieldEntries tick es s) := by
  unfold fieldEntries; simp (maxDischargeDepth := 60) [h]

@[simp] theorem emitField_keeps {a s : State} (h : Keeps a s) (r : TickResult) : Keeps a (emitField r s) := by
  unfold emitField; simp (maxDischargeDepth := 60) [h]

@[simp] theorem emitPowers_keeps {a s : State} (h : Keeps a s) (r : TickResult) : Keeps a (emitPowers r s) := by
  simp (maxDischargeDepth := 60) [emitPowers, h, Keeps.foldl]

@[simp] theorem modReplay_keeps {a s : State} (h : Keeps a s) (f : Replay → Replay) : Keeps a (modReplay f s) := by
  unfold modReplay; simp (maxDischargeDepth := 60) [h]

@[simp] theorem endReplay_keeps {a s : State} (h : Keeps a s) : Keeps a (endReplay s) := by
  unfold endReplay; simp (maxDischargeDepth := 60) [h]

theorem execTickBoundary_keeps {a s : State} (h : Keeps a s) (events : List StoreEvent) : KeepsAll a (execTickBoundary events s) := by
  simp (maxDischargeDepth := 60) [execTickBoundary, h, Keeps.foldl]

theorem execIssueStep_keeps {a s : State} (h : Keeps a s) : KeepsAll a (execIssueStep s) := by
  unfold execIssueStep; simp (maxDischargeDepth := 60) [h]

@[simp] theorem lateResult_keeps {a s : State} (h : Keeps a s) (r : TickResult) : Keeps a (lateResult r s) := by
  simp (maxDischargeDepth := 60) [lateResult, h, Keeps.foldl]

@[simp] theorem streamOut_keeps {a s : State} (h : Keeps a s) (r : TickResult) (o : Ordered) (rec : DigestRec) : Keeps a (streamOut r o rec s) := by
  unfold streamOut; simp (maxDischargeDepth := 60) [h]

@[simp] theorem takeCkpt_keeps {a s : State} (h : Keeps a s) (r : TickResult) (o : Ordered) : Keeps a (takeCkpt r o s) := by
  unfold takeCkpt; simp (maxDischargeDepth := 60) [h]

@[simp] theorem commitReplied_keeps {a s : State} (h : Keeps a s) (r : TickResult) : Keeps a (commitReplied r s) := by
  unfold commitReplied; simp (maxDischargeDepth := 60) [h]

@[simp] theorem releaseResult_keeps {a s : State} (h : Keeps a s) (r : TickResult) (o : Ordered) : Keeps a (releaseResult r o s) := by
  simp (maxDischargeDepth := 60) [releaseResult, h, Keeps.foldl]

theorem execResultRelease_keeps {a s : State} (h : Keeps a s) : KeepsAll a (execResultRelease s) := by
  simp only [execResultRelease]; (repeat' split) <;> simp (maxDischargeDepth := 60) [h]

@[simp] theorem replayMismatch_keeps {a s : State} (h : Keeps a s) (tick : Nat) (kind : Nat) : Keeps a (replayMismatch tick kind s) := by
  unfold replayMismatch; simp (maxDischargeDepth := 60) [h]

@[simp] theorem replayWaybill_keeps {a s : State} (h : Keeps a s) (w : Waybill) : Keeps a (replayWaybill w s) := by
  simp only [replayWaybill]; (repeat' split) <;> simp (maxDischargeDepth := 60) [h]

theorem execReplayTick_keeps {a s : State} (h : Keeps a s) : KeepsAll a (execReplayTick s) := by
  simp only [execReplayTick]; (repeat' split) <;> simp (maxDischargeDepth := 60) [h]

@[simp] theorem skipTick_keeps {a s : State} (h : Keeps a s) (ns : Int) : Keeps a (skipTick ns s) := by
  simp (maxDischargeDepth := 60) [skipTick, h, Keeps.foldl]

@[simp] theorem skipTicks_keeps {a s : State} (h : Keeps a s) (ns : Int) (n : Nat) : Keeps a (skipTicks ns n s) := by
  induction n generalizing s with
  | zero => exact h
  | succ n ih => exact ih (skipTick_keeps h ns)

@[simp] theorem stepForward_keeps {a s : State} (h : Keeps a s) (ns : Int) : Keeps a (stepForward ns s) := by
  unfold stepForward; simp (maxDischargeDepth := 60) [h]

theorem execTbmStep_keeps {a s : State} (h : Keeps a s) : KeepsAll a (execTbmStep s) := by
  unfold execTbmStep; (repeat' split) <;> simp (maxDischargeDepth := 60) [h]

end Sys2Proof.Machine
end

