-- ==== Sys2Proof/Laws/Registers.lean ====
section
/-!
SUPPORT. Laws/Registers.lean: what each function of Machine/Registers.lean keeps (Safety.lean).
-/
namespace Sys2Proof.Machine

@[simp] theorem badAccess_keeps {a s : State} (h : Keeps a s) : Keeps a (badAccess s) := by
  unfold badAccess; simp (maxDischargeDepth := 60) [h]

@[simp] theorem writeAperture_keeps {a s : State} (h : Keeps a s) (off : Nat) (size : Nat) (v : Nat) : Keeps a (writeAperture off size v s) := by
  unfold writeAperture; simp (maxDischargeDepth := 60) [h]

@[simp] theorem writeGlobal_keeps {a s : State} (h : Keeps a s) (off : Nat) (v : Nat) : Keeps a (writeGlobal off v s) := by
  unfold writeGlobal; (repeat' split) <;> simp (maxDischargeDepth := 60) [h]

@[simp] theorem writeRing_keeps {a s : State} (h : Keeps a s) (r : Nat) (reg : Nat) (v : Nat) : Keeps a (writeRing r reg v s) := by
  unfold writeRing; (repeat' split) <;> simp (maxDischargeDepth := 60) [h]

@[simp] theorem writeMbx_keeps {a s : State} (h : Keeps a s) (m : Nat) (reg : Nat) (v : Nat) : Keeps a (writeMbx m reg v s) := by
  unfold writeMbx; (repeat' split) <;> simp (maxDischargeDepth := 60) [h]

@[simp] theorem writeRtc_keeps {a s : State} (h : Keeps a s) (off : Nat) (v : Nat) : Keeps a (writeRtc off v s) := by
  unfold writeRtc; (repeat' split) <;> simp (maxDischargeDepth := 60) [h]

@[simp] theorem writeGbk_keeps {a s : State} (h : Keeps a s) (off : Nat) (v : Nat) : Keeps a (writeGbk off v s) := by
  unfold writeGbk; (repeat' split) <;> simp (maxDischargeDepth := 60) [h]

@[simp] theorem writeCnt_keeps {a s : State} (h : Keeps a s) (off : Nat) (v : Nat) : Keeps a (writeCnt off v s) := by
  unfold writeCnt; (repeat' split) <;> simp (maxDischargeDepth := 60) [h]

@[simp] theorem modStile_keeps {a s : State} (h : Keeps a s) (k : Nat) (f : Stile → Stile) : Keeps a (modStile k f s) := by
  unfold modStile; simp (maxDischargeDepth := 60) [h]

@[simp] theorem writeDiag_keeps {a s : State} (h : Keeps a s) (off : Nat) (v : Nat) : Keeps a (writeDiag off v s) := by
  unfold writeDiag; simp (maxDischargeDepth := 60) [h]

@[simp] theorem writeReg_keeps {a s : State} (h : Keeps a s) (off : Nat) (v : Nat) : Keeps a (writeReg off v s) := by
  unfold writeReg; simp (maxDischargeDepth := 60) [h]

theorem execRegisterWrite_keeps {a s : State} (h : Keeps a s) (offset : Nat) (value : Nat) (size : Nat) : KeepsAll a (execRegisterWrite offset value size s) := by
  unfold execRegisterWrite; simp (maxDischargeDepth := 60) [h]

@[simp] theorem readAperture_keeps {a s : State} (h : Keeps a s) (off : Nat) (size : Nat) : Keeps a (readAperture off size s).2 := by
  unfold readAperture; simp (maxDischargeDepth := 60) [h]

@[simp] theorem readCntVal_keeps {a s : State} (h : Keeps a s) (off : Nat) : Keeps a (readCntVal off s).2 := by
  unfold readCntVal; (repeat' split) <;> simp (maxDischargeDepth := 60) [h]

@[simp] theorem readShadowed_keeps {a s : State} (h : Keeps a s) (off : Nat) : Keeps a (readShadowed off s).2 := by
  unfold readShadowed; simp (maxDischargeDepth := 60) [h]

@[simp] theorem readReg_keeps {a s : State} (h : Keeps a s) (off : Nat) : Keeps a (readReg off s).2 := by
  unfold readReg; simp (maxDischargeDepth := 60) [h]

theorem execRegisterShadowRead_keeps {a s : State} (h : Keeps a s) (offset : Nat) (size : Nat) : KeepsAll a (execRegisterShadowRead offset size s) := by
  unfold execRegisterShadowRead; simp (maxDischargeDepth := 60) [h]

theorem execShadowTimeout_keeps {a s : State} (h : Keeps a s) (offset : Nat) : KeepsAll a (execShadowTimeout offset s) := by
  unfold execShadowTimeout; simp (maxDischargeDepth := 60) [h]

end Sys2Proof.Machine
end

