-- ==== Sys2Proof/Laws/Boot.lean ====
section
/-!
SUPPORT. Laws/Boot.lean: what each function of Machine/Boot.lean keeps (Safety.lean).
-/
namespace Sys2Proof.Machine

@[simp] theorem addGap_keeps {a s : State} (h : Keeps a s) (first : Nat) (last : Nat) : Keeps a (addGap first last s) := by
  unfold addGap; simp (maxDischargeDepth := 60) [h]

@[simp] theorem supplyRecords_keeps {a s : State} (h : Keeps a s) : Keeps a (supplyRecords s) := by
  simp only [supplyRecords]; (repeat' split) <;> simp (maxDischargeDepth := 60) [h]

@[simp] theorem dueRecord_keeps {a s : State} (h : Keeps a s) (d : Nat × Nat) : Keeps a (dueRecord d s) := by
  unfold dueRecord; (repeat' split) <;> simp (maxDischargeDepth := 60) [h]

@[simp] theorem modBoot_keeps {a s : State} (h : Keeps a s) (f : Boot → Boot) : Keeps a (modBoot f s) := by
  unfold modBoot; simp (maxDischargeDepth := 60) [h]

@[simp] theorem loadSave_keeps {a s : State} (h : Keeps a s) : Keeps a (loadSave s) := by
  unfold loadSave
  split
  · exact h
  · exact modBoot_keeps (modSupply_keeps (modGbk_of h _ (fun hg => ⟨List.length_take_le _ _, hg.2⟩)) _) _

@[simp] theorem bootRecords_keeps {a s : State} (h : Keeps a s) : Keeps a (bootRecords s) := by
  simp (maxDischargeDepth := 60) [bootRecords, h, Keeps.foldl]

@[simp] theorem bootRecord_keeps {a s : State} (h : Keeps a s) (restore : Nat) : Keeps a (bootRecord restore s) := by
  unfold bootRecord; simp (maxDischargeDepth := 60) [h]

@[simp] theorem enterCoppice_keeps {a s : State} (h : Keeps a s) (cause : Nat) : Keeps a (enterCoppice cause s) := by
  unfold enterCoppice; simp (maxDischargeDepth := 60) [h]

@[simp] theorem raiseReady_keeps {a s : State} (h : Keeps a s) : Keeps a (raiseReady s) := by
  unfold raiseReady; simp (maxDischargeDepth := 60) [h]

@[simp] theorem startTbm_keeps {a s : State} (h : Keeps a s) : Keeps a (startTbm s) := by
  unfold startTbm; simp (maxDischargeDepth := 60) [h]

@[simp] theorem checkCalibration_keeps {a s : State} (h : Keeps a s) (damaged : List Nat) : Keeps a (checkCalibration damaged s) := by
  unfold checkCalibration; simp (maxDischargeDepth := 60) [h]

@[simp] theorem checkRecords_keeps {a s : State} (h : Keeps a s) (damaged : List Nat) : Keeps a (checkRecords damaged s) := by
  simp only [checkRecords]; (repeat' split) <;> simp (maxDischargeDepth := 60) [h]

@[simp] theorem loadBinding_keeps {a s : State} (h : Keeps a s) : Keeps a (loadBinding s) := by
  unfold loadBinding; simp (maxDischargeDepth := 60) [h]

@[simp] theorem checkSlots_keeps {a s : State} (h : Keeps a s) (bad : List Nat) : Keeps a (checkSlots bad s) := by
  unfold checkSlots; (repeat' (first | split | refine Keeps.foldl (fun s x => ?_) _ ?_ | refine Keeps.foldlFst (fun s x => ?_) _ ?_ | dsimp only)) <;> simp (maxDischargeDepth := 60) [h]

@[simp] theorem bootToReady_keeps {a s : State} (h : Keeps a s) (badKeys : List Nat) (damaged : List Nat) : Keeps a (bootToReady badKeys damaged s) := by
  unfold bootToReady; simp (maxDischargeDepth := 60) [h]

@[simp] theorem bootFirst_keeps {a s : State} (h : Keeps a s) (readErrors : List Nat) (refused : List Nat) (badKeys : List Nat) (damaged : List Nat) : Keeps a (bootFirst readErrors refused badKeys damaged s) := by
  unfold bootFirst; simp (maxDischargeDepth := 60) [h]

@[simp] theorem clearLodges_keeps {a s : State} (h : Keeps a s) : Keeps a (clearLodges s) := by
  unfold clearLodges; simp (maxDischargeDepth := 60) [h]

@[simp] theorem settleRestore_keeps {a s : State} (h : Keeps a s) (tick : Nat) (o : Ordered) : Keeps a (settleRestore tick o s) := by
  unfold settleRestore; simp (maxDischargeDepth := 60) [h]

@[simp] theorem installCkpt_keeps {a s : State} (h : Keeps a s) (c : Checkpoint) : Keeps a (installCkpt c s) := by
  unfold installCkpt; simp (maxDischargeDepth := 60) [h]

@[simp] theorem coldRestore_keeps {a s : State} (h : Keeps a s) (damaged : List Nat) : Keeps a (coldRestore damaged s) := by
  unfold coldRestore; (repeat' split) <;> simp (maxDischargeDepth := 60) [h]

@[simp] theorem rerunWaybill_keeps {a s : State} (h : Keeps a s) (w : Waybill) (o : Ordered) : Keeps a (rerunWaybill w o s).1 := by
  simp (maxDischargeDepth := 60) [rerunWaybill, h, Keeps.foldl]

@[simp] theorem rerunAll_keeps {a s : State} (h : Keeps a s) (l : List Waybill) (o : Ordered) : Keeps a (rerunAll l o s).1 := by
  induction l generalizing s o with
  | nil => exact h
  | cons w r ih => unfold rerunAll; dsimp only; split; exact ih (rerunWaybill_keeps h _ _) _; exact h

@[simp] theorem warmRestore_keeps {a s : State} (h : Keeps a s) (c : Checkpoint) : Keeps a (warmRestore c s) := by
  unfold warmRestore; simp (maxDischargeDepth := 60) [h]

@[simp] theorem bootRestore_keeps {a s : State} (h : Keeps a s) (damaged : List Nat) : Keeps a (bootRestore damaged s) := by
  unfold bootRestore; (repeat' split) <;> simp (maxDischargeDepth := 60) [h]

@[simp] theorem restoreDrive_keeps {a s : State} (h : Keeps a s) (t : Nat) : Keeps a (restoreDrive t s) := by
  unfold restoreDrive; (repeat' (first | split | refine Keeps.foldl (fun s x => ?_) _ ?_ | refine Keeps.foldlFst (fun s x => ?_) _ ?_ | dsimp only)) <;> simp (maxDischargeDepth := 60) [h]

@[simp] theorem restoreMetro_keeps {a s : State} (h : Keeps a s) (t : Nat) : Keeps a (restoreMetro t s) := by
  simp (maxDischargeDepth := 60) [restoreMetro, h, Keeps.foldl]

theorem execBoot_keeps {a s : State} (h : Keeps a s) (readErrors : List Nat) (refused : List Nat) (badKeys : List Nat) (damaged : List Nat) (failed : Bool) : KeepsAll a (execBoot readErrors refused badKeys damaged failed s) := by
  unfold execBoot; simp (maxDischargeDepth := 60) [h]

@[simp] theorem resumeMeters_keeps {a s : State} (h : Keeps a s) (p : Nat) (t : Nat) : Keeps a (resumeMeters p t s) := by
  simp only [resumeMeters]; (repeat' split) <;> simp (maxDischargeDepth := 60) [h, Keeps.foldl]

@[simp] theorem resumePlan_keeps {a s : State} (h : Keeps a s) : Keeps a (resumePlan s) := by
  unfold resumePlan; simp (maxDischargeDepth := 60) [h]

@[simp] theorem openResume_keeps {a s : State} (h : Keeps a s) (t : Nat) : Keeps a (openResume t s) := by
  unfold openResume; simp (maxDischargeDepth := 60) [h]

theorem execResumeTickOpen_keeps {a s : State} (h : Keeps a s) (tick : Nat) : KeepsAll a (execResumeTickOpen tick s) := by
  unfold execResumeTickOpen; simp (maxDischargeDepth := 60) [h]

end Sys2Proof.Machine
end

