-- ==== Sys2Proof/Laws/Recovery.lean ====
section
/-!
SUPPORT. Laws/Recovery.lean: what each function of Machine/Recovery.lean keeps (Safety.lean).
-/
namespace Sys2Proof.Machine

@[simp] theorem dropInput_keeps {a s : State} (h : Keeps a s) (k : Nat) : Keeps a (dropInput k s) := by
  unfold dropInput; (repeat' split) <;> simp (maxDischargeDepth := 60) [h]

@[simp] theorem faultUnlessFaulted_keeps {a s : State} (h : Keeps a s) (x1 : Handle) (cause : Nat) : Keeps a (faultUnlessFaulted x1 cause s) := by
  unfold faultUnlessFaulted; simp (maxDischargeDepth := 60) [h]

@[simp] theorem rebuildFails_keeps {a s : State} (h : Keeps a s) (b : Rebuild) (cause : Nat) : Keeps a (rebuildFails b cause s) := by
  unfold rebuildFails; (repeat' split) <;> simp (maxDischargeDepth := 60) [h]

@[simp] theorem modInn_keeps {a s : State} (h : Keeps a s) (f : Inn → Inn) : Keeps a (modInn f s) := by
  unfold modInn; simp (maxDischargeDepth := 60) [h]

@[simp] theorem startRebuild_keeps {a s : State} (h : Keeps a s) (b : Rebuild) : Keeps a (startRebuild b s) := by
  unfold startRebuild; (repeat' split) <;> simp (maxDischargeDepth := 60) [h]

theorem execRebuildStart_keeps {a s : State} (h : Keeps a s) (owner : Handle) : KeepsAll a (execRebuildStart owner s) := by
  unfold execRebuildStart; (repeat' split) <;> simp (maxDischargeDepth := 60) [h]

@[simp] theorem releaseWithheld_keeps {a s : State} (h : Keeps a s) (x1 : Handle) (x : Withheld) : Keeps a (releaseWithheld x1 x s) := by
  simp (maxDischargeDepth := 60) [releaseWithheld, h, Keeps.foldl]

@[simp] theorem finishRebuild_keeps {a s : State} (h : Keeps a s) (b : Rebuild) : Keeps a (finishRebuild b s) := by
  simp (maxDischargeDepth := 60) [finishRebuild, h, Keeps.foldl]

theorem execRebuildComplete_keeps {a s : State} (h : Keeps a s) (owner : Handle) : KeepsAll a (execRebuildComplete owner s) := by
  unfold execRebuildComplete; (repeat' split) <;> simp (maxDischargeDepth := 60) [h]

@[simp] theorem stileEvent_keeps {a s : State} (h : Keeps a s) (k : Nat) (src : Nat) (sel : Nat) (n : Nat) : Keeps a (stileEvent k src sel n s) := by
  unfold stileEvent; simp (maxDischargeDepth := 60) [h]

@[simp] theorem stilePacket_keeps {a s : State} (h : Keeps a s) (k : Nat) (words : Nat) (corrected : Nat) (uncorrectable : Nat) (underrun : Bool) (stalls : Nat) (peak : Nat) : Keeps a (stilePacket k words corrected uncorrectable underrun stalls peak s) := by
  unfold stilePacket; simp (maxDischargeDepth := 60) [h]

@[simp] theorem losePacket_keeps {a s : State} (h : Keeps a s) (k : Nat) (cause : Nat) (reader : Handle) : Keeps a (losePacket k cause reader s) := by
  unfold losePacket; (repeat' split) <;> simp (maxDischargeDepth := 60) [h]

theorem execStilePacketRead_keeps {a s : State} (h : Keeps a s) (stile : Nat) (words : Nat) (corrected : Nat) (uncorrectable : Nat) (underrun : Bool) (stalls : Nat) (peak : Nat) (reader : Handle) : KeepsAll a (execStilePacketRead stile words corrected uncorrectable underrun stalls peak reader s) := by
  unfold execStilePacketRead; simp (maxDischargeDepth := 60) [h]

@[simp] theorem restartFarEnd_keeps {a s : State} (h : Keeps a s) (d : Nat) : Keeps a (restartFarEnd d s) := by
  unfold restartFarEnd; simp (maxDischargeDepth := 60) [h]

theorem execStileResend_keeps {a s : State} (h : Keeps a s) (stile : Nat) : KeepsAll a (execStileResend stile s) := by
  unfold execStileResend; (repeat' split) <;> simp (maxDischargeDepth := 60) [h]

end Sys2Proof.Machine
end

