-- ==== Sys2Proof/Laws/TwinRun.lean ====
section
/-!
SUPPORT. Laws/TwinRun.lean: what each function of Machine/TwinRun.lean keeps (Safety.lean).
-/
namespace Sys2Proof.Machine

@[simp] theorem catchUp_keeps {a s : State} (h : Keeps a s) (cause p t k n : Nat) : Keeps a (catchUp cause p t k n s) := by
  induction k generalizing s n with
  | zero => exact h
  | succ k ih => exact ih (issueLast_keeps (closeTick_keeps (modClerk_keeps h _) _ _)) _

@[simp] theorem keepEntries_keeps {a s : State} (h : Keeps a s) : Keeps a (keepEntries s) := by
  unfold keepEntries; simp (maxDischargeDepth := 60) [h]

@[simp] theorem enterHandover_keeps {a s : State} (h : Keeps a s) (at_ : Nat) : Keeps a (enterHandover at_ s) := by
  unfold enterHandover; simp (maxDischargeDepth := 60) [h]

@[simp] theorem raiseCounters_keeps {a s : State} (h : Keeps a s) : Keeps a (raiseCounters s) := by
  unfold raiseCounters; simp (maxDischargeDepth := 60) [h]

@[simp] theorem takeOver_keeps {a s : State} (h : Keeps a s) (cause : Nat) (t : Nat) : Keeps a (takeOver cause t s) := by
  unfold takeOver; simp (maxDischargeDepth := 60) [h]

theorem execTakeover_keeps {a s : State} (h : Keeps a s) : KeepsAll a (execTakeover s) := by
  unfold execTakeover; (repeat' split) <;> simp (maxDischargeDepth := 60) [h]

@[simp] theorem importPaths_keeps {a s : State} (h : Keeps a s) (counters : List (Nat × Nat)) (windows : List (Nat × Nat × List Nat)) : Keeps a (importPaths counters windows s) := by
  unfold importPaths; simp (maxDischargeDepth := 60) [h]

@[simp] theorem importWaybill_keeps {a s : State} (h : Keeps a s) (w : Waybill) : Keeps a (importWaybill w s) := by
  unfold importWaybill; simp (maxDischargeDepth := 60) [h]

@[simp] theorem importRecord_keeps {a s : State} (h : Keeps a s) (tick : Nat) (digest : List Byte) (tainted : Bool) : Keeps a (importRecord tick digest tainted s) := by
  unfold importRecord; simp (maxDischargeDepth := 60) [h]

theorem execWaybillImport_keeps {a s : State} (h : Keeps a s) (waybill : List Byte) (counters : List (Nat × Nat)) (windows : List (Nat × Nat × List Nat)) (digestTick : Nat) (digest : List Byte) (tainted : Bool) : KeepsAll a (execWaybillImport waybill counters windows digestTick digest tainted s) := by
  unfold execWaybillImport; simp (maxDischargeDepth := 60) [h]

@[simp] theorem twinPost_keeps {a s : State} (h : Keeps a s) (m : Nat) (ilen : Nat) (data : List Byte) : Keeps a (twinPost m ilen data s) := by
  unfold twinPost; simp (maxDischargeDepth := 60) [h]

theorem execTwinFrameReceive_keeps {a s : State} (h : Keeps a s) (ok : Bool) (frame : TwinFrame) : KeepsAll a (execTwinFrameReceive ok frame s) := by
  simp only [execTwinFrameReceive]; (repeat' split) <;> simp (maxDischargeDepth := 60) [h]

theorem execTwinFrameResend_keeps {a s : State} (h : Keeps a s) : KeepsAll a (execTwinFrameResend s) := by
  unfold execTwinFrameResend; (repeat' split) <;> simp (maxDischargeDepth := 60) [h]

@[simp] theorem takeCheckpoint_keeps {a s : State} (h : Keeps a s) (c : Checkpoint) : Keeps a (takeCheckpoint c s) := by
  unfold takeCheckpoint; simp (maxDischargeDepth := 60) [h]

@[simp] theorem takePlan_keeps {a s : State} (h : Keeps a s) (f : InForce) : Keeps a (takePlan f s) := by
  unfold takePlan; simp (maxDischargeDepth := 60) [h]

theorem execSyncComplete_keeps {a s : State} (h : Keeps a s) (cause : Nat) (plan : InForce) (ckpt : Checkpoint) (waybills : List (List Byte)) : KeepsAll a (execSyncComplete cause plan ckpt waybills s) := by
  simp (maxDischargeDepth := 60) [execSyncComplete, h, Keeps.foldl]

theorem execHandover_keeps {a s : State} (h : Keeps a s) : KeepsAll a (execHandover s) := by
  unfold execHandover; (repeat' split) <;> simp (maxDischargeDepth := 60) [h]

end Sys2Proof.Machine
end

