-- ==== Sys2Proof/Laws/State.lean ====
section
/-!
SUPPORT. Laws/State.lean: which fields each update of the state leaves as they were. It stands after the laws of `Keeps`, whose
simplifications work on the updates as a whole.
-/
namespace Sys2Proof.Machine

@[simp] theorem countN_leaves (src : Nat) (n : Nat) (s : State) :
    (countN src n s).pending = s.pending ∧ (countN src n s).free = s.free ∧ (countN src n s).uptime = s.uptime ∧ (countN src n s).mode = s.mode ∧ (countN src n s).clerk = s.clerk ∧ (countN src n s).ord = s.ord ∧ (countN src n s).rel = s.rel ∧ (countN src n s).relTick = s.relTick ∧ (countN src n s).computed = s.computed ∧ (countN src n s).early = s.early ∧ (countN src n s).contexts = s.contexts ∧ (countN src n s).replayOrd = s.replayOrd ∧ (countN src n s).plan = s.plan ∧ (countN src n s).host = s.host ∧ (countN src n s).paths = s.paths ∧ (countN src n s).streams = s.streams ∧ (countN src n s).gbk = s.gbk ∧ (countN src n s).rtc = s.rtc ∧ (countN src n s).time = s.time ∧ (countN src n s).drive = s.drive ∧ (countN src n s).metro = s.metro ∧ (countN src n s).air = s.air ∧ (countN src n s).store = s.store ∧ (countN src n s).inn = s.inn ∧ (countN src n s).ckpts = s.ckpts ∧ (countN src n s).saved = s.saved ∧ (countN src n s).vault = s.vault ∧ (countN src n s).bhLink = s.bhLink ∧ (countN src n s).twin = s.twin ∧ (countN src n s).boot = s.boot ∧ (countN src n s).firmware = s.firmware ∧ (countN src n s).supply = s.supply :=
  ⟨rfl, rfl, rfl, rfl, rfl, rfl, rfl, rfl, rfl, rfl, rfl, rfl, rfl, rfl, rfl, rfl, rfl, rfl, rfl, rfl, rfl, rfl, rfl, rfl, rfl, rfl, rfl, rfl, rfl, rfl, rfl, rfl⟩

@[simp] theorem count_leaves (src : Nat) (s : State) :
    (count src s).pending = s.pending ∧ (count src s).free = s.free ∧ (count src s).uptime = s.uptime ∧ (count src s).mode = s.mode ∧ (count src s).clerk = s.clerk ∧ (count src s).ord = s.ord ∧ (count src s).rel = s.rel ∧ (count src s).relTick = s.relTick ∧ (count src s).computed = s.computed ∧ (count src s).early = s.early ∧ (count src s).contexts = s.contexts ∧ (count src s).replayOrd = s.replayOrd ∧ (count src s).plan = s.plan ∧ (count src s).host = s.host ∧ (count src s).paths = s.paths ∧ (count src s).streams = s.streams ∧ (count src s).gbk = s.gbk ∧ (count src s).rtc = s.rtc ∧ (count src s).time = s.time ∧ (count src s).drive = s.drive ∧ (count src s).metro = s.metro ∧ (count src s).air = s.air ∧ (count src s).store = s.store ∧ (count src s).inn = s.inn ∧ (count src s).ckpts = s.ckpts ∧ (count src s).saved = s.saved ∧ (count src s).vault = s.vault ∧ (count src s).bhLink = s.bhLink ∧ (count src s).twin = s.twin ∧ (count src s).boot = s.boot ∧ (count src s).firmware = s.firmware ∧ (count src s).supply = s.supply :=
  ⟨rfl, rfl, rfl, rfl, rfl, rfl, rfl, rfl, rfl, rfl, rfl, rfl, rfl, rfl, rfl, rfl, rfl, rfl, rfl, rfl, rfl, rfl, rfl, rfl, rfl, rfl, rfl, rfl, rfl, rfl, rfl, rfl⟩

@[simp] theorem gbk_leaves (kind : Nat) (master : Nat) (detail : List Byte) (s : State) :
    (gbk kind master detail s).pending = s.pending ∧ (gbk kind master detail s).free = s.free ∧ (gbk kind master detail s).uptime = s.uptime ∧ (gbk kind master detail s).mode = s.mode ∧ (gbk kind master detail s).clerk = s.clerk ∧ (gbk kind master detail s).ord = s.ord ∧ (gbk kind master detail s).rel = s.rel ∧ (gbk kind master detail s).relTick = s.relTick ∧ (gbk kind master detail s).computed = s.computed ∧ (gbk kind master detail s).early = s.early ∧ (gbk kind master detail s).contexts = s.contexts ∧ (gbk kind master detail s).replayOrd = s.replayOrd ∧ (gbk kind master detail s).plan = s.plan ∧ (gbk kind master detail s).host = s.host ∧ (gbk kind master detail s).paths = s.paths ∧ (gbk kind master detail s).streams = s.streams ∧ (gbk kind master detail s).cnt = s.cnt ∧ (gbk kind master detail s).rtc = s.rtc ∧ (gbk kind master detail s).time = s.time ∧ (gbk kind master detail s).drive = s.drive ∧ (gbk kind master detail s).metro = s.metro ∧ (gbk kind master detail s).air = s.air ∧ (gbk kind master detail s).store = s.store ∧ (gbk kind master detail s).inn = s.inn ∧ (gbk kind master detail s).ckpts = s.ckpts ∧ (gbk kind master detail s).saved = s.saved ∧ (gbk kind master detail s).vault = s.vault ∧ (gbk kind master detail s).bhLink = s.bhLink ∧ (gbk kind master detail s).twin = s.twin ∧ (gbk kind master detail s).boot = s.boot ∧ (gbk kind master detail s).firmware = s.firmware ∧ (gbk kind master detail s).supply = s.supply :=
  ⟨rfl, rfl, rfl, rfl, rfl, rfl, rfl, rfl, rfl, rfl, rfl, rfl, rfl, rfl, rfl, rfl, rfl, rfl, rfl, rfl, rfl, rfl, rfl, rfl, rfl, rfl, rfl, rfl, rfl, rfl, rfl, rfl⟩

@[simp] theorem gbkDerived_leaves (tick : Nat) (d : Derived) (s : State) :
    (gbkDerived tick d s).pending = s.pending ∧ (gbkDerived tick d s).free = s.free ∧ (gbkDerived tick d s).uptime = s.uptime ∧ (gbkDerived tick d s).mode = s.mode ∧ (gbkDerived tick d s).clerk = s.clerk ∧ (gbkDerived tick d s).ord = s.ord ∧ (gbkDerived tick d s).rel = s.rel ∧ (gbkDerived tick d s).relTick = s.relTick ∧ (gbkDerived tick d s).computed = s.computed ∧ (gbkDerived tick d s).early = s.early ∧ (gbkDerived tick d s).contexts = s.contexts ∧ (gbkDerived tick d s).replayOrd = s.replayOrd ∧ (gbkDerived tick d s).plan = s.plan ∧ (gbkDerived tick d s).host = s.host ∧ (gbkDerived tick d s).paths = s.paths ∧ (gbkDerived tick d s).streams = s.streams ∧ (gbkDerived tick d s).cnt = s.cnt ∧ (gbkDerived tick d s).rtc = s.rtc ∧ (gbkDerived tick d s).time = s.time ∧ (gbkDerived tick d s).drive = s.drive ∧ (gbkDerived tick d s).metro = s.metro ∧ (gbkDerived tick d s).air = s.air ∧ (gbkDerived tick d s).store = s.store ∧ (gbkDerived tick d s).inn = s.inn ∧ (gbkDerived tick d s).ckpts = s.ckpts ∧ (gbkDerived tick d s).saved = s.saved ∧ (gbkDerived tick d s).vault = s.vault ∧ (gbkDerived tick d s).bhLink = s.bhLink ∧ (gbkDerived tick d s).twin = s.twin ∧ (gbkDerived tick d s).boot = s.boot ∧ (gbkDerived tick d s).firmware = s.firmware ∧ (gbkDerived tick d s).supply = s.supply :=
  ⟨rfl, rfl, rfl, rfl, rfl, rfl, rfl, rfl, rfl, rfl, rfl, rfl, rfl, rfl, rfl, rfl, rfl, rfl, rfl, rfl, rfl, rfl, rfl, rfl, rfl, rfl, rfl, rfl, rfl, rfl, rfl, rfl⟩

@[simp] theorem takeTag_leaves (p : Packet) (s : State) :
    (takeTag p s).pending = s.pending ∧ (takeTag p s).free = s.free ∧ (takeTag p s).uptime = s.uptime ∧ (takeTag p s).mode = s.mode ∧ (takeTag p s).clerk = s.clerk ∧ (takeTag p s).ord = s.ord ∧ (takeTag p s).rel = s.rel ∧ (takeTag p s).relTick = s.relTick ∧ (takeTag p s).computed = s.computed ∧ (takeTag p s).early = s.early ∧ (takeTag p s).contexts = s.contexts ∧ (takeTag p s).replayOrd = s.replayOrd ∧ (takeTag p s).plan = s.plan ∧ (takeTag p s).host = s.host ∧ (takeTag p s).streams = s.streams ∧ (takeTag p s).gbk = s.gbk ∧ (takeTag p s).cnt = s.cnt ∧ (takeTag p s).rtc = s.rtc ∧ (takeTag p s).time = s.time ∧ (takeTag p s).drive = s.drive ∧ (takeTag p s).metro = s.metro ∧ (takeTag p s).air = s.air ∧ (takeTag p s).store = s.store ∧ (takeTag p s).inn = s.inn ∧ (takeTag p s).ckpts = s.ckpts ∧ (takeTag p s).saved = s.saved ∧ (takeTag p s).vault = s.vault ∧ (takeTag p s).bhLink = s.bhLink ∧ (takeTag p s).twin = s.twin ∧ (takeTag p s).boot = s.boot ∧ (takeTag p s).firmware = s.firmware ∧ (takeTag p s).supply = s.supply :=
  ⟨rfl, rfl, rfl, rfl, rfl, rfl, rfl, rfl, rfl, rfl, rfl, rfl, rfl, rfl, rfl, rfl, rfl, rfl, rfl, rfl, rfl, rfl, rfl, rfl, rfl, rfl, rfl, rfl, rfl, rfl, rfl, rfl⟩

@[simp] theorem freeTag_leaves (path : Path) (tag : Nat) (s : State) :
    (freeTag path tag s).pending = s.pending ∧ (freeTag path tag s).free = s.free ∧ (freeTag path tag s).uptime = s.uptime ∧ (freeTag path tag s).mode = s.mode ∧ (freeTag path tag s).clerk = s.clerk ∧ (freeTag path tag s).ord = s.ord ∧ (freeTag path tag s).rel = s.rel ∧ (freeTag path tag s).relTick = s.relTick ∧ (freeTag path tag s).computed = s.computed ∧ (freeTag path tag s).early = s.early ∧ (freeTag path tag s).contexts = s.contexts ∧ (freeTag path tag s).replayOrd = s.replayOrd ∧ (freeTag path tag s).plan = s.plan ∧ (freeTag path tag s).host = s.host ∧ (freeTag path tag s).streams = s.streams ∧ (freeTag path tag s).gbk = s.gbk ∧ (freeTag path tag s).cnt = s.cnt ∧ (freeTag path tag s).rtc = s.rtc ∧ (freeTag path tag s).time = s.time ∧ (freeTag path tag s).drive = s.drive ∧ (freeTag path tag s).metro = s.metro ∧ (freeTag path tag s).air = s.air ∧ (freeTag path tag s).store = s.store ∧ (freeTag path tag s).inn = s.inn ∧ (freeTag path tag s).ckpts = s.ckpts ∧ (freeTag path tag s).saved = s.saved ∧ (freeTag path tag s).vault = s.vault ∧ (freeTag path tag s).bhLink = s.bhLink ∧ (freeTag path tag s).twin = s.twin ∧ (freeTag path tag s).boot = s.boot ∧ (freeTag path tag s).firmware = s.firmware ∧ (freeTag path tag s).supply = s.supply :=
  ⟨rfl, rfl, rfl, rfl, rfl, rfl, rfl, rfl, rfl, rfl, rfl, rfl, rfl, rfl, rfl, rfl, rfl, rfl, rfl, rfl, rfl, rfl, rfl, rfl, rfl, rfl, rfl, rfl, rfl, rfl, rfl, rfl⟩

@[simp] theorem markAnswered_leaves (path : Path) (tag : Nat) (s : State) :
    (markAnswered path tag s).pending = s.pending ∧ (markAnswered path tag s).free = s.free ∧ (markAnswered path tag s).uptime = s.uptime ∧ (markAnswered path tag s).mode = s.mode ∧ (markAnswered path tag s).clerk = s.clerk ∧ (markAnswered path tag s).ord = s.ord ∧ (markAnswered path tag s).rel = s.rel ∧ (markAnswered path tag s).relTick = s.relTick ∧ (markAnswered path tag s).computed = s.computed ∧ (markAnswered path tag s).early = s.early ∧ (markAnswered path tag s).contexts = s.contexts ∧ (markAnswered path tag s).replayOrd = s.replayOrd ∧ (markAnswered path tag s).plan = s.plan ∧ (markAnswered path tag s).host = s.host ∧ (markAnswered path tag s).streams = s.streams ∧ (markAnswered path tag s).gbk = s.gbk ∧ (markAnswered path tag s).cnt = s.cnt ∧ (markAnswered path tag s).rtc = s.rtc ∧ (markAnswered path tag s).time = s.time ∧ (markAnswered path tag s).drive = s.drive ∧ (markAnswered path tag s).metro = s.metro ∧ (markAnswered path tag s).air = s.air ∧ (markAnswered path tag s).store = s.store ∧ (markAnswered path tag s).inn = s.inn ∧ (markAnswered path tag s).ckpts = s.ckpts ∧ (markAnswered path tag s).saved = s.saved ∧ (markAnswered path tag s).vault = s.vault ∧ (markAnswered path tag s).bhLink = s.bhLink ∧ (markAnswered path tag s).twin = s.twin ∧ (markAnswered path tag s).boot = s.boot ∧ (markAnswered path tag s).firmware = s.firmware ∧ (markAnswered path tag s).supply = s.supply :=
  ⟨rfl, rfl, rfl, rfl, rfl, rfl, rfl, rfl, rfl, rfl, rfl, rfl, rfl, rfl, rfl, rfl, rfl, rfl, rfl, rfl, rfl, rfl, rfl, rfl, rfl, rfl, rfl, rfl, rfl, rfl, rfl, rfl⟩

@[simp] theorem placeEntry_leaves (e : Entry) (s : State) :
    (placeEntry e s).pending = s.pending ∧ (placeEntry e s).free = s.free ∧ (placeEntry e s).uptime = s.uptime ∧ (placeEntry e s).mode = s.mode ∧ (placeEntry e s).ord = s.ord ∧ (placeEntry e s).rel = s.rel ∧ (placeEntry e s).relTick = s.relTick ∧ (placeEntry e s).computed = s.computed ∧ (placeEntry e s).early = s.early ∧ (placeEntry e s).contexts = s.contexts ∧ (placeEntry e s).replayOrd = s.replayOrd ∧ (placeEntry e s).plan = s.plan ∧ (placeEntry e s).host = s.host ∧ (placeEntry e s).paths = s.paths ∧ (placeEntry e s).streams = s.streams ∧ (placeEntry e s).gbk = s.gbk ∧ (placeEntry e s).rtc = s.rtc ∧ (placeEntry e s).time = s.time ∧ (placeEntry e s).drive = s.drive ∧ (placeEntry e s).metro = s.metro ∧ (placeEntry e s).air = s.air ∧ (placeEntry e s).store = s.store ∧ (placeEntry e s).inn = s.inn ∧ (placeEntry e s).ckpts = s.ckpts ∧ (placeEntry e s).saved = s.saved ∧ (placeEntry e s).vault = s.vault ∧ (placeEntry e s).bhLink = s.bhLink ∧ (placeEntry e s).twin = s.twin ∧ (placeEntry e s).boot = s.boot ∧ (placeEntry e s).firmware = s.firmware ∧ (placeEntry e s).supply = s.supply :=
  ⟨rfl, rfl, rfl, rfl, rfl, rfl, rfl, rfl, rfl, rfl, rfl, rfl, rfl, rfl, rfl, rfl, rfl, rfl, rfl, rfl, rfl, rfl, rfl, rfl, rfl, rfl, rfl, rfl, rfl, rfl, rfl⟩

@[simp] theorem enqueue_leaves (p : Packet) (s : State) :
    (enqueue p s).pending = s.pending ∧ (enqueue p s).free = s.free ∧ (enqueue p s).uptime = s.uptime ∧ (enqueue p s).mode = s.mode ∧ (enqueue p s).ord = s.ord ∧ (enqueue p s).rel = s.rel ∧ (enqueue p s).relTick = s.relTick ∧ (enqueue p s).computed = s.computed ∧ (enqueue p s).early = s.early ∧ (enqueue p s).contexts = s.contexts ∧ (enqueue p s).replayOrd = s.replayOrd ∧ (enqueue p s).plan = s.plan ∧ (enqueue p s).host = s.host ∧ (enqueue p s).streams = s.streams ∧ (enqueue p s).gbk = s.gbk ∧ (enqueue p s).cnt = s.cnt ∧ (enqueue p s).rtc = s.rtc ∧ (enqueue p s).time = s.time ∧ (enqueue p s).drive = s.drive ∧ (enqueue p s).metro = s.metro ∧ (enqueue p s).air = s.air ∧ (enqueue p s).store = s.store ∧ (enqueue p s).inn = s.inn ∧ (enqueue p s).ckpts = s.ckpts ∧ (enqueue p s).saved = s.saved ∧ (enqueue p s).vault = s.vault ∧ (enqueue p s).bhLink = s.bhLink ∧ (enqueue p s).twin = s.twin ∧ (enqueue p s).boot = s.boot ∧ (enqueue p s).firmware = s.firmware ∧ (enqueue p s).supply = s.supply :=
  ⟨rfl, rfl, rfl, rfl, rfl, rfl, rfl, rfl, rfl, rfl, rfl, rfl, rfl, rfl, rfl, rfl, rfl, rfl, rfl, rfl, rfl, rfl, rfl, rfl, rfl, rfl, rfl, rfl, rfl, rfl, rfl⟩

@[simp] theorem modSeq_leaves (r : Nat) (f : Sequencer → Sequencer) (s : State) :
    (modSeq r f s).pending = s.pending ∧ (modSeq r f s).free = s.free ∧ (modSeq r f s).uptime = s.uptime ∧ (modSeq r f s).mode = s.mode ∧ (modSeq r f s).clerk = s.clerk ∧ (modSeq r f s).ord = s.ord ∧ (modSeq r f s).rel = s.rel ∧ (modSeq r f s).relTick = s.relTick ∧ (modSeq r f s).computed = s.computed ∧ (modSeq r f s).early = s.early ∧ (modSeq r f s).contexts = s.contexts ∧ (modSeq r f s).replayOrd = s.replayOrd ∧ (modSeq r f s).plan = s.plan ∧ (modSeq r f s).host = s.host ∧ (modSeq r f s).paths = s.paths ∧ (modSeq r f s).streams = s.streams ∧ (modSeq r f s).gbk = s.gbk ∧ (modSeq r f s).cnt = s.cnt ∧ (modSeq r f s).rtc = s.rtc ∧ (modSeq r f s).time = s.time ∧ (modSeq r f s).drive = s.drive ∧ (modSeq r f s).metro = s.metro ∧ (modSeq r f s).store = s.store ∧ (modSeq r f s).inn = s.inn ∧ (modSeq r f s).ckpts = s.ckpts ∧ (modSeq r f s).saved = s.saved ∧ (modSeq r f s).vault = s.vault ∧ (modSeq r f s).bhLink = s.bhLink ∧ (modSeq r f s).twin = s.twin ∧ (modSeq r f s).boot = s.boot ∧ (modSeq r f s).firmware = s.firmware ∧ (modSeq r f s).supply = s.supply :=
  ⟨rfl, rfl, rfl, rfl, rfl, rfl, rfl, rfl, rfl, rfl, rfl, rfl, rfl, rfl, rfl, rfl, rfl, rfl, rfl, rfl, rfl, rfl, rfl, rfl, rfl, rfl, rfl, rfl, rfl, rfl, rfl, rfl⟩

@[simp] theorem modTwin_leaves (f : Twin → Twin) (s : State) :
    (modTwin f s).pending = s.pending ∧ (modTwin f s).free = s.free ∧ (modTwin f s).uptime = s.uptime ∧ (modTwin f s).mode = s.mode ∧ (modTwin f s).clerk = s.clerk ∧ (modTwin f s).ord = s.ord ∧ (modTwin f s).rel = s.rel ∧ (modTwin f s).relTick = s.relTick ∧ (modTwin f s).computed = s.computed ∧ (modTwin f s).early = s.early ∧ (modTwin f s).contexts = s.contexts ∧ (modTwin f s).replayOrd = s.replayOrd ∧ (modTwin f s).plan = s.plan ∧ (modTwin f s).host = s.host ∧ (modTwin f s).paths = s.paths ∧ (modTwin f s).streams = s.streams ∧ (modTwin f s).gbk = s.gbk ∧ (modTwin f s).cnt = s.cnt ∧ (modTwin f s).rtc = s.rtc ∧ (modTwin f s).time = s.time ∧ (modTwin f s).drive = s.drive ∧ (modTwin f s).metro = s.metro ∧ (modTwin f s).air = s.air ∧ (modTwin f s).store = s.store ∧ (modTwin f s).inn = s.inn ∧ (modTwin f s).ckpts = s.ckpts ∧ (modTwin f s).saved = s.saved ∧ (modTwin f s).vault = s.vault ∧ (modTwin f s).bhLink = s.bhLink ∧ (modTwin f s).boot = s.boot ∧ (modTwin f s).firmware = s.firmware ∧ (modTwin f s).supply = s.supply :=
  ⟨rfl, rfl, rfl, rfl, rfl, rfl, rfl, rfl, rfl, rfl, rfl, rfl, rfl, rfl, rfl, rfl, rfl, rfl, rfl, rfl, rfl, rfl, rfl, rfl, rfl, rfl, rfl, rfl, rfl, rfl, rfl, rfl⟩

@[simp] theorem modClerk_leaves (f : Clerk → Clerk) (s : State) :
    (modClerk f s).pending = s.pending ∧ (modClerk f s).free = s.free ∧ (modClerk f s).uptime = s.uptime ∧ (modClerk f s).mode = s.mode ∧ (modClerk f s).ord = s.ord ∧ (modClerk f s).rel = s.rel ∧ (modClerk f s).relTick = s.relTick ∧ (modClerk f s).computed = s.computed ∧ (modClerk f s).early = s.early ∧ (modClerk f s).contexts = s.contexts ∧ (modClerk f s).replayOrd = s.replayOrd ∧ (modClerk f s).plan = s.plan ∧ (modClerk f s).host = s.host ∧ (modClerk f s).paths = s.paths ∧ (modClerk f s).streams = s.streams ∧ (modClerk f s).gbk = s.gbk ∧ (modClerk f s).cnt = s.cnt ∧ (modClerk f s).rtc = s.rtc ∧ (modClerk f s).time = s.time ∧ (modClerk f s).drive = s.drive ∧ (modClerk f s).metro = s.metro ∧ (modClerk f s).air = s.air ∧ (modClerk f s).store = s.store ∧ (modClerk f s).inn = s.inn ∧ (modClerk f s).ckpts = s.ckpts ∧ (modClerk f s).saved = s.saved ∧ (modClerk f s).vault = s.vault ∧ (modClerk f s).bhLink = s.bhLink ∧ (modClerk f s).twin = s.twin ∧ (modClerk f s).boot = s.boot ∧ (modClerk f s).firmware = s.firmware ∧ (modClerk f s).supply = s.supply :=
  ⟨rfl, rfl, rfl, rfl, rfl, rfl, rfl, rfl, rfl, rfl, rfl, rfl, rfl, rfl, rfl, rfl, rfl, rfl, rfl, rfl, rfl, rfl, rfl, rfl, rfl, rfl, rfl, rfl, rfl, rfl, rfl, rfl⟩

@[simp] theorem modBase_leaves (b : Nat) (f : Base → Base) (s : State) :
    (modBase b f s).pending = s.pending ∧ (modBase b f s).free = s.free ∧ (modBase b f s).uptime = s.uptime ∧ (modBase b f s).mode = s.mode ∧ (modBase b f s).clerk = s.clerk ∧ (modBase b f s).ord = s.ord ∧ (modBase b f s).rel = s.rel ∧ (modBase b f s).relTick = s.relTick ∧ (modBase b f s).computed = s.computed ∧ (modBase b f s).early = s.early ∧ (modBase b f s).contexts = s.contexts ∧ (modBase b f s).replayOrd = s.replayOrd ∧ (modBase b f s).plan = s.plan ∧ (modBase b f s).host = s.host ∧ (modBase b f s).paths = s.paths ∧ (modBase b f s).streams = s.streams ∧ (modBase b f s).gbk = s.gbk ∧ (modBase b f s).cnt = s.cnt ∧ (modBase b f s).rtc = s.rtc ∧ (modBase b f s).drive = s.drive ∧ (modBase b f s).metro = s.metro ∧ (modBase b f s).air = s.air ∧ (modBase b f s).store = s.store ∧ (modBase b f s).inn = s.inn ∧ (modBase b f s).ckpts = s.ckpts ∧ (modBase b f s).saved = s.saved ∧ (modBase b f s).vault = s.vault ∧ (modBase b f s).bhLink = s.bhLink ∧ (modBase b f s).twin = s.twin ∧ (modBase b f s).boot = s.boot ∧ (modBase b f s).firmware = s.firmware ∧ (modBase b f s).supply = s.supply :=
  ⟨rfl, rfl, rfl, rfl, rfl, rfl, rfl, rfl, rfl, rfl, rfl, rfl, rfl, rfl, rfl, rfl, rfl, rfl, rfl, rfl, rfl, rfl, rfl, rfl, rfl, rfl, rfl, rfl, rfl, rfl, rfl, rfl⟩

@[simp] theorem modRing_leaves (r : Nat) (f : Ring → Ring) (s : State) :
    (modRing r f s).pending = s.pending ∧ (modRing r f s).free = s.free ∧ (modRing r f s).uptime = s.uptime ∧ (modRing r f s).mode = s.mode ∧ (modRing r f s).clerk = s.clerk ∧ (modRing r f s).ord = s.ord ∧ (modRing r f s).rel = s.rel ∧ (modRing r f s).relTick = s.relTick ∧ (modRing r f s).computed = s.computed ∧ (modRing r f s).early = s.early ∧ (modRing r f s).contexts = s.contexts ∧ (modRing r f s).replayOrd = s.replayOrd ∧ (modRing r f s).plan = s.plan ∧ (modRing r f s).paths = s.paths ∧ (modRing r f s).streams = s.streams ∧ (modRing r f s).gbk = s.gbk ∧ (modRing r f s).cnt = s.cnt ∧ (modRing r f s).rtc = s.rtc ∧ (modRing r f s).time = s.time ∧ (modRing r f s).drive = s.drive ∧ (modRing r f s).metro = s.metro ∧ (modRing r f s).air = s.air ∧ (modRing r f s).store = s.store ∧ (modRing r f s).inn = s.inn ∧ (modRing r f s).ckpts = s.ckpts ∧ (modRing r f s).saved = s.saved ∧ (modRing r f s).vault = s.vault ∧ (modRing r f s).bhLink = s.bhLink ∧ (modRing r f s).twin = s.twin ∧ (modRing r f s).boot = s.boot ∧ (modRing r f s).firmware = s.firmware ∧ (modRing r f s).supply = s.supply :=
  ⟨rfl, rfl, rfl, rfl, rfl, rfl, rfl, rfl, rfl, rfl, rfl, rfl, rfl, rfl, rfl, rfl, rfl, rfl, rfl, rfl, rfl, rfl, rfl, rfl, rfl, rfl, rfl, rfl, rfl, rfl, rfl, rfl⟩

@[simp] theorem modOut_leaves (o : Nat) (f : PulseOut → PulseOut) (s : State) :
    (modOut o f s).pending = s.pending ∧ (modOut o f s).free = s.free ∧ (modOut o f s).uptime = s.uptime ∧ (modOut o f s).mode = s.mode ∧ (modOut o f s).clerk = s.clerk ∧ (modOut o f s).ord = s.ord ∧ (modOut o f s).rel = s.rel ∧ (modOut o f s).relTick = s.relTick ∧ (modOut o f s).computed = s.computed ∧ (modOut o f s).early = s.early ∧ (modOut o f s).contexts = s.contexts ∧ (modOut o f s).replayOrd = s.replayOrd ∧ (modOut o f s).plan = s.plan ∧ (modOut o f s).host = s.host ∧ (modOut o f s).paths = s.paths ∧ (modOut o f s).streams = s.streams ∧ (modOut o f s).gbk = s.gbk ∧ (modOut o f s).cnt = s.cnt ∧ (modOut o f s).rtc = s.rtc ∧ (modOut o f s).time = s.time ∧ (modOut o f s).drive = s.drive ∧ (modOut o f s).air = s.air ∧ (modOut o f s).store = s.store ∧ (modOut o f s).inn = s.inn ∧ (modOut o f s).ckpts = s.ckpts ∧ (modOut o f s).saved = s.saved ∧ (modOut o f s).vault = s.vault ∧ (modOut o f s).bhLink = s.bhLink ∧ (modOut o f s).twin = s.twin ∧ (modOut o f s).boot = s.boot ∧ (modOut o f s).firmware = s.firmware ∧ (modOut o f s).supply = s.supply :=
  ⟨rfl, rfl, rfl, rfl, rfl, rfl, rfl, rfl, rfl, rfl, rfl, rfl, rfl, rfl, rfl, rfl, rfl, rfl, rfl, rfl, rfl, rfl, rfl, rfl, rfl, rfl, rfl, rfl, rfl, rfl, rfl, rfl⟩

@[simp] theorem setFwSlot_leaves (k : Nat) (f : FwSlot → FwSlot) (s : State) :
    (setFwSlot k f s).pending = s.pending ∧ (setFwSlot k f s).free = s.free ∧ (setFwSlot k f s).uptime = s.uptime ∧ (setFwSlot k f s).mode = s.mode ∧ (setFwSlot k f s).clerk = s.clerk ∧ (setFwSlot k f s).ord = s.ord ∧ (setFwSlot k f s).rel = s.rel ∧ (setFwSlot k f s).relTick = s.relTick ∧ (setFwSlot k f s).computed = s.computed ∧ (setFwSlot k f s).early = s.early ∧ (setFwSlot k f s).contexts = s.contexts ∧ (setFwSlot k f s).replayOrd = s.replayOrd ∧ (setFwSlot k f s).plan = s.plan ∧ (setFwSlot k f s).host = s.host ∧ (setFwSlot k f s).paths = s.paths ∧ (setFwSlot k f s).streams = s.streams ∧ (setFwSlot k f s).gbk = s.gbk ∧ (setFwSlot k f s).cnt = s.cnt ∧ (setFwSlot k f s).rtc = s.rtc ∧ (setFwSlot k f s).time = s.time ∧ (setFwSlot k f s).drive = s.drive ∧ (setFwSlot k f s).metro = s.metro ∧ (setFwSlot k f s).air = s.air ∧ (setFwSlot k f s).store = s.store ∧ (setFwSlot k f s).inn = s.inn ∧ (setFwSlot k f s).ckpts = s.ckpts ∧ (setFwSlot k f s).saved = s.saved ∧ (setFwSlot k f s).vault = s.vault ∧ (setFwSlot k f s).bhLink = s.bhLink ∧ (setFwSlot k f s).twin = s.twin ∧ (setFwSlot k f s).boot = s.boot ∧ (setFwSlot k f s).supply = s.supply :=
  ⟨rfl, rfl, rfl, rfl, rfl, rfl, rfl, rfl, rfl, rfl, rfl, rfl, rfl, rfl, rfl, rfl, rfl, rfl, rfl, rfl, rfl, rfl, rfl, rfl, rfl, rfl, rfl, rfl, rfl, rfl, rfl, rfl⟩

@[simp] theorem modHost_leaves (f : HostLink → HostLink) (s : State) :
    (modHost f s).pending = s.pending ∧ (modHost f s).free = s.free ∧ (modHost f s).uptime = s.uptime ∧ (modHost f s).mode = s.mode ∧ (modHost f s).clerk = s.clerk ∧ (modHost f s).ord = s.ord ∧ (modHost f s).rel = s.rel ∧ (modHost f s).relTick = s.relTick ∧ (modHost f s).computed = s.computed ∧ (modHost f s).early = s.early ∧ (modHost f s).contexts = s.contexts ∧ (modHost f s).replayOrd = s.replayOrd ∧ (modHost f s).plan = s.plan ∧ (modHost f s).paths = s.paths ∧ (modHost f s).streams = s.streams ∧ (modHost f s).gbk = s.gbk ∧ (modHost f s).cnt = s.cnt ∧ (modHost f s).rtc = s.rtc ∧ (modHost f s).time = s.time ∧ (modHost f s).drive = s.drive ∧ (modHost f s).metro = s.metro ∧ (modHost f s).air = s.air ∧ (modHost f s).store = s.store ∧ (modHost f s).inn = s.inn ∧ (modHost f s).ckpts = s.ckpts ∧ (modHost f s).saved = s.saved ∧ (modHost f s).vault = s.vault ∧ (modHost f s).bhLink = s.bhLink ∧ (modHost f s).twin = s.twin ∧ (modHost f s).boot = s.boot ∧ (modHost f s).firmware = s.firmware ∧ (modHost f s).supply = s.supply :=
  ⟨rfl, rfl, rfl, rfl, rfl, rfl, rfl, rfl, rfl, rfl, rfl, rfl, rfl, rfl, rfl, rfl, rfl, rfl, rfl, rfl, rfl, rfl, rfl, rfl, rfl, rfl, rfl, rfl, rfl, rfl, rfl, rfl⟩

@[simp] theorem modStream_leaves (slot : Nat) (f : StreamRun → StreamRun) (s : State) :
    (modStream slot f s).pending = s.pending ∧ (modStream slot f s).free = s.free ∧ (modStream slot f s).uptime = s.uptime ∧ (modStream slot f s).mode = s.mode ∧ (modStream slot f s).clerk = s.clerk ∧ (modStream slot f s).ord = s.ord ∧ (modStream slot f s).rel = s.rel ∧ (modStream slot f s).relTick = s.relTick ∧ (modStream slot f s).computed = s.computed ∧ (modStream slot f s).early = s.early ∧ (modStream slot f s).contexts = s.contexts ∧ (modStream slot f s).replayOrd = s.replayOrd ∧ (modStream slot f s).plan = s.plan ∧ (modStream slot f s).host = s.host ∧ (modStream slot f s).paths = s.paths ∧ (modStream slot f s).gbk = s.gbk ∧ (modStream slot f s).cnt = s.cnt ∧ (modStream slot f s).rtc = s.rtc ∧ (modStream slot f s).time = s.time ∧ (modStream slot f s).drive = s.drive ∧ (modStream slot f s).metro = s.metro ∧ (modStream slot f s).air = s.air ∧ (modStream slot f s).store = s.store ∧ (modStream slot f s).inn = s.inn ∧ (modStream slot f s).ckpts = s.ckpts ∧ (modStream slot f s).saved = s.saved ∧ (modStream slot f s).vault = s.vault ∧ (modStream slot f s).bhLink = s.bhLink ∧ (modStream slot f s).twin = s.twin ∧ (modStream slot f s).boot = s.boot ∧ (modStream slot f s).firmware = s.firmware ∧ (modStream slot f s).supply = s.supply :=
  ⟨rfl, rfl, rfl, rfl, rfl, rfl, rfl, rfl, rfl, rfl, rfl, rfl, rfl, rfl, rfl, rfl, rfl, rfl, rfl, rfl, rfl, rfl, rfl, rfl, rfl, rfl, rfl, rfl, rfl, rfl, rfl, rfl⟩

@[simp] theorem modLodge_leaves (slot : Nat) (f : Lodge → Lodge) (s : State) :
    (modLodge slot f s).pending = s.pending ∧ (modLodge slot f s).free = s.free ∧ (modLodge slot f s).uptime = s.uptime ∧ (modLodge slot f s).mode = s.mode ∧ (modLodge slot f s).clerk = s.clerk ∧ (modLodge slot f s).ord = s.ord ∧ (modLodge slot f s).rel = s.rel ∧ (modLodge slot f s).relTick = s.relTick ∧ (modLodge slot f s).computed = s.computed ∧ (modLodge slot f s).early = s.early ∧ (modLodge slot f s).contexts = s.contexts ∧ (modLodge slot f s).replayOrd = s.replayOrd ∧ (modLodge slot f s).plan = s.plan ∧ (modLodge slot f s).host = s.host ∧ (modLodge slot f s).paths = s.paths ∧ (modLodge slot f s).streams = s.streams ∧ (modLodge slot f s).gbk = s.gbk ∧ (modLodge slot f s).cnt = s.cnt ∧ (modLodge slot f s).rtc = s.rtc ∧ (modLodge slot f s).time = s.time ∧ (modLodge slot f s).drive = s.drive ∧ (modLodge slot f s).metro = s.metro ∧ (modLodge slot f s).air = s.air ∧ (modLodge slot f s).store = s.store ∧ (modLodge slot f s).ckpts = s.ckpts ∧ (modLodge slot f s).saved = s.saved ∧ (modLodge slot f s).vault = s.vault ∧ (modLodge slot f s).bhLink = s.bhLink ∧ (modLodge slot f s).twin = s.twin ∧ (modLodge slot f s).boot = s.boot ∧ (modLodge slot f s).firmware = s.firmware ∧ (modLodge slot f s).supply = s.supply :=
  ⟨rfl, rfl, rfl, rfl, rfl, rfl, rfl, rfl, rfl, rfl, rfl, rfl, rfl, rfl, rfl, rfl, rfl, rfl, rfl, rfl, rfl, rfl, rfl, rfl, rfl, rfl, rfl, rfl, rfl, rfl, rfl, rfl⟩

@[simp] theorem modKeySlot_leaves (k : Nat) (f : KeySlot → KeySlot) (s : State) :
    (modKeySlot k f s).pending = s.pending ∧ (modKeySlot k f s).free = s.free ∧ (modKeySlot k f s).uptime = s.uptime ∧ (modKeySlot k f s).mode = s.mode ∧ (modKeySlot k f s).clerk = s.clerk ∧ (modKeySlot k f s).ord = s.ord ∧ (modKeySlot k f s).rel = s.rel ∧ (modKeySlot k f s).relTick = s.relTick ∧ (modKeySlot k f s).computed = s.computed ∧ (modKeySlot k f s).early = s.early ∧ (modKeySlot k f s).contexts = s.contexts ∧ (modKeySlot k f s).replayOrd = s.replayOrd ∧ (modKeySlot k f s).plan = s.plan ∧ (modKeySlot k f s).host = s.host ∧ (modKeySlot k f s).paths = s.paths ∧ (modKeySlot k f s).streams = s.streams ∧ (modKeySlot k f s).gbk = s.gbk ∧ (modKeySlot k f s).cnt = s.cnt ∧ (modKeySlot k f s).rtc = s.rtc ∧ (modKeySlot k f s).time = s.time ∧ (modKeySlot k f s).drive = s.drive ∧ (modKeySlot k f s).metro = s.metro ∧ (modKeySlot k f s).air = s.air ∧ (modKeySlot k f s).store = s.store ∧ (modKeySlot k f s).inn = s.inn ∧ (modKeySlot k f s).ckpts = s.ckpts ∧ (modKeySlot k f s).saved = s.saved ∧ (modKeySlot k f s).bhLink = s.bhLink ∧ (modKeySlot k f s).twin = s.twin ∧ (modKeySlot k f s).boot = s.boot ∧ (modKeySlot k f s).firmware = s.firmware ∧ (modKeySlot k f s).supply = s.supply :=
  ⟨rfl, rfl, rfl, rfl, rfl, rfl, rfl, rfl, rfl, rfl, rfl, rfl, rfl, rfl, rfl, rfl, rfl, rfl, rfl, rfl, rfl, rfl, rfl, rfl, rfl, rfl, rfl, rfl, rfl, rfl, rfl, rfl⟩

@[simp] theorem modFw_leaves (f : Firmware → Firmware) (s : State) :
    (modFw f s).pending = s.pending ∧ (modFw f s).free = s.free ∧ (modFw f s).uptime = s.uptime ∧ (modFw f s).mode = s.mode ∧ (modFw f s).clerk = s.clerk ∧ (modFw f s).ord = s.ord ∧ (modFw f s).rel = s.rel ∧ (modFw f s).relTick = s.relTick ∧ (modFw f s).computed = s.computed ∧ (modFw f s).early = s.early ∧ (modFw f s).contexts = s.contexts ∧ (modFw f s).replayOrd = s.replayOrd ∧ (modFw f s).plan = s.plan ∧ (modFw f s).host = s.host ∧ (modFw f s).paths = s.paths ∧ (modFw f s).streams = s.streams ∧ (modFw f s).gbk = s.gbk ∧ (modFw f s).cnt = s.cnt ∧ (modFw f s).rtc = s.rtc ∧ (modFw f s).time = s.time ∧ (modFw f s).drive = s.drive ∧ (modFw f s).metro = s.metro ∧ (modFw f s).air = s.air ∧ (modFw f s).store = s.store ∧ (modFw f s).inn = s.inn ∧ (modFw f s).ckpts = s.ckpts ∧ (modFw f s).saved = s.saved ∧ (modFw f s).vault = s.vault ∧ (modFw f s).bhLink = s.bhLink ∧ (modFw f s).twin = s.twin ∧ (modFw f s).boot = s.boot ∧ (modFw f s).supply = s.supply :=
  ⟨rfl, rfl, rfl, rfl, rfl, rfl, rfl, rfl, rfl, rfl, rfl, rfl, rfl, rfl, rfl, rfl, rfl, rfl, rfl, rfl, rfl, rfl, rfl, rfl, rfl, rfl, rfl, rfl, rfl, rfl, rfl, rfl⟩

@[simp] theorem modCnt_leaves (f : CountersTest → CountersTest) (s : State) :
    (modCnt f s).pending = s.pending ∧ (modCnt f s).free = s.free ∧ (modCnt f s).uptime = s.uptime ∧ (modCnt f s).mode = s.mode ∧ (modCnt f s).clerk = s.clerk ∧ (modCnt f s).ord = s.ord ∧ (modCnt f s).rel = s.rel ∧ (modCnt f s).relTick = s.relTick ∧ (modCnt f s).computed = s.computed ∧ (modCnt f s).early = s.early ∧ (modCnt f s).contexts = s.contexts ∧ (modCnt f s).replayOrd = s.replayOrd ∧ (modCnt f s).plan = s.plan ∧ (modCnt f s).host = s.host ∧ (modCnt f s).paths = s.paths ∧ (modCnt f s).streams = s.streams ∧ (modCnt f s).gbk = s.gbk ∧ (modCnt f s).rtc = s.rtc ∧ (modCnt f s).time = s.time ∧ (modCnt f s).drive = s.drive ∧ (modCnt f s).metro = s.metro ∧ (modCnt f s).air = s.air ∧ (modCnt f s).store = s.store ∧ (modCnt f s).inn = s.inn ∧ (modCnt f s).ckpts = s.ckpts ∧ (modCnt f s).saved = s.saved ∧ (modCnt f s).vault = s.vault ∧ (modCnt f s).bhLink = s.bhLink ∧ (modCnt f s).twin = s.twin ∧ (modCnt f s).boot = s.boot ∧ (modCnt f s).firmware = s.firmware ∧ (modCnt f s).supply = s.supply :=
  ⟨rfl, rfl, rfl, rfl, rfl, rfl, rfl, rfl, rfl, rfl, rfl, rfl, rfl, rfl, rfl, rfl, rfl, rfl, rfl, rfl, rfl, rfl, rfl, rfl, rfl, rfl, rfl, rfl, rfl, rfl, rfl, rfl⟩

@[simp] theorem modFast_leaves (n : Nat) (f : LoopSlot → LoopSlot) (s : State) :
    (modFast n f s).pending = s.pending ∧ (modFast n f s).free = s.free ∧ (modFast n f s).uptime = s.uptime ∧ (modFast n f s).mode = s.mode ∧ (modFast n f s).clerk = s.clerk ∧ (modFast n f s).ord = s.ord ∧ (modFast n f s).rel = s.rel ∧ (modFast n f s).relTick = s.relTick ∧ (modFast n f s).computed = s.computed ∧ (modFast n f s).early = s.early ∧ (modFast n f s).contexts = s.contexts ∧ (modFast n f s).replayOrd = s.replayOrd ∧ (modFast n f s).plan = s.plan ∧ (modFast n f s).host = s.host ∧ (modFast n f s).paths = s.paths ∧ (modFast n f s).streams = s.streams ∧ (modFast n f s).gbk = s.gbk ∧ (modFast n f s).cnt = s.cnt ∧ (modFast n f s).rtc = s.rtc ∧ (modFast n f s).time = s.time ∧ (modFast n f s).metro = s.metro ∧ (modFast n f s).air = s.air ∧ (modFast n f s).store = s.store ∧ (modFast n f s).inn = s.inn ∧ (modFast n f s).ckpts = s.ckpts ∧ (modFast n f s).saved = s.saved ∧ (modFast n f s).vault = s.vault ∧ (modFast n f s).bhLink = s.bhLink ∧ (modFast n f s).twin = s.twin ∧ (modFast n f s).boot = s.boot ∧ (modFast n f s).firmware = s.firmware ∧ (modFast n f s).supply = s.supply :=
  ⟨rfl, rfl, rfl, rfl, rfl, rfl, rfl, rfl, rfl, rfl, rfl, rfl, rfl, rfl, rfl, rfl, rfl, rfl, rfl, rfl, rfl, rfl, rfl, rfl, rfl, rfl, rfl, rfl, rfl, rfl, rfl, rfl⟩

@[simp] theorem modTrace_leaves (h : Handle) (f : TraceRun → TraceRun) (s : State) :
    (modTrace h f s).pending = s.pending ∧ (modTrace h f s).free = s.free ∧ (modTrace h f s).uptime = s.uptime ∧ (modTrace h f s).mode = s.mode ∧ (modTrace h f s).clerk = s.clerk ∧ (modTrace h f s).ord = s.ord ∧ (modTrace h f s).rel = s.rel ∧ (modTrace h f s).relTick = s.relTick ∧ (modTrace h f s).computed = s.computed ∧ (modTrace h f s).early = s.early ∧ (modTrace h f s).contexts = s.contexts ∧ (modTrace h f s).replayOrd = s.replayOrd ∧ (modTrace h f s).plan = s.plan ∧ (modTrace h f s).host = s.host ∧ (modTrace h f s).paths = s.paths ∧ (modTrace h f s).streams = s.streams ∧ (modTrace h f s).gbk = s.gbk ∧ (modTrace h f s).cnt = s.cnt ∧ (modTrace h f s).rtc = s.rtc ∧ (modTrace h f s).time = s.time ∧ (modTrace h f s).metro = s.metro ∧ (modTrace h f s).air = s.air ∧ (modTrace h f s).store = s.store ∧ (modTrace h f s).inn = s.inn ∧ (modTrace h f s).ckpts = s.ckpts ∧ (modTrace h f s).saved = s.saved ∧ (modTrace h f s).vault = s.vault ∧ (modTrace h f s).bhLink = s.bhLink ∧ (modTrace h f s).twin = s.twin ∧ (modTrace h f s).boot = s.boot ∧ (modTrace h f s).firmware = s.firmware ∧ (modTrace h f s).supply = s.supply :=
  ⟨rfl, rfl, rfl, rfl, rfl, rfl, rfl, rfl, rfl, rfl, rfl, rfl, rfl, rfl, rfl, rfl, rfl, rfl, rfl, rfl, rfl, rfl, rfl, rfl, rfl, rfl, rfl, rfl, rfl, rfl, rfl, rfl⟩

@[simp] theorem modSupply_leaves (f : Supplies → Supplies) (s : State) :
    (modSupply f s).pending = s.pending ∧ (modSupply f s).free = s.free ∧ (modSupply f s).uptime = s.uptime ∧ (modSupply f s).mode = s.mode ∧ (modSupply f s).clerk = s.clerk ∧ (modSupply f s).ord = s.ord ∧ (modSupply f s).rel = s.rel ∧ (modSupply f s).relTick = s.relTick ∧ (modSupply f s).computed = s.computed ∧ (modSupply f s).early = s.early ∧ (modSupply f s).contexts = s.contexts ∧ (modSupply f s).replayOrd = s.replayOrd ∧ (modSupply f s).plan = s.plan ∧ (modSupply f s).host = s.host ∧ (modSupply f s).paths = s.paths ∧ (modSupply f s).streams = s.streams ∧ (modSupply f s).gbk = s.gbk ∧ (modSupply f s).cnt = s.cnt ∧ (modSupply f s).rtc = s.rtc ∧ (modSupply f s).time = s.time ∧ (modSupply f s).drive = s.drive ∧ (modSupply f s).metro = s.metro ∧ (modSupply f s).air = s.air ∧ (modSupply f s).store = s.store ∧ (modSupply f s).inn = s.inn ∧ (modSupply f s).ckpts = s.ckpts ∧ (modSupply f s).saved = s.saved ∧ (modSupply f s).vault = s.vault ∧ (modSupply f s).bhLink = s.bhLink ∧ (modSupply f s).twin = s.twin ∧ (modSupply f s).boot = s.boot ∧ (modSupply f s).firmware = s.firmware :=
  ⟨rfl, rfl, rfl, rfl, rfl, rfl, rfl, rfl, rfl, rfl, rfl, rfl, rfl, rfl, rfl, rfl, rfl, rfl, rfl, rfl, rfl, rfl, rfl, rfl, rfl, rfl, rfl, rfl, rfl, rfl, rfl, rfl⟩

@[simp] theorem modPaths_leaves (f : Paths → Paths) (s : State) :
    (modPaths f s).pending = s.pending ∧ (modPaths f s).free = s.free ∧ (modPaths f s).uptime = s.uptime ∧ (modPaths f s).mode = s.mode ∧ (modPaths f s).clerk = s.clerk ∧ (modPaths f s).ord = s.ord ∧ (modPaths f s).rel = s.rel ∧ (modPaths f s).relTick = s.relTick ∧ (modPaths f s).computed = s.computed ∧ (modPaths f s).early = s.early ∧ (modPaths f s).contexts = s.contexts ∧ (modPaths f s).replayOrd = s.replayOrd ∧ (modPaths f s).plan = s.plan ∧ (modPaths f s).host = s.host ∧ (modPaths f s).streams = s.streams ∧ (modPaths f s).gbk = s.gbk ∧ (modPaths f s).cnt = s.cnt ∧ (modPaths f s).rtc = s.rtc ∧ (modPaths f s).time = s.time ∧ (modPaths f s).drive = s.drive ∧ (modPaths f s).metro = s.metro ∧ (modPaths f s).air = s.air ∧ (modPaths f s).store = s.store ∧ (modPaths f s).inn = s.inn ∧ (modPaths f s).ckpts = s.ckpts ∧ (modPaths f s).saved = s.saved ∧ (modPaths f s).vault = s.vault ∧ (modPaths f s).bhLink = s.bhLink ∧ (modPaths f s).twin = s.twin ∧ (modPaths f s).boot = s.boot ∧ (modPaths f s).firmware = s.firmware ∧ (modPaths f s).supply = s.supply :=
  ⟨rfl, rfl, rfl, rfl, rfl, rfl, rfl, rfl, rfl, rfl, rfl, rfl, rfl, rfl, rfl, rfl, rfl, rfl, rfl, rfl, rfl, rfl, rfl, rfl, rfl, rfl, rfl, rfl, rfl, rfl, rfl, rfl⟩

@[simp] theorem modBoot_leaves (f : Boot → Boot) (s : State) :
    (modBoot f s).pending = s.pending ∧ (modBoot f s).free = s.free ∧ (modBoot f s).uptime = s.uptime ∧ (modBoot f s).mode = s.mode ∧ (modBoot f s).clerk = s.clerk ∧ (modBoot f s).ord = s.ord ∧ (modBoot f s).rel = s.rel ∧ (modBoot f s).relTick = s.relTick ∧ (modBoot f s).computed = s.computed ∧ (modBoot f s).early = s.early ∧ (modBoot f s).contexts = s.contexts ∧ (modBoot f s).replayOrd = s.replayOrd ∧ (modBoot f s).plan = s.plan ∧ (modBoot f s).host = s.host ∧ (modBoot f s).paths = s.paths ∧ (modBoot f s).streams = s.streams ∧ (modBoot f s).gbk = s.gbk ∧ (modBoot f s).cnt = s.cnt ∧ (modBoot f s).rtc = s.rtc ∧ (modBoot f s).time = s.time ∧ (modBoot f s).drive = s.drive ∧ (modBoot f s).metro = s.metro ∧ (modBoot f s).air = s.air ∧ (modBoot f s).store = s.store ∧ (modBoot f s).inn = s.inn ∧ (modBoot f s).ckpts = s.ckpts ∧ (modBoot f s).saved = s.saved ∧ (modBoot f s).vault = s.vault ∧ (modBoot f s).bhLink = s.bhLink ∧ (modBoot f s).twin = s.twin ∧ (modBoot f s).firmware = s.firmware ∧ (modBoot f s).supply = s.supply :=
  ⟨rfl, rfl, rfl, rfl, rfl, rfl, rfl, rfl, rfl, rfl, rfl, rfl, rfl, rfl, rfl, rfl, rfl, rfl, rfl, rfl, rfl, rfl, rfl, rfl, rfl, rfl, rfl, rfl, rfl, rfl, rfl, rfl⟩

@[simp] theorem modStr_leaves (i : Nat) (f : StrRun → StrRun) (s : State) :
    (modStr i f s).pending = s.pending ∧ (modStr i f s).free = s.free ∧ (modStr i f s).uptime = s.uptime ∧ (modStr i f s).mode = s.mode ∧ (modStr i f s).clerk = s.clerk ∧ (modStr i f s).ord = s.ord ∧ (modStr i f s).rel = s.rel ∧ (modStr i f s).relTick = s.relTick ∧ (modStr i f s).computed = s.computed ∧ (modStr i f s).early = s.early ∧ (modStr i f s).contexts = s.contexts ∧ (modStr i f s).replayOrd = s.replayOrd ∧ (modStr i f s).plan = s.plan ∧ (modStr i f s).host = s.host ∧ (modStr i f s).paths = s.paths ∧ (modStr i f s).streams = s.streams ∧ (modStr i f s).gbk = s.gbk ∧ (modStr i f s).cnt = s.cnt ∧ (modStr i f s).rtc = s.rtc ∧ (modStr i f s).time = s.time ∧ (modStr i f s).metro = s.metro ∧ (modStr i f s).air = s.air ∧ (modStr i f s).store = s.store ∧ (modStr i f s).inn = s.inn ∧ (modStr i f s).ckpts = s.ckpts ∧ (modStr i f s).saved = s.saved ∧ (modStr i f s).vault = s.vault ∧ (modStr i f s).bhLink = s.bhLink ∧ (modStr i f s).twin = s.twin ∧ (modStr i f s).boot = s.boot ∧ (modStr i f s).firmware = s.firmware ∧ (modStr i f s).supply = s.supply :=
  ⟨rfl, rfl, rfl, rfl, rfl, rfl, rfl, rfl, rfl, rfl, rfl, rfl, rfl, rfl, rfl, rfl, rfl, rfl, rfl, rfl, rfl, rfl, rfl, rfl, rfl, rfl, rfl, rfl, rfl, rfl, rfl, rfl⟩

@[simp] theorem modStile_leaves (k : Nat) (f : Stile → Stile) (s : State) :
    (modStile k f s).pending = s.pending ∧ (modStile k f s).free = s.free ∧ (modStile k f s).uptime = s.uptime ∧ (modStile k f s).mode = s.mode ∧ (modStile k f s).clerk = s.clerk ∧ (modStile k f s).ord = s.ord ∧ (modStile k f s).rel = s.rel ∧ (modStile k f s).relTick = s.relTick ∧ (modStile k f s).computed = s.computed ∧ (modStile k f s).early = s.early ∧ (modStile k f s).contexts = s.contexts ∧ (modStile k f s).replayOrd = s.replayOrd ∧ (modStile k f s).plan = s.plan ∧ (modStile k f s).host = s.host ∧ (modStile k f s).paths = s.paths ∧ (modStile k f s).streams = s.streams ∧ (modStile k f s).gbk = s.gbk ∧ (modStile k f s).cnt = s.cnt ∧ (modStile k f s).rtc = s.rtc ∧ (modStile k f s).time = s.time ∧ (modStile k f s).drive = s.drive ∧ (modStile k f s).metro = s.metro ∧ (modStile k f s).air = s.air ∧ (modStile k f s).store = s.store ∧ (modStile k f s).ckpts = s.ckpts ∧ (modStile k f s).saved = s.saved ∧ (modStile k f s).vault = s.vault ∧ (modStile k f s).bhLink = s.bhLink ∧ (modStile k f s).twin = s.twin ∧ (modStile k f s).boot = s.boot ∧ (modStile k f s).firmware = s.firmware ∧ (modStile k f s).supply = s.supply :=
  ⟨rfl, rfl, rfl, rfl, rfl, rfl, rfl, rfl, rfl, rfl, rfl, rfl, rfl, rfl, rfl, rfl, rfl, rfl, rfl, rfl, rfl, rfl, rfl, rfl, rfl, rfl, rfl, rfl, rfl, rfl, rfl, rfl⟩

@[simp] theorem modReplay_leaves (f : Replay → Replay) (s : State) :
    (modReplay f s).pending = s.pending ∧ (modReplay f s).free = s.free ∧ (modReplay f s).uptime = s.uptime ∧ (modReplay f s).mode = s.mode ∧ (modReplay f s).ord = s.ord ∧ (modReplay f s).rel = s.rel ∧ (modReplay f s).relTick = s.relTick ∧ (modReplay f s).computed = s.computed ∧ (modReplay f s).early = s.early ∧ (modReplay f s).contexts = s.contexts ∧ (modReplay f s).replayOrd = s.replayOrd ∧ (modReplay f s).plan = s.plan ∧ (modReplay f s).host = s.host ∧ (modReplay f s).paths = s.paths ∧ (modReplay f s).streams = s.streams ∧ (modReplay f s).gbk = s.gbk ∧ (modReplay f s).cnt = s.cnt ∧ (modReplay f s).rtc = s.rtc ∧ (modReplay f s).time = s.time ∧ (modReplay f s).drive = s.drive ∧ (modReplay f s).metro = s.metro ∧ (modReplay f s).air = s.air ∧ (modReplay f s).store = s.store ∧ (modReplay f s).inn = s.inn ∧ (modReplay f s).ckpts = s.ckpts ∧ (modReplay f s).saved = s.saved ∧ (modReplay f s).vault = s.vault ∧ (modReplay f s).bhLink = s.bhLink ∧ (modReplay f s).twin = s.twin ∧ (modReplay f s).boot = s.boot ∧ (modReplay f s).firmware = s.firmware ∧ (modReplay f s).supply = s.supply :=
  ⟨rfl, rfl, rfl, rfl, rfl, rfl, rfl, rfl, rfl, rfl, rfl, rfl, rfl, rfl, rfl, rfl, rfl, rfl, rfl, rfl, rfl, rfl, rfl, rfl, rfl, rfl, rfl, rfl, rfl, rfl, rfl, rfl⟩

@[simp] theorem modIn_leaves (i : Nat) (f : PulseIn → PulseIn) (s : State) :
    (modIn i f s).pending = s.pending ∧ (modIn i f s).free = s.free ∧ (modIn i f s).uptime = s.uptime ∧ (modIn i f s).mode = s.mode ∧ (modIn i f s).clerk = s.clerk ∧ (modIn i f s).ord = s.ord ∧ (modIn i f s).rel = s.rel ∧ (modIn i f s).relTick = s.relTick ∧ (modIn i f s).computed = s.computed ∧ (modIn i f s).early = s.early ∧ (modIn i f s).contexts = s.contexts ∧ (modIn i f s).replayOrd = s.replayOrd ∧ (modIn i f s).plan = s.plan ∧ (modIn i f s).host = s.host ∧ (modIn i f s).paths = s.paths ∧ (modIn i f s).streams = s.streams ∧ (modIn i f s).gbk = s.gbk ∧ (modIn i f s).cnt = s.cnt ∧ (modIn i f s).rtc = s.rtc ∧ (modIn i f s).time = s.time ∧ (modIn i f s).drive = s.drive ∧ (modIn i f s).air = s.air ∧ (modIn i f s).store = s.store ∧ (modIn i f s).inn = s.inn ∧ (modIn i f s).ckpts = s.ckpts ∧ (modIn i f s).saved = s.saved ∧ (modIn i f s).vault = s.vault ∧ (modIn i f s).bhLink = s.bhLink ∧ (modIn i f s).twin = s.twin ∧ (modIn i f s).boot = s.boot ∧ (modIn i f s).firmware = s.firmware ∧ (modIn i f s).supply = s.supply :=
  ⟨rfl, rfl, rfl, rfl, rfl, rfl, rfl, rfl, rfl, rfl, rfl, rfl, rfl, rfl, rfl, rfl, rfl, rfl, rfl, rfl, rfl, rfl, rfl, rfl, rfl, rfl, rfl, rfl, rfl, rfl, rfl, rfl⟩

@[simp] theorem modInn_leaves (f : Inn → Inn) (s : State) :
    (modInn f s).pending = s.pending ∧ (modInn f s).free = s.free ∧ (modInn f s).uptime = s.uptime ∧ (modInn f s).mode = s.mode ∧ (modInn f s).clerk = s.clerk ∧ (modInn f s).ord = s.ord ∧ (modInn f s).rel = s.rel ∧ (modInn f s).relTick = s.relTick ∧ (modInn f s).computed = s.computed ∧ (modInn f s).early = s.early ∧ (modInn f s).contexts = s.contexts ∧ (modInn f s).replayOrd = s.replayOrd ∧ (modInn f s).plan = s.plan ∧ (modInn f s).host = s.host ∧ (modInn f s).paths = s.paths ∧ (modInn f s).streams = s.streams ∧ (modInn f s).gbk = s.gbk ∧ (modInn f s).cnt = s.cnt ∧ (modInn f s).rtc = s.rtc ∧ (modInn f s).time = s.time ∧ (modInn f s).drive = s.drive ∧ (modInn f s).metro = s.metro ∧ (modInn f s).air = s.air ∧ (modInn f s).store = s.store ∧ (modInn f s).ckpts = s.ckpts ∧ (modInn f s).saved = s.saved ∧ (modInn f s).vault = s.vault ∧ (modInn f s).bhLink = s.bhLink ∧ (modInn f s).twin = s.twin ∧ (modInn f s).boot = s.boot ∧ (modInn f s).firmware = s.firmware ∧ (modInn f s).supply = s.supply :=
  ⟨rfl, rfl, rfl, rfl, rfl, rfl, rfl, rfl, rfl, rfl, rfl, rfl, rfl, rfl, rfl, rfl, rfl, rfl, rfl, rfl, rfl, rfl, rfl, rfl, rfl, rfl, rfl, rfl, rfl, rfl, rfl, rfl⟩

@[simp] theorem modGbk_leaves (f : Guestbook → Guestbook) (s : State) :
    (modGbk f s).pending = s.pending ∧ (modGbk f s).free = s.free ∧ (modGbk f s).uptime = s.uptime ∧ (modGbk f s).mode = s.mode ∧ (modGbk f s).clerk = s.clerk ∧ (modGbk f s).ord = s.ord ∧ (modGbk f s).rel = s.rel ∧ (modGbk f s).relTick = s.relTick ∧ (modGbk f s).computed = s.computed ∧ (modGbk f s).early = s.early ∧ (modGbk f s).contexts = s.contexts ∧ (modGbk f s).replayOrd = s.replayOrd ∧ (modGbk f s).plan = s.plan ∧ (modGbk f s).host = s.host ∧ (modGbk f s).paths = s.paths ∧ (modGbk f s).streams = s.streams ∧ (modGbk f s).cnt = s.cnt ∧ (modGbk f s).rtc = s.rtc ∧ (modGbk f s).time = s.time ∧ (modGbk f s).drive = s.drive ∧ (modGbk f s).metro = s.metro ∧ (modGbk f s).air = s.air ∧ (modGbk f s).store = s.store ∧ (modGbk f s).inn = s.inn ∧ (modGbk f s).ckpts = s.ckpts ∧ (modGbk f s).saved = s.saved ∧ (modGbk f s).vault = s.vault ∧ (modGbk f s).bhLink = s.bhLink ∧ (modGbk f s).twin = s.twin ∧ (modGbk f s).boot = s.boot ∧ (modGbk f s).firmware = s.firmware ∧ (modGbk f s).supply = s.supply :=
  ⟨rfl, rfl, rfl, rfl, rfl, rfl, rfl, rfl, rfl, rfl, rfl, rfl, rfl, rfl, rfl, rfl, rfl, rfl, rfl, rfl, rfl, rfl, rfl, rfl, rfl, rfl, rfl, rfl, rfl, rfl, rfl, rfl⟩

@[simp] theorem modInst_leaves (port : Nat) (b : Nat) (f : PtpInst → PtpInst) (s : State) :
    (modInst port b f s).pending = s.pending ∧ (modInst port b f s).free = s.free ∧ (modInst port b f s).uptime = s.uptime ∧ (modInst port b f s).mode = s.mode ∧ (modInst port b f s).clerk = s.clerk ∧ (modInst port b f s).ord = s.ord ∧ (modInst port b f s).rel = s.rel ∧ (modInst port b f s).relTick = s.relTick ∧ (modInst port b f s).computed = s.computed ∧ (modInst port b f s).early = s.early ∧ (modInst port b f s).contexts = s.contexts ∧ (modInst port b f s).replayOrd = s.replayOrd ∧ (modInst port b f s).plan = s.plan ∧ (modInst port b f s).host = s.host ∧ (modInst port b f s).paths = s.paths ∧ (modInst port b f s).streams = s.streams ∧ (modInst port b f s).gbk = s.gbk ∧ (modInst port b f s).cnt = s.cnt ∧ (modInst port b f s).rtc = s.rtc ∧ (modInst port b f s).drive = s.drive ∧ (modInst port b f s).metro = s.metro ∧ (modInst port b f s).air = s.air ∧ (modInst port b f s).store = s.store ∧ (modInst port b f s).inn = s.inn ∧ (modInst port b f s).ckpts = s.ckpts ∧ (modInst port b f s).saved = s.saved ∧ (modInst port b f s).vault = s.vault ∧ (modInst port b f s).bhLink = s.bhLink ∧ (modInst port b f s).twin = s.twin ∧ (modInst port b f s).boot = s.boot ∧ (modInst port b f s).firmware = s.firmware ∧ (modInst port b f s).supply = s.supply :=
  ⟨rfl, rfl, rfl, rfl, rfl, rfl, rfl, rfl, rfl, rfl, rfl, rfl, rfl, rfl, rfl, rfl, rfl, rfl, rfl, rfl, rfl, rfl, rfl, rfl, rfl, rfl, rfl, rfl, rfl, rfl, rfl, rfl⟩

@[simp] theorem modMbx_leaves (m : Nat) (f : Mailbox → Mailbox) (s : State) :
    (modMbx m f s).pending = s.pending ∧ (modMbx m f s).free = s.free ∧ (modMbx m f s).uptime = s.uptime ∧ (modMbx m f s).mode = s.mode ∧ (modMbx m f s).clerk = s.clerk ∧ (modMbx m f s).ord = s.ord ∧ (modMbx m f s).rel = s.rel ∧ (modMbx m f s).relTick = s.relTick ∧ (modMbx m f s).computed = s.computed ∧ (modMbx m f s).early = s.early ∧ (modMbx m f s).contexts = s.contexts ∧ (modMbx m f s).replayOrd = s.replayOrd ∧ (modMbx m f s).plan = s.plan ∧ (modMbx m f s).paths = s.paths ∧ (modMbx m f s).streams = s.streams ∧ (modMbx m f s).gbk = s.gbk ∧ (modMbx m f s).cnt = s.cnt ∧ (modMbx m f s).rtc = s.rtc ∧ (modMbx m f s).time = s.time ∧ (modMbx m f s).drive = s.drive ∧ (modMbx m f s).metro = s.metro ∧ (modMbx m f s).air = s.air ∧ (modMbx m f s).store = s.store ∧ (modMbx m f s).inn = s.inn ∧ (modMbx m f s).ckpts = s.ckpts ∧ (modMbx m f s).saved = s.saved ∧ (modMbx m f s).vault = s.vault ∧ (modMbx m f s).bhLink = s.bhLink ∧ (modMbx m f s).twin = s.twin ∧ (modMbx m f s).boot = s.boot ∧ (modMbx m f s).firmware = s.firmware ∧ (modMbx m f s).supply = s.supply :=
  ⟨rfl, rfl, rfl, rfl, rfl, rfl, rfl, rfl, rfl, rfl, rfl, rfl, rfl, rfl, rfl, rfl, rfl, rfl, rfl, rfl, rfl, rfl, rfl, rfl, rfl, rfl, rfl, rfl, rfl, rfl, rfl, rfl⟩

@[simp] theorem setStreamer_leaves (x : Streamer) (s : State) :
    (setStreamer x s).pending = s.pending ∧ (setStreamer x s).free = s.free ∧ (setStreamer x s).uptime = s.uptime ∧ (setStreamer x s).mode = s.mode ∧ (setStreamer x s).clerk = s.clerk ∧ (setStreamer x s).ord = s.ord ∧ (setStreamer x s).rel = s.rel ∧ (setStreamer x s).relTick = s.relTick ∧ (setStreamer x s).computed = s.computed ∧ (setStreamer x s).early = s.early ∧ (setStreamer x s).contexts = s.contexts ∧ (setStreamer x s).replayOrd = s.replayOrd ∧ (setStreamer x s).plan = s.plan ∧ (setStreamer x s).host = s.host ∧ (setStreamer x s).paths = s.paths ∧ (setStreamer x s).streams = s.streams ∧ (setStreamer x s).gbk = s.gbk ∧ (setStreamer x s).cnt = s.cnt ∧ (setStreamer x s).rtc = s.rtc ∧ (setStreamer x s).time = s.time ∧ (setStreamer x s).drive = s.drive ∧ (setStreamer x s).metro = s.metro ∧ (setStreamer x s).store = s.store ∧ (setStreamer x s).inn = s.inn ∧ (setStreamer x s).ckpts = s.ckpts ∧ (setStreamer x s).saved = s.saved ∧ (setStreamer x s).vault = s.vault ∧ (setStreamer x s).bhLink = s.bhLink ∧ (setStreamer x s).twin = s.twin ∧ (setStreamer x s).boot = s.boot ∧ (setStreamer x s).firmware = s.firmware ∧ (setStreamer x s).supply = s.supply :=
  ⟨rfl, rfl, rfl, rfl, rfl, rfl, rfl, rfl, rfl, rfl, rfl, rfl, rfl, rfl, rfl, rfl, rfl, rfl, rfl, rfl, rfl, rfl, rfl, rfl, rfl, rfl, rfl, rfl, rfl, rfl, rfl, rfl⟩

@[simp] theorem modLumRun_leaves (k : Nat) (f : LumRun → LumRun) (s : State) :
    (modLumRun k f s).pending = s.pending ∧ (modLumRun k f s).free = s.free ∧ (modLumRun k f s).uptime = s.uptime ∧ (modLumRun k f s).mode = s.mode ∧ (modLumRun k f s).clerk = s.clerk ∧ (modLumRun k f s).ord = s.ord ∧ (modLumRun k f s).rel = s.rel ∧ (modLumRun k f s).relTick = s.relTick ∧ (modLumRun k f s).computed = s.computed ∧ (modLumRun k f s).early = s.early ∧ (modLumRun k f s).contexts = s.contexts ∧ (modLumRun k f s).replayOrd = s.replayOrd ∧ (modLumRun k f s).plan = s.plan ∧ (modLumRun k f s).host = s.host ∧ (modLumRun k f s).paths = s.paths ∧ (modLumRun k f s).streams = s.streams ∧ (modLumRun k f s).gbk = s.gbk ∧ (modLumRun k f s).cnt = s.cnt ∧ (modLumRun k f s).rtc = s.rtc ∧ (modLumRun k f s).time = s.time ∧ (modLumRun k f s).metro = s.metro ∧ (modLumRun k f s).air = s.air ∧ (modLumRun k f s).store = s.store ∧ (modLumRun k f s).inn = s.inn ∧ (modLumRun k f s).ckpts = s.ckpts ∧ (modLumRun k f s).saved = s.saved ∧ (modLumRun k f s).vault = s.vault ∧ (modLumRun k f s).bhLink = s.bhLink ∧ (modLumRun k f s).twin = s.twin ∧ (modLumRun k f s).boot = s.boot ∧ (modLumRun k f s).firmware = s.firmware ∧ (modLumRun k f s).supply = s.supply :=
  ⟨rfl, rfl, rfl, rfl, rfl, rfl, rfl, rfl, rfl, rfl, rfl, rfl, rfl, rfl, rfl, rfl, rfl, rfl, rfl, rfl, rfl, rfl, rfl, rfl, rfl, rfl, rfl, rfl, rfl, rfl, rfl, rfl⟩

@[simp] theorem modRegion_leaves (r : Nat) (f : Region → Region) (s : State) :
    (modRegion r f s).pending = s.pending ∧ (modRegion r f s).free = s.free ∧ (modRegion r f s).uptime = s.uptime ∧ (modRegion r f s).mode = s.mode ∧ (modRegion r f s).clerk = s.clerk ∧ (modRegion r f s).ord = s.ord ∧ (modRegion r f s).rel = s.rel ∧ (modRegion r f s).relTick = s.relTick ∧ (modRegion r f s).computed = s.computed ∧ (modRegion r f s).early = s.early ∧ (modRegion r f s).contexts = s.contexts ∧ (modRegion r f s).replayOrd = s.replayOrd ∧ (modRegion r f s).plan = s.plan ∧ (modRegion r f s).host = s.host ∧ (modRegion r f s).paths = s.paths ∧ (modRegion r f s).streams = s.streams ∧ (modRegion r f s).gbk = s.gbk ∧ (modRegion r f s).cnt = s.cnt ∧ (modRegion r f s).rtc = s.rtc ∧ (modRegion r f s).time = s.time ∧ (modRegion r f s).drive = s.drive ∧ (modRegion r f s).metro = s.metro ∧ (modRegion r f s).air = s.air ∧ (modRegion r f s).inn = s.inn ∧ (modRegion r f s).ckpts = s.ckpts ∧ (modRegion r f s).saved = s.saved ∧ (modRegion r f s).vault = s.vault ∧ (modRegion r f s).bhLink = s.bhLink ∧ (modRegion r f s).twin = s.twin ∧ (modRegion r f s).boot = s.boot ∧ (modRegion r f s).firmware = s.firmware ∧ (modRegion r f s).supply = s.supply :=
  ⟨rfl, rfl, rfl, rfl, rfl, rfl, rfl, rfl, rfl, rfl, rfl, rfl, rfl, rfl, rfl, rfl, rfl, rfl, rfl, rfl, rfl, rfl, rfl, rfl, rfl, rfl, rfl, rfl, rfl, rfl, rfl, rfl⟩

@[simp] theorem setCntCtl_leaves (value : Nat) (s : State) :
    (setCntCtl value s).pending = s.pending ∧ (setCntCtl value s).free = s.free ∧ (setCntCtl value s).uptime = s.uptime ∧ (setCntCtl value s).mode = s.mode ∧ (setCntCtl value s).clerk = s.clerk ∧ (setCntCtl value s).ord = s.ord ∧ (setCntCtl value s).rel = s.rel ∧ (setCntCtl value s).relTick = s.relTick ∧ (setCntCtl value s).computed = s.computed ∧ (setCntCtl value s).early = s.early ∧ (setCntCtl value s).contexts = s.contexts ∧ (setCntCtl value s).replayOrd = s.replayOrd ∧ (setCntCtl value s).plan = s.plan ∧ (setCntCtl value s).host = s.host ∧ (setCntCtl value s).paths = s.paths ∧ (setCntCtl value s).streams = s.streams ∧ (setCntCtl value s).gbk = s.gbk ∧ (setCntCtl value s).rtc = s.rtc ∧ (setCntCtl value s).time = s.time ∧ (setCntCtl value s).drive = s.drive ∧ (setCntCtl value s).metro = s.metro ∧ (setCntCtl value s).air = s.air ∧ (setCntCtl value s).store = s.store ∧ (setCntCtl value s).inn = s.inn ∧ (setCntCtl value s).ckpts = s.ckpts ∧ (setCntCtl value s).saved = s.saved ∧ (setCntCtl value s).vault = s.vault ∧ (setCntCtl value s).bhLink = s.bhLink ∧ (setCntCtl value s).twin = s.twin ∧ (setCntCtl value s).boot = s.boot ∧ (setCntCtl value s).firmware = s.firmware ∧ (setCntCtl value s).supply = s.supply :=
  ⟨rfl, rfl, rfl, rfl, rfl, rfl, rfl, rfl, rfl, rfl, rfl, rfl, rfl, rfl, rfl, rfl, rfl, rfl, rfl, rfl, rfl, rfl, rfl, rfl, rfl, rfl, rfl, rfl, rfl, rfl, rfl, rfl⟩

@[simp] theorem drawFree_leaves (s : State) : (drawFree s).2.pending = s.pending ∧ (drawFree s).2.uptime = s.uptime ∧ (drawFree s).2.mode = s.mode ∧ (drawFree s).2.clerk = s.clerk ∧ (drawFree s).2.ord = s.ord ∧ (drawFree s).2.rel = s.rel ∧ (drawFree s).2.relTick = s.relTick ∧ (drawFree s).2.computed = s.computed ∧ (drawFree s).2.early = s.early ∧ (drawFree s).2.contexts = s.contexts ∧ (drawFree s).2.replayOrd = s.replayOrd ∧ (drawFree s).2.plan = s.plan ∧ (drawFree s).2.host = s.host ∧ (drawFree s).2.paths = s.paths ∧ (drawFree s).2.streams = s.streams ∧ (drawFree s).2.gbk = s.gbk ∧ (drawFree s).2.cnt = s.cnt ∧ (drawFree s).2.rtc = s.rtc ∧ (drawFree s).2.time = s.time ∧ (drawFree s).2.drive = s.drive ∧ (drawFree s).2.metro = s.metro ∧ (drawFree s).2.air = s.air ∧ (drawFree s).2.store = s.store ∧ (drawFree s).2.inn = s.inn ∧ (drawFree s).2.ckpts = s.ckpts ∧ (drawFree s).2.saved = s.saved ∧ (drawFree s).2.vault = s.vault ∧ (drawFree s).2.bhLink = s.bhLink ∧ (drawFree s).2.twin = s.twin ∧ (drawFree s).2.boot = s.boot ∧ (drawFree s).2.firmware = s.firmware ∧ (drawFree s).2.supply = s.supply ∧ (drawFree s).2.free = s.free + 1 :=
  ⟨rfl, rfl, rfl, rfl, rfl, rfl, rfl, rfl, rfl, rfl, rfl, rfl, rfl, rfl, rfl, rfl, rfl, rfl, rfl, rfl, rfl, rfl, rfl, rfl, rfl, rfl, rfl, rfl, rfl, rfl, rfl, rfl, rfl⟩

end Sys2Proof.Machine
end

