-- ==== Sys2Proof/Laws/Submit.lean ====
section
/-!
SUPPORT. Laws/Submit.lean: what a command row does when its path hands the command on: executed at once, or ordered into the open
waybill.
-/
namespace Sys2Proof.Machine

theorem popWaiting_append (cls index : Nat) (w : Waiting) (hw : w.cls = cls ∧ w.index = index) :
    ∀ l : List Waiting, l.any (fun x => x.cls == cls && x.index == index) = false → popWaiting cls index (l ++ [w]) = some (w, l)
  | [], _ => by simp [popWaiting, hw.1, hw.2]
  | x :: l, h => by
    rw [List.any_cons, Bool.or_eq_false_iff] at h
    simp [popWaiting, h.1, popWaiting_append cls index w hw l h.2]

@[simp] theorem masterOf_takeTag (q p : Packet) (s : State) : masterOf (takeTag q s) p.path = masterOf s p.path := by cases p.path <;> rfl

/-- The clerk finds the command that its path has just handed on. -/
theorem acceptHead_enqueue {op : Nat} {p : Packet} {s : State} (h : Taken op p s) (now : Packet → State → State) (i : OpInfo) (hi : opInfo op = some i) :
    acceptHead now 1 (masterOf s p.path) (enqueue p s) =
      if i.w then
        if s.mode.lifecycle == 4 then answer p { status := .notPermitted } (takeTag p s)
        else if orderingClosed s then answer p { status := .wrongState } (takeTag p s)
        else if (dupOf s (masterOf s p.path) p.seq).isNone && quotaSpent s (entryOf s (waitingOf s p)) then enqueue p s
        else orderCommand (waitingOf s p) p (takeTag p s)
      else now p (takeTag p s) := by
  have pop := popWaiting_append 1 (masterOf s p.path) (waitingOf s p) ⟨rfl, rfl⟩ s.clerk.intake h.alone
  have hop : opInfo p.opcode = some i := by rw [h.opcode]; exact hi
  have e : (enqueue p s).clerk.intake = s.clerk.intake ++ [waitingOf s p] := rfl
  have m : masterOf (enqueue p s) p.path = masterOf s p.path := by cases p.path <;> rfl
  unfold acceptHead
  rw [e, pop]
  simp only [waitingOf, hop, m]
  rfl

/-- A command that does not enter the waybill runs at once, and its answer goes out (R40). -/
theorem submit_executes {op : Nat} {p : Packet} {s : State} (h : Executes op p s) (f : Packet → State → State × Ans) :
    submit op f p s = answer p (f p (takeTag p s)).2 (f p (takeTag p s)).1 := by
  obtain ⟨i, hi, hw, hh⟩ := h.handle
  have hp : { p with opcode := op } = p := by rw [← h.opcode]
  have hop : opInfo p.opcode = some i := by rw [h.opcode]; exact hi
  have b1 : ¬ (s.boot.stage = 2 ∧ readsState p.opcode = true) := fun c => by have := h.running c.1; rw [← h.opcode, c.2] at this; cases this
  have b2 : ¬ (s.mode.lifecycle = 4 ∧ changes p = true) := fun c => by have := h.lifecycle c.1; rw [c.2] at this; cases this
  unfold submit
  simp only [hp, h.served, h.passes, h.alone, if_true, Bool.false_eq_true, if_false]
  rw [acceptHead_enqueue h.toTaken _ i hi, hw]
  unfold runNow
  simp only [Bool.false_eq_true, if_false, hop, takeTag_leaves, hh]
  simp [b1, b2]

/-- A row that submits a command is carried out as its function says. -/
theorem answered_of {op : Nat} {p : Packet} {s t : State} {a : Ans} {c : Instr} (h : Executes op p s) {f : Packet → State → State × Ans} (hx : exec c s = .next (submit op f p s))
    (hf : f p (takeTag p s) = (t, a)) : Answered c p s a t := by
  rw [Answered, hx, submit_executes h, hf]

theorem reports_of {op : Nat} {p : Packet} {s : State} {a : Ans} {c : Instr} {P : Ans → Prop} (h : Executes op p s) {f : Packet → State → State × Ans}
    (hx : exec c s = .next (submit op f p s)) (hf : f p (takeTag p s) = (takeTag p s, a)) (hl : a.later = false) (hp : P a) : Reports c p s P :=
  ⟨a, answered_of h hx hf, hl, hp⟩

/-- A row whose command is answered later leaves only its function's effect. -/
theorem next_of {op : Nat} {p : Packet} {s t : State} {a : Ans} {c : Instr} (h : Executes op p s) {f : Packet → State → State × Ans} (hx : exec c s = .next (submit op f p s))
    (hf : f p (takeTag p s) = (t, a)) (hl : a.later = true) : exec c s = .next t := by
  rw [hx, submit_executes h, hf]; simp [answer, hl]

/-- A command that enters the waybill is ordered (R20). -/
theorem submitW_orders {op : Nat} {p : Packet} {s : State} (h : Orders op p s) : submitW op p s = orderCommand (waitingOf s p) p (takeTag p s) := by
  obtain ⟨i, hi, hw⟩ := h.enters
  have hp : { p with opcode := op } = p := by rw [← h.opcode]
  unfold submitW submit
  simp only [hp, h.served, h.passes, h.alone, if_true, Bool.false_eq_true, if_false]
  rw [acceptHead_enqueue h.toTaken _ i hi, hw]
  simp [h.lifecycle, h.open_, h.room]

end Sys2Proof.Machine
end

