-- ==== Sys2Proof/Tests/Slice0.lean ====
section
/-!
SUPPORT. Tests/Slice0.lean: the author's own tests. For every obligation with hypotheses, test_meets_<its name> shows states and operands that meet
them, at the ends of their ranges; ill-formed commands are refused; and numbers that the specification works out itself come out of the model.
-/
namespace Sys2Proof.Tests
open Machine

/-- A command packet of an opcode with a payload, from a path (the service port unless given), for a handle (the device's unless given). -/
def pk (op : Nat) (b : List Byte := []) (h : Handle := deviceHandle) (path : Path := .service 0) (flags : Nat := 0) : Packet :=
  { path := path, flags := flags, opcode := op, handle := h, payload := b, length := b.length, received := b.length + 16, seq := 1, tag := 1 }

/-- Bytes from widths and values. -/
def enc (xs : List (Nat × Nat)) : List Byte := (xs.map (fun x => le x.1 x.2)).flatten

/-- The handle of the channel of a type in slot 5, and such a channel. -/
def hd (t : Nat) : Handle := mkHandle t 1 5
def chn (t : Nat) (body : ChanBody) (state : ChanState := .running) : Channel := { handle := hd t, state, body }

/-- Paths: the PCIe host, the head-end, and the module's own firmware. -/
def host : Path := .ring 0 0 0 0 0
def head : Path := .remote 0 0 0 0

/-- A module that runs in tick 1,000, with the channels given. -/
def live (cs : List Channel := []) : State :=
  { State.reset with mode := { ready := true }, clerk := { running := true, tick := 1000, lastTick := 999 }, boot := { stage := 4 }
                     ord := { channels := cs }, rel := { channels := cs }, relTick := 998 }

/-- What `Executes` asks, as a check that can be evaluated. -/
def executesB (op : Nat) (p : Packet) (s : State) : Bool :=
  p.opcode == op && served s p && (intakeCheck s p).isNone && !s.clerk.intake.any (fun w => w.cls == 1 && w.index == masterOf s p.path) &&
    (opInfo op).any (fun i => !i.w && (handleCheck s.ord i.handle p.handle).isNone) && (s.boot.stage != 2 || !readsState op) && (s.mode.lifecycle != 4 || !changes p)

theorem executes {op : Nat} {p : Packet} {s : State} (h : executesB op p s = true) : Executes op p s := by
  simp [executesB] at h
  obtain ⟨⟨⟨⟨⟨⟨h1, h2⟩, h3⟩, h4⟩, h5⟩, h6⟩, h7⟩ := h
  refine ⟨⟨h1, h2, h3, ?_⟩, ?_, ?_, ?_⟩
  · simpa using h4
  · obtain ⟨i, hi, hw⟩ := Option.any_eq_true .. |>.mp h5
    simp at hw
    exact ⟨i, hi, hw.1, hw.2⟩
  · intro h; exact h6.resolve_left (by simp [h])
  · intro h; exact h7.resolve_left (by simp [h])

/-! ### Every hypothesis is met -/

theorem test_meets_HostCommandsComplete :
    Executes 0x0001 (pk 0x0001) live ∧ Executes 0x0002 (pk 0x0002 [1, 2, 3]) live ∧ Executes 0x0010 (pk 0x0010) live ∧ Executes 0x0018 (pk 0x0018) live ∧ Executes 0x0020 (pk 0x0020) live ∧
    (∃ p, Executes 0x0019 p live ∧ (∀ m, m < p.payload.length / 2 → fld p.payload (2 * m) 1 ∈ [0, 1, 4] ∧ fld p.payload (2 * m + 1) 1 ∈ [5, 6, 7])) ∧
    (∃ p, Executes 0x0021 p live ∧ 1024 ≤ fld p.payload 0 2 ∧ fld p.payload 2 1 ≤ 3) :=
  ⟨executes (by decide), executes (by decide), executes (by decide), executes (by decide), executes (by decide),
   ⟨pk 0x0019 (List.replicate 16 [(4 : Byte), 7]).flatten, executes (by decide), by decide⟩, ⟨pk 0x0021 (enc [(2, 1024), (1, 3), (5, 0)]), executes (by decide), by decide⟩⟩

def strm (master : Nat) : Channel := chn 8 (.stream { master, configured := true })

theorem test_meets_StreamCommandsComplete :
    (∃ p s cfg, Executes 0x0041 p s ∧ streamOf s.ord p.handle = some cfg ∧ cfg.configured = true ∧ cfg.master = 3 ∧ masterOf s p.path = 3 ∧
      fld p.payload 0 8 ≤ ((s.streams.find? (fun r => r.slot == hSlot p.handle)).getD { slot := hSlot p.handle }).lastSent ∧ fld p.payload 8 1 ≤ 64) ∧
    (∃ p s ch cfg, Executes 0x0042 p s ∧ chanOf s.ord p.handle = some ch ∧ streamOf s.ord p.handle = some cfg ∧ cfg.configured = true ∧ cfg.master ≠ 3 ∧ cfg.master = masterOf s p.path ∧
      ∃ r, s.streams.find? (fun r => r.slot == hSlot p.handle) = some r ∧ r.ack ≤ fld p.payload 0 8 ∧ fld p.payload 0 8 ≤ r.lastSent ∧ ch.state = .running ∧
        (r.acked (fld p.payload 0 8)).unacked.find? (fun m => m.num == fld p.payload 0 8 + 1) = none ∧ r.waiting ≠ []) ∧
    Executes 0x0043 (pk 0x0043 [] (hd 8)) (live [strm 0]) :=
  ⟨⟨pk 0x0041 (enc [(8, 0), (8, 64)]) (hd 8) head, live [strm 3], { master := 3, configured := true }, executes (by decide), by decide⟩,
   ⟨pk 0x0042 (enc [(8, 3), (8, 0)]) (hd 8) host, { live [strm 0] with streams := [{ slot := 5, ack := 2, lastSent := 3, waiting := [⟨4, 1, 0x0301, [1], 0, false, false, false⟩] }] }, strm 0,
     { master := 0, configured := true }, executes (by decide), by decide, by decide, by decide, by decide, by decide, _, rfl, by decide⟩,
   executes (by decide)⟩

/-- A field of a payload that the part fixes. -/
theorem fld_le (n : Nat) (b r : List Byte) (v : Nat) (hv : v < 256 ^ n) : fld (b ++ (le n v ++ r)) b.length n = v := by
  have h : ∀ n v, v < 256 ^ n → (le n v).length = n ∧ unle (le n v) = v := by
    intro n
    induction n with
    | zero => intro v h; simp [le, unle] at *; omega
    | succ n ih =>
      intro v h
      have := ih (v / 256) (by rw [Nat.pow_succ] at h; omega)
      rw [le, unle, this.2]; simp [this.1]; omega
  simp only [fld, List.drop_left]
  rw [List.take_left' (h n v hv).1, (h n v hv).2]

theorem test_meets_RecoveryCommandsComplete :
    (∃ p, Executes 0x0008 p live ∧ fld p.payload 0 1 ≤ 1 ∧ fld p.payload 4 4 = Config.unitSerial.toNat % 2 ^ 32 ∧ (fld p.payload 0 1 = 1 → masterOf live p.path = 2) ∧ live.boot.pending = none) ∧
    (∃ p, Executes 0x0009 p live ∧ fld p.payload 0 1 ∈ [2, 3, 4, 11] ∧ masterOf live p.path = 5 ∧ live.boot.domains.all (fun x => x.1 != fld p.payload 0 1) = true) ∧
    (∃ p s, Executes 0x0009 p s ∧ fld p.payload 0 1 = 10 ∧ masterOf s p.path ∈ [0, 1, 2, 3, 5] ∧ driveGated s = false ∧ s.boot.domains.all (fun x => x.1 != fld p.payload 0 1) = true) ∧
    Executes 0x000A (pk 0x000A) live ∧ Executes 0x000B (pk 0x000B) live := by
  refine ⟨⟨pk 0x0008 (enc [(1, 1), (3, 0)] ++ (le 4 (Config.unitSerial.toNat % 2 ^ 32) ++ [])), executes (by decide), by decide, ?_, by decide⟩,
    ⟨pk 0x0009 (enc [(1, 11), (7, 0)]) deviceHandle (.internal 5), executes (by decide), by decide⟩,
    ⟨pk 0x0009 (enc [(1, 10), (7, 0)]), live [chn 5 (.luminaire {})], executes (by decide), by decide⟩, executes (by decide), executes (by decide)⟩
  exact fld_le 4 (enc [(1, 1), (3, 0)]) [] _ (Nat.mod_lt _ (by decide))

/-- A GROUP channel, and a module that holds it and the checkpoint of tick 998. -/
def grp (state : ChanState := .running) : Channel := chn 1 (.group {}) state
def ckpted (cs : List Channel) : State := { live cs with ckpts := [{ tick := 998, ord := {} }], clerk := { (live cs).clerk with ring := [{ tick := 999 }] } }

theorem test_meets_PlacementCommandsComplete :
    (∃ p s ch c, Executes 0x0106 p s ∧ chanOf s.ord p.handle = some ch ∧ ch.state ≠ .created ∧ ch.state ≠ .configured ∧ s.inn.rebuilds.length + s.inn.waiting.length < 4 ∧
      (∀ r ∈ s.inn.rebuilds, r.handle ≠ p.handle) ∧ (∀ r ∈ s.inn.waiting, r.handle ≠ p.handle) ∧ newestCkpt s = some c ∧ ringHolds s c.tick = true) ∧
    Executes 0x0107 (pk 0x0107 [] (hd 1)) (live [grp]) ∧
    (∃ p, Executes 0x0108 p live ∧ fld p.payload 0 2 ≤ 4095 ∧ fld p.payload 2 1 ≤ 9 ∧ fld p.payload 3 1 ≠ 0) ∧
    (∃ p s l, Executes 0x0110 p s ∧ s.inn.lodges.find? (fun l => l.slot == hSlot p.handle) = some l) ∧
    (∃ p s, Executes 0x0111 p s ∧ fld p.payload 0 1 ≤ 3) ∧
    (∃ p s, Executes 0x0112 p s ∧ s.mode.lifecycle = 3 ∧ fld p.payload 0 1 = 0xFF) ∧
    (∃ p s, Executes 0x0112 p s ∧ s.mode.lifecycle = 3 ∧ fld p.payload 0 1 ≠ 0xFF ∧ engineUsable s (fld p.payload 0 1) = true) ∧
    Executes 0x0113 (pk 0x0113) live :=
  ⟨⟨pk 0x0106 [] (hd 1), { ckpted [grp] with inn := { rebuilds := [{ handle := hd 2 }, { handle := hd 3 }], waiting := [{ handle := hd 4 }] } }, grp, _, executes (by decide), by decide, by decide, by decide, by decide, by decide, by decide, rfl, by decide⟩,
   executes (by decide), ⟨pk 0x0108 (enc [(2, 4095), (1, 9), (1, 1)]), executes (by decide), by decide⟩,
   ⟨pk 0x0110 [] (hd 1), { live [grp] with inn := { lodges := [{ slot := 5, engine := 11 }] } }, _, executes (by decide), rfl⟩,
   ⟨pk 0x0111 (enc [(1, 3), (7, 0)]) (hd 1), live [grp], executes (by decide), by decide⟩,
   ⟨pk 0x0112 (enc [(1, 0xFF), (3, 0)]) (hd 1), { live [grp] with mode := { ready := true, lifecycle := 3 } }, executes (by decide), by decide⟩,
   ⟨pk 0x0112 (enc [(1, 11), (3, 0)]) (hd 1), { live [grp] with mode := { ready := true, lifecycle := 3 } }, executes (by decide), by decide⟩, executes (by decide)⟩

theorem test_meets_WaybillCommandsComplete :
    Executes 0x0201 (pk 0x0201) live ∧
    (∃ p s w, Executes 0x0210 p s ∧ s.clerk.ring.find? (fun w => w.tick == fld p.payload 0 8) = some w ∧ fld p.payload 12 2 ≠ 0 ∧ fld p.payload 12 2 ≤ 4064 ∧
      fld p.payload 8 4 < w.size ∧ s.store.badWaybills.any (fun x => x.1 == fld p.payload 0 8 && fld p.payload 8 4 < x.2 + 8 &&
        decide (x.2 < fld p.payload 8 4 + min (fld p.payload 12 2) (w.size - fld p.payload 8 4))) = false) ∧
    (∃ p s, Executes 0x0211 p s ∧ fld p.payload 8 1 ≠ 0 ∧ fld p.payload 8 1 ≤ 63 ∧ digestRun s.clerk (fld p.payload 8 1) (fld p.payload 0 8) ≠ []) ∧
    Executes 0x0212 (pk 0x0212) live ∧
    (∃ p s c, Executes 0x0220 p s ∧ fld p.payload 0 8 ≤ fld p.payload 8 8 ∧ fld p.payload 16 1 ≤ 1 ∧ 1 ≤ fld p.payload 17 1 ∧ fld p.payload 17 1 ≤ 8 ∧ s.clerk.replay.busy = false ∧
      (s.ckpts.filter (fun c => c.tick < fld p.payload 0 8)).getLast? = some c ∧ fld p.payload 8 8 < s.clerk.tick ∧
      (∀ k, c.tick < k → k ≤ fld p.payload 8 8 → ringHas s k = true) ∧ s.ord.plan.fromTick ≤ c.tick ∧ c.fw = fwVector s) ∧
    Executes 0x0221 (pk 0x0221) live ∧
    (∃ p s, Executes 0x0222 p s ∧ s.clerk.replay.busy = true) := by
  refine ⟨executes (by decide), ⟨pk 0x0210 (enc [(8, 999), (4, 63), (2, 4064), (2, 0)]), ckpted [], _, executes (by decide), rfl, by decide⟩,
    ⟨pk 0x0211 (enc [(8, 999), (1, 63), (7, 0)]), { live with clerk := { live.clerk with records := [{ tick := 999, d := 1, o := 2 }] } }, executes (by decide), by decide⟩,
    executes (by decide), ⟨pk 0x0220 (enc [(8, 999), (8, 999), (1, 1), (1, 8), (2, 0)]), ckpted [], { tick := 998, ord := {} }, executes (by decide), by decide, by decide, by decide, by decide,
      by decide, by decide, by decide, ?_, by decide, by decide⟩, executes (by decide),
    ⟨pk 0x0222, { live with clerk := { live.clerk with replay := { state := 1 } } }, executes (by decide), by decide⟩⟩
  intro k h1 h2
  have h2 : k ≤ 999 := h2
  have h1 : 998 < k := h1
  have : k = 999 := by omega
  subst this; decide

/-- A placed partner: its number and its item of the plan (section 4): lantern on link 3 at chainage 0, hardware 7. -/
def placed (n : Nat) : Nat × List Byte := (n, enc [(2, n), (1, if n ≤ 8191 then 1 else 2)] ++ zeros 61)
def planned (s : State) (ns : List Nat) : State :=
  { s with ord := { s.ord with plan := { s.ord.plan with plan := { placements := ns.map placed } } }, rel := { s.rel with plan := { s.rel.plan with plan := { placements := ns.map placed } } } }

theorem test_meets_PlanCommandsComplete :
    (∃ p, Executes 0x0301 p live ∧ live.plan.state = 0) ∧
    (∃ p s sec n, Executes 0x0302 p s ∧ sec = fld p.payload 0 1 ∧ n = fld p.payload 2 2 ∧ planItemSize sec ≠ 0 ∧ n ≠ 0 ∧ (sec = 1 → n = 1) ∧
      (chunks (planItemSize sec) n (p.payload.drop 8)).all (planItemOk sec) = true ∧ s.plan.state = 1 ∧ s.plan.owner = masterOf s p.path) ∧
    (∃ p s, Executes 0x0304 p s ∧ s.plan.state ≠ 0 ∧ (masterOf s p.path = s.plan.owner ∨ masterOf s p.path = 2) ∧ (s.plan.state = 2 → s.plan.switched = false)) ∧
    Executes 0x0305 (pk 0x0305) live ∧
    (∃ p s n, Executes 0x0310 p s ∧ fld p.payload 0 2 = n ∧ n ≤ 10239 ∧ (placementOf s.rel n).isSome = true) ∧
    (∃ p s ch c r, Executes 0x0311 p s ∧ chanOf s.ord p.handle = some ch ∧ streamOf s.ord p.handle = some c ∧ s.streams.find? (fun r => r.slot == hSlot p.handle) = some r ∧
      fld p.payload 0 2 ≤ fld p.payload 2 2 ∧ fld p.payload 2 2 ≤ 10239 ∧ ch.state = .running ∧ c.selectors.any (fun x => x.code == 0x0301) = true ∧ r.snapshot = none) ∧
    (∃ p kind most key, Executes 0x0312 p live ∧ fld p.payload 0 1 = kind ∧ fld p.payload 2 2 = most ∧ (p.payload.drop 8).take 12 = key ∧ kind ≤ 3 ∧ 1 ≤ most ∧ most ≤ 2032 ∧
      (kind = 1 → fld key 0 2 ≤ 4095 ∧ fld key 4 4 ≤ fld key 8 4) ∧ (kind = 2 → (fld key 0 1 ≤ 7 ∨ fld key 0 1 = 0xFF) ∧ fld key 1 1 ≤ 3) ∧
      (kind = 3 → hType (BitVec.ofNat 32 (fld key 0 4)) = 1)) :=
  ⟨⟨pk 0x0301 (enc [(8, 1)]), executes (by decide), by decide⟩,
   ⟨pk 0x0302 (enc [(1, 5), (1, 0), (2, 1), (4, 0), (2, 8191), (2, 1), (4, 0)]), { live with plan := { live.plan with state := 1, owner := 2, gen := 1 } }, 5, 1, executes (by decide), by decide⟩,
   ⟨pk 0x0304, { live with plan := { live.plan with state := 2, owner := 0, gen := 1 } }, executes (by decide), by decide⟩,
   executes (by decide), ⟨pk 0x0310 (enc [(2, 10239), (6, 0)]), planned live [10239], 10239, executes (by decide), by decide⟩,
   ⟨pk 0x0311 (enc [(2, 10239), (2, 10239), (4, 0)]) (hd 8), { live [chn 8 (.stream { configured := true, selectors := [⟨0x0301, 0⟩] })] with streams := [{ slot := 5 }] },
     chn 8 (.stream { configured := true, selectors := [⟨0x0301, 0⟩] }), { configured := true, selectors := [⟨0x0301, 0⟩] }, { slot := 5 }, executes (by decide), by decide⟩,
   ⟨pk 0x0312 (enc [(1, 3), (1, 0), (2, 2032), (4, 0), (4, (hd 1).toNat), (8, 0)]), 3, 2032, enc [(4, (hd 1).toNat), (8, 0)], executes (by decide), by decide⟩⟩

def sch : Schedule := { week := List.replicate 7 0, programmes := [[⟨0, 500, 0⟩]] }
/-- A loop slot of the LOOP channel of slot 5, slow, configured. -/
def slow : LoopSlot := { slot := 0, owner := hd 6, member := 0, law := 1, cls := 1 }
def looped (x : LoopSlot := slow) : State := { live [chn 6 .loop] with ord := { (live [chn 6 .loop]).ord with loops := [x] } }
def traced (r : TraceRun) : State := { live [chn 9 (.trace r.cfg)] with drive := { traces := [r] } }
def run9 (state : Nat) : TraceRun := { handle := hd 9, cfg := { nodes := [(0, 1)] }, state, rows := [[5]] }

theorem test_meets_ControlQueriesComplete :
    (∃ p s ch g, Executes 0x0403 p s ∧ chanOf s.rel p.handle = some ch ∧ groupOf s.rel p.handle = some g) ∧
    (∃ p s, Executes 0x0404 p s ∧ fld p.payload 0 2 ≤ 8191 ∧ (placementOf s.rel (fld p.payload 0 2)).isSome = true) ∧
    (∃ p s ch x, Executes 0x0412 p s ∧ chanOf s.ord p.handle = some ch ∧ scheduleOf s.ord p.handle = some x ∧ ch.judged ≠ .created ∧ 2000 ≤ fld p.payload 0 2 ∧ fld p.payload 0 2 ≤ 2199 ∧
      1 ≤ fld p.payload 2 1 ∧ fld p.payload 2 1 ≤ 12 ∧ 1 ≤ fld p.payload 3 1 ∧ fld p.payload 3 1 ≤ monthDays (fld p.payload 0 2) (fld p.payload 2 1)) ∧
    (∃ p s ch, Executes 0x0505 p s ∧ chanOf s.rel p.handle = some ch) ∧
    (∃ p s, Executes 0x0506 p s ∧ 1 ≤ fld p.payload 2 1 ∧ fld p.payload 2 1 ≤ 32 ∧ fld p.payload 0 2 ≤ 1023) ∧
    (∃ p s x, Executes 0x0606 p s ∧ loopTarget s.ord p.handle (fld p.payload 0 1) = .ok x) ∧
    (∀ k ≤ 2, ∃ p s ch r, Executes 0x0611 p s ∧ chanOf s.ord p.handle = some ch ∧ s.drive.traces.find? (fun r => r.handle == p.handle) = some r ∧ ch.state = .running ∧ fld p.payload 0 1 = k ∧ r.state = 1) ∧
    (∃ p s r, Executes 0x0612 p s ∧ s.drive.traces.find? (fun r => r.handle == p.handle) = some r ∧ r.state ≠ 0 ∧ 1 ≤ fld p.payload 4 2 ∧ fld p.payload 4 2 ≤ 1008 ∧
      fld p.payload 0 1 < r.cfg.nodes.length ∧ fld p.payload 2 2 + fld p.payload 4 2 ≤ r.rows.length) ∧
    (∃ p s ch l, Executes 0x0705 p s ∧ chanOf s.ord p.handle = some ch ∧ s.drive.lums.find? (fun l => l.handle == p.handle) = some l) := by
  refine ⟨⟨pk 0x0403 [] (hd 1), live [grp], grp, {}, executes (by decide), by decide⟩, ⟨pk 0x0404 (enc [(2, 8191), (6, 0)]), planned live [8191], executes (by decide), by decide⟩,
    ⟨pk 0x0412 (enc [(2, 2000), (1, 2), (1, 29), (4, 0)]) (hd 2), live [chn 2 (.schedule sch)], chn 2 (.schedule sch), sch, executes (by decide), by decide⟩,
    ⟨pk 0x0505 [] (hd 3), live [chn 3 (.escort {})], chn 3 (.escort {}), executes (by decide), by decide⟩, ⟨pk 0x0506 (enc [(2, 1023), (1, 32), (5, 0)]) (hd 3), live [chn 3 (.escort {})], executes (by decide), by decide⟩,
    ⟨pk 0x0606 (enc [(8, 0)]) (hd 6), looped, slow, executes (by decide), rfl⟩, ?_,
    ⟨pk 0x0612 (enc [(2, 0), (2, 0), (2, 1), (2, 0)]) (hd 9), traced (run9 3), run9 3, executes (by decide), by decide⟩,
    ⟨pk 0x0705 [] (hd 5), { live [chn 5 (.luminaire {})] with drive := { lums := [{ handle := hd 5, cfg := {}, num := 0 }] } }, chn 5 (.luminaire {}), { handle := hd 5, cfg := {}, num := 0 }, executes (by decide), by decide⟩⟩
  intro k hk
  have : k = 0 ∨ k = 1 ∨ k = 2 := by omega
  refine ⟨pk 0x0611 (enc [(4, k)]) (hd 9), traced (run9 1), chn 9 (.trace (run9 1).cfg), run9 1, ?_⟩
  rcases this with rfl | rfl | rfl <;> exact ⟨executes (by decide), by decide⟩

def circ : Circuit := { num := some 7, phases := [(0, 15)], un := 230, noLoad := 4, inom := 6554 }
/-- A module with the CIRCUIT channel of slot 5, circuit number 7, and its measurement. -/
def metered : State :=
  { live [chn 4 (.circuit circ)] with metro := { runs := [{ handle := hd 4, cfg := circ, from_ := 1000, last := some (999, []), harmonics := [⟨1, 1, 999, 0, 0, 0, []⟩] }] }
                                      rel := { channels := [chn 4 (.circuit circ)], metering := { meters := List.replicate 8 { opened := true, intervals := [(1, [])], balances := [(1, [])] } } } }

theorem test_meets_MeteringCommandsComplete :
    (∃ p s b, Executes 0x0803 p s ∧ p.payload = b ∧ fld b 0 1 ≤ 4 ∧ fld b 1 1 ≤ 15 ∧ ((fld b 0 1 = 4 ∧ fld b 2 1 ≤ 2) ∨ fld b 2 1 = 0) ∧ fld b 3 1 ≤ 1 ∧ 50 ≤ fld b 4 2 ∧ fld b 4 2 ≤ 3000 ∧
      (fldS b 16 4).natAbs ≤ 90000 ∧ s.metro.job.state ≠ 1 ∧ ∃ j : CalJob, j = { step := fld b 0 1, input := fld b 1 1, path := fld b 3 1 } ∧ (j.target.1 = 0 → fld b 1 1 ≤ 3) ∧
        (j.target.1 = 1 → j.target.2 = 0 → bit ((s.metro.iin[fld b 1 1]?).getD { value := 0 }).flags 2 = false) ∧ (j.target.1 = 1 → j.target.2 = 1 → bit ((s.metro.iin[fld b 1 1]?).getD { value := 0 }).flags 1 = false)) ∧
    Executes 0x0804 (pk 0x0804) live ∧
    (∃ p s ch r t b, Executes 0x0806 p s ∧ chanOf s.ord p.handle = some ch ∧ ch.state ≠ .created ∧ ch.state ≠ .configured ∧ s.metro.runs.find? (fun r => r.handle == p.handle) = some r ∧ r.last = some (t, b)) ∧
    (∃ p s c z, Executes 0x0807 p s ∧ circuitOf s.ord p.handle = some c ∧ 1 ≤ fld p.payload 0 1 ∧ fld p.payload 0 1 ≤ c.phases.length ∧ fld p.payload 1 1 ≤ 1 ∧
      (s.metro.runs.find? (fun r => r.handle == p.handle)).bind (fun r => r.harmonics.find? (fun z => z.phase == fld p.payload 0 1 && z.quantity == fld p.payload 1 1)) = some z) ∧
    (∃ p s ch c, Executes 0x0820 p s ∧ chanOf s.ord p.handle = some ch ∧ ch.state ≠ .created ∧ ch.state ≠ .configured ∧ circuitOf s.ord p.handle = some c) ∧
    (∃ p s, Executes 0x0822 p s ∧ p.handle = deviceHandle ∧ fld p.payload 0 1 ≤ 7 ∧ fld p.payload 1 1 = 2 ∧ 1 ≤ fld p.payload 2 1 ∧ fld p.payload 2 1 ≤ 30 ∧
      ∃ r ∈ (meterOf s.rel (fld p.payload 0 1)).intervals, r.1 = fld p.payload 4 4) ∧
    (∃ p s, Executes 0x0822 p s ∧ p.handle ≠ deviceHandle ∧ fld p.payload 1 1 = 3 ∧ 1 ≤ fld p.payload 2 1 ∧ fld p.payload 2 1 ≤ 30 ∧
      ∃ r ∈ (meterOf s.rel (((circuitOf s.ord p.handle).bind (·.num)).getD 0)).balances, r.1 = fld p.payload 4 4) ∧
    (∃ p, Executes 0x0825 p metered) ∧ Executes 0x0826 (pk 0x0826) live :=
  ⟨⟨pk 0x0803 (enc [(1, 4), (1, 15), (1, 2), (1, 1), (2, 3000), (2, 0), (8, 0), (4, 90000), (4, 0)]), live, _, executes (by decide), rfl, by decide, by decide, by decide, by decide, by decide, by decide, by decide, by decide, _, rfl, by decide⟩,
   executes (by decide), ⟨pk 0x0806 [] (hd 4), metered, _, _, 999, [], executes (by decide), rfl, by decide, by decide, rfl, rfl⟩, ⟨pk 0x0807 (enc [(1, 1), (1, 1), (2, 0)]) (hd 4), metered, circ, _, executes (by decide), by decide, by decide, by decide, by decide, rfl⟩,
   ⟨pk 0x0820 [] (hd 4), metered, chn 4 (.circuit circ), circ, executes (by decide), by decide⟩,
   ⟨pk 0x0822 (enc [(1, 7), (1, 2), (2, 30), (4, 1)]), metered, executes (by decide), by decide⟩, ⟨pk 0x0822 (enc [(1, 0), (1, 3), (2, 30), (4, 1)]) (hd 4), metered, executes (by decide), by decide⟩,
   ⟨pk 0x0825 [] (hd 4), executes (by decide)⟩, executes (by decide)⟩

/-- A module with a radio on, the slot plan and the hop plan. -/
def rcfg : RadioCfg := { on := true, family := 1, rate := 0, option := 0, flags := 0, preamble := 4, level := 5, guard := 100, pan := 1, key := 2 }
def aired (s : State) : State :=
  { s with ord := { s.ord with air := { s.ord.air with radios := [{ cfg := some rcfg, plan := some ⟨1, List.replicate 60 1⟩ }] ++ List.replicate 3 {}
                                                       hop := some ⟨0, 200, [0, 1, 0, 1], 36000, 3600, [0, 1]⟩ } } }

theorem test_meets_RadioCommandsComplete :
    (∃ p, Executes 0x0904 p (aired live) ∧ fld p.payload 0 1 ≤ 3) ∧ Executes 0x0905 (pk 0x0905) (aired live) ∧
    (∃ p s n, Executes 0x0A01 p s ∧ fld p.payload 0 2 = n ∧ n ≤ 10239 ∧ (placementOf s.rel n).isSome = true) ∧
    (∃ p, Executes 0x0A03 p live ∧ 1 ≤ fld p.payload 4 1 ∧ fld p.payload 4 1 ≤ 100 ∧ fld p.payload 5 1 ≤ 3) ∧
    (∃ p s ch x, Executes 0x0A11 p s ∧ chanOf s.ord p.handle = some ch ∧ ch.state ≠ .running ∧ ch.state ≠ .held ∧
      x = (let x0 := streamerOf s (hSlot p.handle); if fld p.payload 0 4 = 0 ∧ x0.placed then { slot := x0.slot } else x0) ∧ 64 ≤ fld p.payload 4 4 ∧ fld p.payload 4 4 ≤ 8388608 ∧ fld p.payload 8 1 = 0 ∧
      fld p.payload 0 4 = x.bytes.length ∧ (x.bytes = [] ∨ fld p.payload 4 4 = x.total) ∧ x.bytes.length + (p.payload.drop 12).length < fld p.payload 4 4) ∧
    (∃ p s ch x, Executes 0x0A12 p s ∧ chanOf s.rel p.handle = some ch ∧ sessionOf s.rel p.handle = some x) :=
  ⟨⟨pk 0x0904 (enc [(1, 3), (7, 0)]), executes (by decide), by decide⟩, executes (by decide), ⟨pk 0x0A01 (enc [(2, 10239), (6, 0)]), planned live [10239], 10239, executes (by decide), by decide⟩,
   ⟨pk 0x0A03 (enc [(4, 0), (1, 100), (1, 3), (2, 0)]), executes (by decide), by decide⟩,
   ⟨pk 0x0A11 (enc [(4, 0), (4, 8388608), (4, 0), (1, 7)]) (hd 7), live [chn 7 (.session {}) .configured], _, _, executes (by decide), rfl, by decide, by decide, rfl, by decide, by decide, by decide, by decide, by decide, by decide⟩,
   ⟨pk 0x0A12 [] (hd 7), live [chn 7 (.session {})], chn 7 (.session {}), {}, executes (by decide), by decide⟩⟩

theorem test_meets_TimeCommandsComplete :
    (∃ p s b, Executes 0x0B01 p s ∧ p.payload = b ∧ fld b 0 1 ≠ fld b 1 1 ∧ fld b 0 1 ≤ 127 ∧ fld b 1 1 ≤ 127 ∧ fld b 2 1 ≤ 1 ∧ fld b 3 1 ≤ 1 ∧ fld b 4 1 ≤ 1 ∧ (fld b 5 1 = 1 ∨ fld b 5 1 = 2) ∧
      5 ≤ fld b 6 2 ∧ fld b 6 2 ≤ 1000 ∧ 1 ≤ fld b 8 2 ∧ fld b 8 2 ≤ 1000 ∧ 100 ≤ fld b 12 4 ∧ fld b 12 4 ≤ 1000000 ∧ s.time.insts.any (bandwidthConflict (fld b 6 2)) = false ∧
      fld b 0 1 = (baseAt s.time 0).domain ∧ fld b 1 1 = (baseAt s.time 1).domain) ∧
    Executes 0x0B02 (pk 0x0B02) live ∧
    (∃ p s b, Executes 0x0B03 p s ∧ p.payload = b ∧ (fld b 0 1 = 1 ∨ fld b 0 1 = 2) ∧ (baseAt s.time (fld b 0 1 - 1)).state = 3 ∧ s.time.pendingSwitch = none ∧ s.time.source = fld b 0 1) ∧
    (∃ p s b, Executes 0x0B03 p s ∧ p.payload = b ∧ (fld b 0 1 = 1 ∨ fld b 0 1 = 2) ∧ (baseAt s.time (fld b 0 1 - 1)).state = 3 ∧ s.time.pendingSwitch = none ∧ s.time.source ≠ fld b 0 1) ∧
    (∃ p s b, ∃ i : PtpInst, Executes 0x0B04 p s ∧ p.payload = b ∧ i = { enable := fld b 2 1 == 1, mech := fld b 3 1, transport := fld b 4 1, respMode := fld b 5 1, logAnnounce := fldS b 6 1, logSync := fldS b 7 1, logDelay := fldS b 8 1, timeout := fld b 9 1, asym := fldS b 12 4, state := 0 } ∧
      fld b 0 1 ≤ 1 ∧ fld b 1 1 ≤ 1 ∧ fld b 2 1 ≤ 1 ∧ (i.mech = 1 ∨ i.mech = 2) ∧ 1 ≤ i.transport ∧ i.transport ≤ 3 ∧ (i.respMode = 1 ∨ i.respMode = 2) ∧ 2 ≤ i.timeout ∧ i.timeout ≤ 10 ∧ i.asym.natAbs ≤ 1000000 ∧
      0 ≤ i.logAnnounce ∧ i.logAnnounce ≤ 4 ∧ -4 ≤ i.logSync ∧ i.logSync ≤ 1 ∧ -4 ≤ i.logDelay ∧ i.logDelay ≤ 5 ∧ bandwidthConflict s.time.bandwidth i = false ∧ (instAt s.time (fld b 0 1) (fld b 1 1)).state ≠ 2) ∧
    (∃ p s b, ∃ c : PpsCfg, Executes 0x0B05 p s ∧ p.payload = b ∧ c = { inMode := fld b 0 1, inEdge := fld b 1 1, cable := fld b 4 4, threshold := fld b 8 4, outEnable := fld b 12 1 == 1, outBase := fld b 13 1, polarity := fld b 14 1, width := fld b 16 2, offset := fldS b 20 4 } ∧
      c.inMode ≤ 1 ∧ c.inEdge ≤ 1 ∧ c.cable ≤ 1000000 ∧ 50 ≤ c.threshold ∧ c.threshold ≤ 1000000 ∧ fld b 12 1 ≤ 1 ∧ c.outBase ≤ 2 ∧ c.polarity ≤ 1 ∧ 1 ≤ c.width ∧ c.width ≤ 900 ∧ -500000000 ≤ c.offset ∧ c.offset ≤ 499999999) ∧
    Executes 0x0C01 (pk 0x0C01 (zeros 12)) live ∧ Executes 0x0C02 (pk 0x0C02) live ∧
    (∃ p s, Executes 0x0C03 p s ∧ s.rtc.disciplined = false) ∧ (∃ p s b, Executes 0x0C04 p s ∧ p.payload = b ∧ fld b 0 4 ≤ 22118400) :=
  ⟨⟨pk 0x0B01 (enc [(1, 0), (1, 1), (1, 1), (1, 1), (1, 1), (1, 2), (2, 5), (2, 1000), (2, 0), (4, 100), (8, 0)]), live, _, executes (by decide), rfl, by decide⟩, executes (by decide),
   ⟨pk 0x0B03 (enc [(4, 1)]), { live with time := { live.time with bases := [{ state := 3, domain := 0, preferred := 0 }, { domain := 1, preferred := 1 }] } }, _, executes (by decide), rfl, by decide⟩,
   ⟨pk 0x0B03 (enc [(4, 2)]), { live with time := { live.time with bases := [{ domain := 0, preferred := 0 }, { state := 3, domain := 1, preferred := 1 }] } }, _, executes (by decide), rfl, by decide⟩,
   ⟨pk 0x0B04 (enc [(1, 1), (1, 1), (1, 1), (1, 2), (1, 3), (1, 2), (1, 4), (1, 0xFC), (1, 5), (1, 10), (2, 0), (4, 1000000), (4, 0)]), live, _, _, executes (by decide), rfl, rfl, by decide⟩,
   ⟨pk 0x0B05 (enc [(1, 1), (1, 1), (2, 0), (4, 1000000), (4, 50), (1, 1), (1, 2), (1, 1), (1, 0), (2, 900), (2, 0), (4, 499999999)]), live, _, _, executes (by decide), rfl, rfl, by decide⟩,
   executes (by decide), executes (by decide), ⟨pk 0x0C03 (enc [(4, 0xFFFF)]), live, executes (by decide), by decide⟩, ⟨pk 0x0C04 (enc [(4, 22118400), (4, 1)]), live, _, executes (by decide), rfl, by decide⟩⟩

/-- A token (R377): purpose and counter, under slot 2; and a module that accepts tokens of that purpose. -/
def token (purpose counter : Nat) (r : List Byte) : List Byte := [0x54, 0x4B, BitVec.ofNat 8 purpose, 2, 0, 0, 0, 0] ++ (le 8 Config.unitSerial.toNat ++ (le 8 counter ++ r))
def tokened (s : State) (usage : Nat) : State := { s with vault := { slots := factorySlots.set 2 { attr := usage, key := [1], fills := 1 } } }

/-- Where the signature verifies (the function is the part's, log entry 2), a token with the module's serial and a counter not used before passes. -/
theorem token_passes (purpose m counter usage : Nat) (r : List Byte) (s : State) (hp : purpose = 1 ∨ purpose = 2 ∨ purpose = 3) (hc : 0 < counter) (hc2 : counter < 2 ^ 64)
    (hv : s.vault.slots = factorySlots.set 2 { attr := usage, key := [1], fills := 1 }) (ht : s.vault.tokens = [0, 0, 0]) (hu : attrUsage usage = purposeUsage purpose)
    (h : Config.ecdsaVerify [1] (digestBytes (Config.sha256 ((token purpose counter r).take 32))) (((token purpose counter r).drop 32).take 64) = true) :
    ∃ t, checkToken purpose m (token purpose counter r) s = (t, none) ∧ t.gbk = s.gbk := by
  have hs : slotAt s 2 = { attr := usage, key := [1], fills := 1 } := by simp [slotAt, hv, factorySlots]
  have f3 : fld (token purpose counter r) 3 1 = 2 := rfl
  have f8 : fld (token purpose counter r) 8 8 = Config.unitSerial.toNat := fld_le 8 [0x54, 0x4B, BitVec.ofNat 8 purpose, 2, 0, 0, 0, 0] _ _ (by exact Config.unitSerial.isLt)
  have f16 : fld (token purpose counter r) 16 8 = counter := by
    have := fld_le 8 ([0x54, 0x4B, BitVec.ofNat 8 purpose, 2, 0, 0, 0, 0] ++ le 8 Config.unitSerial.toNat) r counter (by exact hc2)
    simpa [token, le] using this
  have f0 : fld (token purpose counter r) 0 1 = 0x54 ∧ fld (token purpose counter r) 1 1 = 0x4B := ⟨rfl, rfl⟩
  have f2 : fld (token purpose counter r) 2 1 = purpose := by rcases hp with rfl | rfl | rfl <;> rfl
  have hn : tokenFailure s purpose (token purpose counter r) = 0 := by
    unfold tokenFailure
    simp only [f0, f2, f3, f8, f16, hs, hu, h, ht]
    rcases hp with rfl | rfl | rfl <;> simp <;> omega
  unfold checkToken
  simp only [f3, hs, hn]
  exact ⟨_, rfl, rfl⟩

theorem test_meets_StoreAndKeyCommandsComplete :
    (∃ p, Executes 0x0D01 p live) ∧ (∃ p b, Executes 0x0D02 p live ∧ p.payload = b ∧ fld b 0 1 ≤ 127 ∧ 1 ≤ fld b 1 1 ∧ fld b 1 1 ≤ 128) ∧
    (∃ p b, Executes 0x0D03 p live ∧ p.payload = b ∧ 600 ≤ fld b 0 4 ∧ fld b 0 4 ≤ 86400 ∧ 4 ≤ fld b 4 2 ∧ fld b 4 2 ≤ 1024) ∧
    (∃ p s b x, Executes 0x0D04 p s ∧ p.payload = b ∧ fld b 0 1 ≤ 127 ∧ s.store.regions[fld b 0 1]? = some x ∧ fld b 1 1 = 1 ∧ masterOf s p.path = 2 ∧ x.state = 3 ∧ s.store.tests.all (fun t => t.1 != fld b 0 1) = true) ∧
    (∃ p s b x, Executes 0x0D04 p s ∧ p.payload = b ∧ fld b 0 1 ≤ 127 ∧ s.store.regions[fld b 0 1]? = some x ∧ fld b 1 1 = 0 ∧ x.state ≠ 3 ∧ x.state ≠ 2 ∧ s.store.queue.all (fun q => q.1 != fld b 0 1) = true ∧
      (findRegion s (fun x => x.state == 4 || (x.state == 0 && x.area == 3))).isSome = true) ∧
    (∃ p b k, Executes 0x0E01 p live ∧ p.payload = b ∧ fld b 0 1 = k ∧ 2 ≤ k ∧ k ≤ 63 ∧ slotFree live (slotAt live k) = true) ∧
    (∃ p b k attr key, Executes 0x0E02 p live ∧ p.payload = b ∧ fld b 0 1 = k ∧ fld b 4 4 = attr ∧ k ≤ 63 ∧ fld b 1 1 = 0 ∧ attr < 2 ^ 16 ∧ bits attr 12 3 = 0 ∧ importUsageOk (attrUsage attr) (attrAlg attr) = true ∧
      b.length = 8 + keyLen (attrAlg attr) ∧ live.mode.lifecycle = 1 ∧ masterOf live p.path = 2 ∧ slotFree live (slotAt live k) = true ∧
      importedKey (vaultServed (takeTag p live)) 0 (fld b 2 1) (attrAlg attr) attr k b = .ok key) ∧
    (∃ p b k, Executes 0x0E03 p live ∧ p.payload = b ∧ fld b 0 1 = k ∧ k ≤ 63) ∧
    (∃ p b k, Executes 0x0E04 p live ∧ p.payload = b ∧ fld b 0 1 = k ∧ 1 ≤ k ∧ k ≤ 63 ∧ (attrLock (slotAt live k).attr = true → live.mode.lifecycle = 1) ∧ ((slotAt live k).attr ≠ 0 ∨ (slotAt live k).bad = true) ∧ slotNamed live k = false) ∧
    (∃ p b k, Executes 0x0E05 p live ∧ p.payload = b ∧ fld b 0 1 = k ∧ k ≤ 63 ∧ (slotAt live 0).bad = false) ∧
    (∃ p b, Executes 0x0E06 p live ∧ p.payload = b ∧ fld b 0 1 = 2 ∧ (live.mode.lifecycle = 1 ∨ live.mode.lifecycle = 3)) ∧
    (∃ p b, Executes 0x0E06 p live ∧ p.payload = b ∧ fld b 0 1 = 4) :=
  ⟨⟨pk 0x0D01 (enc [(8, 0x1F)]), executes (by decide)⟩, ⟨pk 0x0D02 (enc [(1, 127), (7, 128)]), _, executes (by decide), rfl, by decide⟩, ⟨pk 0x0D03 (enc [(4, 86400), (4, 4)]), _, executes (by decide), rfl, by decide⟩,
   ⟨pk 0x0D04 (enc [(1, 127), (7, 1)]), { live with store := { live.store with regions := live.store.regions.set 127 { state := 3, area := 4 } } }, _, { state := 3, area := 4 }, executes (by decide), rfl, by decide⟩,
   ⟨pk 0x0D04 (enc [(1, 127), (7, 0)]), live, _, { state := 4, area := 4 }, executes (by decide), rfl, by decide⟩,
   ⟨pk 0x0E01 (enc [(1, 63), (7, 1)]), _, 63, executes (by decide), rfl, by decide⟩,
   ⟨pk 0x0E02 (enc [(1, 63), (3, 0), (4, 0x0102), (16, 7)]), _, 63, 0x0102, _, executes (by decide), rfl, by decide, by decide, by decide, by decide, by decide, by decide, by decide, by decide, by decide, by decide, by decide, rfl⟩,
   ⟨pk 0x0E03 (enc [(8, 63)]), _, 63, executes (by decide), rfl, by decide⟩, ⟨pk 0x0E04 (enc [(8, 1)]), _, 1, executes (by decide), rfl, by decide⟩, ⟨pk 0x0E05 (enc [(1, 63), (39, 0)]), _, 63, executes (by decide), rfl, by decide⟩,
   ⟨pk 0x0E06 (enc [(8, 2)]), _, executes (by decide), rfl, by decide⟩, ⟨pk 0x0E06 (enc [(8, 4)]), _, executes (by decide), rfl, by decide⟩⟩

def fielded : State := { tokened live 0x40 with mode := { ready := true, lifecycle := 2 } }
def recorded : State := { tokened live 0x10 with gbk := { next := 4098, stored := [{ seq := 4097, kind := 1 }] } }

/-- The clauses that take a token: where its signature verifies, the rest is met. -/
theorem test_meets_the_token_clauses
    (h : ∀ purpose n r, Config.ecdsaVerify [1] (digestBytes (Config.sha256 ((token purpose n r).take 32))) (((token purpose n r).drop 32).take 64) = true) :
    (∃ p s b t, Executes 0x0E06 p s ∧ p.payload = b ∧ fld b 0 1 = 3 ∧ s.mode.lifecycle = 2 ∧ checkToken 2 (masterOf s p.path) (b.drop 8) (vaultServed (takeTag p s)) = (t, none)) ∧
    (∃ p s b t, Executes 0x0E07 p s ∧ p.payload = b ∧ s.mode.lifecycle = 2 ∧ s.vault.unlocked = false ∧ checkToken 1 (masterOf s p.path) b (vaultServed (takeTag p s)) = (t, none)) ∧
    (∃ p s b t, Executes 0x0F02 p s ∧ p.payload = b ∧ s.gbk.freeze = false ∧ s.gbk.erasing = none ∧ checkToken 3 (masterOf s p.path) b (vaultServed (takeTag p s)) = (t, none) ∧ 4097 ≤ fld b 24 8 ∧ fld b 24 8 ≤ t.gbk.newestSeq) := by
  obtain ⟨t, ht, -⟩ := token_passes 2 (masterOf fielded (pk 0x0E06 (enc [(8, 3)] ++ token 2 1 (zeros 72))).path) 1 0x40 (zeros 72) (vaultServed (takeTag (pk 0x0E06 (enc [(8, 3)] ++ token 2 1 (zeros 72))) fielded)) (by decide) (by decide) (by decide) rfl rfl rfl (h _ _ _)
  obtain ⟨u, hu, -⟩ := token_passes 1 (masterOf fielded (pk 0x0E07 (token 1 1 (zeros 72))).path) 1 0x40 (zeros 72) (vaultServed (takeTag (pk 0x0E07 (token 1 1 (zeros 72))) fielded)) (by decide) (by decide) (by decide) rfl rfl rfl (h _ _ _)
  obtain ⟨v, hv, hg⟩ := token_passes 3 (masterOf recorded (pk 0x0F02 (token 3 1 (le 8 4097 ++ zeros 64))).path) 1 0x10 (le 8 4097 ++ zeros 64) (vaultServed (takeTag (pk 0x0F02 (token 3 1 (le 8 4097 ++ zeros 64))) recorded)) (by decide) (by decide) (by decide) rfl rfl rfl (h _ _ _)
  exact ⟨⟨pk 0x0E06 (enc [(8, 3)] ++ token 2 1 (zeros 72)), fielded, _, t, executes (by decide), rfl, rfl, rfl, ht⟩, ⟨pk 0x0E07 (token 1 1 (zeros 72)), fielded, _, u, executes (by decide), rfl, rfl, rfl, hu⟩, ⟨pk 0x0F02 (token 3 1 (le 8 4097 ++ zeros 64)), recorded, _, v, executes (by decide), rfl, rfl, rfl, hv, by decide, by rw [hg]; decide⟩⟩

def twinned (role : Nat) : State := { live with mode := { ready := true, role := roleShown role }, twin := { role, cfg := { enable := true }, linkUp := true } }
def peer (role : Nat) : PeerInfo := { role }
/-- Firmware slots: their states. -/
def fws (a b : Nat) (f : Firmware := {}) : State := { live with firmware := { f with slots := [{ state := a }, { state := b }], running := some 0 } }

theorem test_meets_GuestbookAndTwinCommandsComplete :
    (∃ p s b, Executes 0x0F01 p s ∧ p.payload = b ∧ 1 ≤ fld b 4 1 ∧ fld b 4 1 ≤ 63 ∧ fld b 0 4 ≤ s.gbk.newestSeq) ∧ Executes 0x0F03 (pk 0x0F03) live ∧
    (∃ p s b c, Executes 0x1001 p s ∧ p.payload = b ∧ parseTwinCfg b = c ∧ fld b 0 1 ≤ 1 ∧ fld b 1 1 ≤ 1 ∧ c.key ≤ 63 ∧ 1024 ≤ c.udp ∧ keyStatus s.vault.slots c.key 5 = none ∧
      (s.twin.cfg.enable = true → c.enable = false → s.twin.role ≤ 1) ∧ (c.key = s.twin.cfg.key ∧ c.eui = s.twin.cfg.eui ∨ s.twin.role = 0)) ∧
    Executes 0x1002 (pk 0x1002) live ∧
    (∃ p s b x, Executes 0x1003 p s ∧ p.payload = b ∧ fld b 0 1 = 0 ∧ s.twin.role = 1 ∧ s.twin.peer = some x ∧ x.role = 4 ∧ (s.twin.heardTw || s.twin.heardUdp || s.twin.gotTw || s.twin.gotUdp) = true ∧ s.twin.handover = none) ∧
    (∃ p s b, Executes 0x1003 p s ∧ p.payload = b ∧ fld b 0 1 = 1 ∧ (s.twin.role = 3 ∨ s.twin.role = 4)) ∧ Executes 0x1004 (pk 0x1004) live :=
  ⟨⟨pk 0x0F01 (enc [(4, 1), (1, 63), (3, 0)]), { live with gbk := { next := 2, stored := [{ seq := 1, kind := 1 }] } }, _, executes (by decide), rfl, by decide⟩, executes (by decide),
   ⟨pk 0x1001 (enc [(1, 1), (1, 1), (2, 63), (4, 1024), (56, 0)]), { live with vault := { slots := factorySlots.set 63 { attr := 0x20 } } }, _, _, executes (by decide), rfl, rfl, by decide⟩, executes (by decide),
   ⟨pk 0x1003 (enc [(8, 0)]), { live with mode := { ready := true, role := 1 }, twin := { role := 1, peer := some (peer 4), heardUdp := true } }, _, peer 4, executes (by decide), rfl, by decide⟩,
   ⟨pk 0x1003 (enc [(8, 1)]), twinned 4, _, executes (by decide), rfl, by decide⟩, executes (by decide)⟩

theorem test_meets_ServiceCommandsComplete :
    (∃ p s b, Executes 0x1101 p s ∧ p.payload = b ∧ slotIn s 3 = none ∧ s.firmware.session = 0 ∧ fld b 0 1 = 0 ∧ 512 ≤ fld b 4 4 ∧ fld b 4 4 ≤ 29360128) ∧
    (∃ p s b k, Executes 0x1101 p s ∧ p.payload = b ∧ slotIn s 3 = none ∧ s.firmware.session = 0 ∧ fld b 0 1 = 1 ∧ slotIn s 5 = some k ∧ s.firmware.epoch ≤ (fwSlot s k).epoch) ∧
    (∃ p s b, Executes 0x1101 p s ∧ p.payload = b ∧ slotIn s 3 = none ∧ s.firmware.session = 0 ∧ fld b 0 1 = 2 ∧ (fld b 8 1 = 0 ∨ (8 ≤ fld b 8 1 ∧ fld b 8 1 ≤ 30))) ∧
    (∃ p s b, Executes 0x1102 p s ∧ p.payload = b ∧ fld b 4 4 = (Config.crc32c (b.drop 8)).toNat ∧ s.firmware.session = 2 ∧ fld b 0 4 = (fwSlot s s.firmware.slot).bytes.length ∧
      (fwSlot s s.firmware.slot).bytes.length + (b.drop 8).length ≤ s.firmware.total ∧ 0 < (b.drop 8).length) ∧
    (∃ p s, Executes 0x1103 p s ∧ s.firmware.session = 2) ∧ Executes 0x1104 (pk 0x1104) live ∧
    (∃ p s, Executes 0x1105 p s ∧ s.firmware.session = 2 ∧ s.firmware.packet = none) ∧ (∃ p s, Executes 0x1105 p s ∧ s.firmware.session = 3 ∧ s.firmware.abort = none) ∧
    (∃ p s k, Executes 0x1105 p s ∧ s.firmware.session = 0 ∧ slotIn s 2 = some k) ∧ Executes 0x1106 (pk 0x1106) live ∧
    (∃ p b, Executes 0x1201 p live ∧ p.payload = b ∧ fld b 0 1 ≤ 31 ∧ fld b 2 2 ≤ 0x1FF) ∧ (∃ p, Executes 0x1202 p live) ∧
    (∃ p b, Executes 0x1203 p live ∧ p.payload = b ∧ muxFree live = true ∧ (fld b 0 4 = 0 ∨ (60 ≤ fld b 0 4 ∧ fld b 0 4 ≤ 86400))) ∧
    (∃ p s b, Executes 0x1203 p s ∧ p.payload = b ∧ muxFree s = false ∧ debugOpen s = true ∧ 60 ≤ fld b 0 4 ∧ fld b 0 4 ≤ 86400) ∧ (∃ p, Executes 0x1301 p live) ∧
    (∃ p b, Executes 0x1302 p live ∧ p.payload = b ∧ 600 ≤ fld b 0 2 ∧ fld b 0 2 ≤ 1200 ∧ 2 ≤ fld b 2 1 ∧ fld b 2 1 ≤ 10) ∧ Executes 0x1303 (pk 0x1303) live := by
  refine ⟨⟨pk 0x1101 (enc [(4, 0), (4, 29360128), (8, 0)]), fws 4 0, _, executes (by decide), rfl, by decide⟩, ⟨pk 0x1101 (enc [(16, 1)]), fws 4 5, _, 1, executes (by decide), rfl, by decide⟩,
    ⟨pk 0x1101 (enc [(8, 2), (8, 30)]), fws 4 5, _, executes (by decide), rfl, by decide⟩,
    ⟨pk 0x1102 (enc [(4, 0)] ++ (le 4 (Config.crc32c [7]).toNat ++ [7])), fws 4 1 { session := 2, slot := 1, total := 512 }, _, executes (by decide), rfl, ?_, by decide⟩,
    ⟨pk 0x1103, fws 4 1 { session := 2, slot := 1, total := 512 }, executes (by decide), by decide⟩, executes (by decide),
    ⟨pk 0x1105, fws 4 1 { session := 2, slot := 1 }, executes (by decide), by decide⟩, ⟨pk 0x1105, fws 4 1 { session := 3, slot := 1 }, executes (by decide), by decide⟩,
    ⟨pk 0x1105, fws 4 2, 1, executes (by decide), by decide⟩, executes (by decide), ⟨pk 0x1201 (enc [(2, 31), (2, 0x1FF), (4, 3)]), _, executes (by decide), rfl, by decide⟩, ⟨pk 0x1202 (enc [(8, 1)]), executes (by decide)⟩,
    ⟨pk 0x1203 (enc [(8, 0)]), _, executes (by decide), rfl, by decide⟩,
    ⟨pk 0x1203 (enc [(8, 86400)]), { live with mode := { ready := true, lifecycle := 2 }, vault := { unlocked := true } }, _, executes (by decide), rfl, by decide⟩,
    ⟨pk 0x1301 (enc [(8, 1)]), executes (by decide)⟩, ⟨pk 0x1302 (enc [(2, 1200), (6, 2)]), _, executes (by decide), rfl, by decide⟩, executes (by decide)⟩
  exact fld_le 4 (enc [(4, 0)]) [7] _ (Config.crc32c [7]).isLt

/-- A module whose ring 0 is as given; with SPI in place of PCI Express; and with a datagram key in slot 2. -/
def ringed (x : Ring) (s : State := live) : State := { s with host := { s.host with rings := s.host.rings.set 0 x } }
def spi (s : State := live) : State := { s with host := { s.host with hostsel := true } }
def boxed (b : Mailbox) (s : State := live) : State := { s with host := { s.host with mailboxes := s.host.mailboxes.set 15 b } }
def ringReply (final : Bool) : Reply := { path := .ring 0 0 0 0 0, final, tag := 3 }

theorem test_meets_WindowAccessesComplete :
    live.boot.stage ≠ 0 ∧ (∃ off size, goodAccess live off size = true ∧ inAperture off = false) ∧
    (∃ off size, goodAccess live off size = true ∧ inAperture off = true ∧ mbxOpen live live.host.mbxWin = true ∧ off < 0x1500 ∧ (mbxOf live live.host.mbxWin).post = false) ∧
    (∃ off size, goodAccess live off size = true ∧ inAperture off = true ∧ mbxOpen live live.host.mbxWin = true ∧ 0x1500 ≤ off) ∧
    (∃ k h, ∃ s : State, k < 16 ∧ s.cnt.valShadow = some (k, h) ∧ s.boot.stage ≠ 0) ∧ (spi.host.hostsel = true ∧ spi.boot.stage ≠ 0) :=
  ⟨by decide, ⟨0xFFFC, 4, by decide⟩, ⟨0x14FF, 1, by decide⟩, ⟨0x15FE, 2, by decide⟩, ⟨15, 7, { live with cnt := { valShadow := some (15, 7) } }, by decide⟩, by decide⟩

theorem test_meets_RingEventsComplete :
    (pcie live = true ∧ ringActive live 3 = false) ∧ (∃ s x, ringOf s 0 = x ∧ pcie s = true ∧ ringActive s 0 = true ∧ x.enable = true) ∧
    (∃ up speed, live.host.linkUp ≠ up ∨ live.host.speed ≠ (if up then (if speed = 2 then 2 else 1) else 0)) ∧
    (∃ s v x, pcie s = true ∧ ringOf s 0 = x ∧ v % 64 ≠ x.cmdHead) ∧ (∃ s v x, pcie s = true ∧ ringOf s 0 = x ∧ v % 64 = x.cmdHead) ∧
    (∃ s x d, ∃ b : List Byte, ∃ t p, pcie s = true ∧ ringOf s 0 = x ∧ s.mode.ready = true ∧ x.enable = true ∧ x.cmdHead ≠ x.cmdTail ∧ intakeFull s 0 = false ∧ descGood d = true ∧
      p = parsePacket (.ring 0 x.cmdHead (fld d 24 8) (fld d 8 8) (fld d 18 2)) (b.take (fld d 16 2)) ∧ t = count 0x060 (modRing 0 (fun y => { y with cmdHead := (x.cmdHead + 1) % 64 }) s) ∧ intakeCheck t p = none) ∧
    (∃ s x a rest, pcie s = true ∧ ringOf s 0 = x ∧ popReply (onRing 0) s.paths.outgoing = some (a, rest) ∧ (x.cmpTail + 1) % 128 ≠ x.cmpHead ∧ a.final = false) ∧
    (∃ s x a rest, pcie s = true ∧ ringOf s 0 = x ∧ popReply (onRing 0) s.paths.outgoing = some (a, rest) ∧ (x.cmpTail + 1) % 128 ≠ x.cmpHead ∧ a.final = true ∧ a.refused = false) ∧
    (∃ s x, pcie s = true ∧ ringOf s 0 = x ∧ x.held = 0) ∧ (∃ s x, pcie s = true ∧ ringOf s 0 = x ∧ x.irqEn = true ∧ x.modUs ≠ 0 ∧ x.unsignalled ≠ 0) ∧
    (∃ s p tag f, pcie s = true ∧ (∃ k slot c a n, p = Path.ring k slot c a n) ∧ s.paths.flights.find? (fun f => sameLane f.path p && f.tag == tag && !f.answered) = some f ∧ s.clerk.intake ++ s.paths.remoteQueue = []) :=
  ⟨by decide, ⟨ringed { enable := true }, _, rfl, by decide⟩, ⟨true, 2, by decide⟩, ⟨ringed { cmdHead := 63 }, 64, _, by decide, rfl, by decide⟩, ⟨ringed { cmdHead := 63 }, 127, _, by decide, rfl, by decide⟩,
   ⟨ringed { enable := true, cmdHead := 63, cmdTail := 0 }, _, enc [(8, 8), (8, 16), (2, 16), (2, 16), (4, 0), (8, 1)], enc [(1, 3), (1, 0), (2, 1), (1, 63), (1, 0), (2, 0), (4, 0xF0000000), (4, 1)], _, _,
     by decide, rfl, by decide, by decide, by decide, by decide, by decide, rfl, rfl, by decide⟩,
   ⟨ringed {} { live with paths := { outgoing := [ringReply false] } }, _, ringReply false, [], by decide, rfl, by decide⟩, ⟨ringed { cmpTail := 127, cmpHead := 1 } { live with paths := { outgoing := [ringReply true] } }, _, ringReply true, [], by decide, rfl, by decide⟩,
   ⟨live, _, by decide, rfl, by decide⟩, ⟨ringed { irqEn := true, modUs := 1, unsignalled := 1 }, _, by decide, rfl, by decide⟩,
   ⟨{ live with paths := { flights := [{ path := host, tag := 63 }] } }, host, 63, { path := host, tag := 63 }, by decide, ⟨0, 0, 0, 0, 0, rfl⟩, by decide⟩⟩

theorem test_meets_MailboxEventsComplete :
    (∃ s b, s.boot.stage ≠ 0 ∧ mbxOf s 15 = b ∧ mbxOpen s 15 = true ∧ b.post = false ∧ bit 1 1 = false ∧ bit 2 0 = false) ∧
    (∃ s b p, s.boot.stage ≠ 0 ∧ mbxOf s 15 = b ∧ b.post = true ∧ s.mode.ready = true ∧ b.iMore = false ∧ 1 ≤ b.iLen ∧ b.iLen ≤ 256 ∧ b.iSeg = b.nextSeg ∧ p = parsePacket (.mailbox 15) (b.partial_ ++ b.inBuf.take b.iLen) ∧
      packetCode s 15 p = none ∧ intakeCheck s p = none) ∧
    (∃ s b, mbxOf s 15 = b ∧ b.post = true ∧ s.mode.ready = true ∧ b.iMore = true ∧ b.iLen = 256 ∧ b.iSeg = b.nextSeg ∧ b.iSeg < 15) ∧
    (∃ s b r rest, mbxOf s 15 = b ∧ b.oFull = false ∧ b.outTag = none ∧ popReply (fun p => p == .mailbox 15) s.paths.outgoing = some (r, rest)) ∧ (∃ s b tag, mbxOf s 15 = b ∧ b.oFull = false ∧ b.outTag = some tag) ∧
    (∃ s b v, mbxOf s 15 = b ∧ mbxOpen s 15 = true ∧ b.oFull = true ∧ bits v 8 8 = b.oSeq ∧ bits v 0 8 = 0 ∧ b.outRest ≠ []) ∧
    (∃ s b v tag, mbxOf s 15 = b ∧ mbxOpen s 15 = true ∧ b.oFull = true ∧ bits v 8 8 = b.oSeq ∧ bits v 0 8 = 0 ∧ b.outRest = [] ∧ b.outTag = some tag) :=
  ⟨⟨live, _, by decide, rfl, by decide⟩,
   ⟨boxed { post := true, iLen := 16, masterB := 5, inBuf := enc [(1, 3), (1, 0), (2, 1), (1, 63), (1, 0), (2, 0), (4, 0xF0000000), (4, 1)] ++ zeros 240 }, _, _, by decide, rfl, by decide, by decide, by decide, by decide, by decide, by decide, rfl, by decide, by decide⟩,
   ⟨boxed { post := true, iMore := true, iLen := 256, iSeg := 14, nextSeg := 14 }, _, rfl, by decide⟩, ⟨boxed {} { live with paths := { outgoing := [{ path := .mailbox 15 }] } }, _, { path := .mailbox 15 }, [], rfl, by decide⟩,
   ⟨boxed { outTag := some 63 }, _, 63, rfl, by decide⟩, ⟨boxed { oFull := true, oSeq := 255, outRest := [1] }, _, 0xFF00, rfl, by decide⟩, ⟨boxed { oFull := true, oSeq := 255, outTag := some 63 }, _, 0xFF00, 63, rfl, by decide⟩⟩

def datagram : List Byte := enc [(1, 0x47), (1, 0x43), (1, 2), (5, 0), (8, 1), (1, 3), (1, 0), (2, 1), (1, 0), (1, 0), (2, 0), (4, 0xF0000000), (4, 1)]
def keyed : State := { tokened live 2 with bhLink := [0, 2] }
def waits (cls index : Nat) (body : Body) (s : State := live) : State := { s with clerk := { s.clerk with intake := [{ cls, index, kind := 1, body }] } }

theorem test_meets_PathEventsComplete :
    (∃ s port b k w, port ≤ 1 ∧ bit s.paths.portsEnabled port = true ∧ linkUp s port = true ∧ s.mode.coppice = false ∧ 40 ≤ b.length ∧ b.length ≤ 4120 ∧ fld b 0 1 = 0x47 ∧ fld b 1 1 = 0x43 ∧ b.length = fld b 22 2 + 40 ∧
      remoteKey s (fld b 2 1) = some k ∧ (Config.cmac k.key (b.take (b.length - 8))).toNat = fld b (b.length - 8) 8 ∧ fld b 8 8 ≠ 0 ∧
      (s.paths.windows.find? (fun w => w.slot == fld b 2 1)).getD { slot := fld b 2 1 } = w ∧ counterFresh w (fld b 8 8) = true) ∧
    (live.paths.serviceOpen = false ∧ taking live = true) ∧
    (∃ s b p, s.paths.serviceOpen = true ∧ taking s = true ∧ intakeFull s 2 = false ∧ p = parsePacket (.service s.paths.serviceConn) b ∧ intakeCheck s p = none) ∧
    (∃ cls index offset s w rest b, 2 ≤ cls ∧ offset ≤ s.clerk.offset ∧ s.mode.role ≠ 2 ∧ taking s = true ∧ popWaiting cls index s.clerk.intake = some (w, rest) ∧ w.body = .raw b ∧ w.held = 0 ∧ quotaSpent s (entryOf s w) = false) ∧
    (∃ index offset s w rest p i, index ≠ 3 ∧ offset ≤ s.clerk.offset ∧ taking s = true ∧ popWaiting 1 index s.clerk.intake = some (w, rest) ∧ w.body = .command p ∧ opInfo p.opcode = some i ∧ i.w = false) :=
  ⟨⟨keyed, 1, datagram ++ (le 8 (Config.cmac [1] datagram).toNat ++ []), _, _, by decide, by decide, by decide, by decide, by decide, by decide, by decide, by decide, by decide, rfl,
     (fld_le 8 datagram [] _ (Config.cmac [1] datagram).isLt).symm, by decide, rfl, by decide⟩, by decide,
   ⟨{ live with paths := { serviceOpen := true, serviceConn := 1 } }, enc [(1, 3), (1, 0), (2, 1), (1, 63), (1, 0), (2, 0), (4, 0xF0000000), (4, 1)], _, by decide, by decide, by decide, rfl, by decide⟩,
   ⟨2, 3, 0, waits 2 3 (.raw [1]), _, [], [1], by decide, by decide, by decide, by decide, rfl, by decide⟩, ⟨2, 0, waits 1 2 (.command (pk 1)), _, [], pk 1, _, by decide, by decide, by decide, rfl, rfl, rfl, by decide⟩⟩

def store (f : Store) (s : State := live) : State := { s with store := f }

theorem test_meets_TickEventsComplete :
    (live.clerk.running = true ∧ live.mode.role ≠ 2 ∧ live.twin.handover = none) ∧ ((twinned 4).clerk.running = true ∧ (twinned 4).mode.role = 2) ∧
    (∃ s : State, ∃ r o, s.computed.getLast? = some (r, o) ∧ r.issued = false) ∧ (∃ s : State, ∃ r o rest, s.computed = (r, o) :: rest ∧ rest ≠ []) ∧
    (∃ s : State, ∃ h c cause, chanOf s.ord h = some c ∧ c.state ≠ .faulted ∧ 2 ≤ cause ∧ cause ≤ 4) ∧
    (∃ s : State, ∃ h c cfg r, chanOf s.ord h = some c ∧ streamOf s.ord h = some cfg ∧ s.streams.find? (fun r => r.slot == hSlot h) = some r ∧ c.state = .running ∧ cfg.master = 3 ∧ r.waiting ≠ [] ∧ r.lastSent < r.ack + r.window) ∧
    (∃ s : State, ∃ h c cfg r n m, chanOf s.ord h = some c ∧ streamOf s.ord h = some cfg ∧ s.streams.find? (fun r => r.slot == hSlot h) = some r ∧ c.state = .running ∧ cfg.master = 3 ∧ r.unacked.find? (fun m => m.num == n) = some m) ∧
    (∃ s : State, ∃ w, s.clerk.replay.state = 1 ∧ s.clerk.ring.find? (fun w => w.tick == s.clerk.replay.next) = some w ∧ s.store.badWaybills.any (fun x => x.1 == s.clerk.replay.next) = false) :=
  ⟨by decide, by decide, ⟨{ live with computed := [({ tick := 998 }, {})] }, _, _, rfl, by decide⟩, ⟨{ live with computed := [({ tick := 997 }, {}), ({ tick := 998 }, {})] }, _, _, _, rfl, by decide⟩,
   ⟨live [grp], hd 1, grp, 4, by decide⟩, ⟨{ live [strm 3] with streams := [{ slot := 5, ack := 2, lastSent := 2, waiting := [⟨4, 1, 0x0301, [1], 0, false, false, false⟩] }] }, hd 8, _, _, _, rfl, rfl, rfl, by decide⟩,
   ⟨{ live [strm 3] with streams := [{ slot := 5, unacked := [{ num := 3, payload := [] }] }] }, hd 8, _, _, _, 3, _, rfl, rfl, rfl, by decide, by decide, rfl⟩,
   ⟨{ live with clerk := { live.clerk with ring := [{ tick := 999 }], replay := { state := 1, next := 999 } } }, _, rfl, rfl, by decide⟩⟩

theorem test_meets_LodgingEventsComplete :
    (∃ s : State, ∃ h b c, s.inn.waiting.find? (fun b => b.handle == h) = some b ∧ s.inn.rebuilds.length < 4 ∧ s.clerk.running = true ∧ newestCkpt s = some c ∧ ringHolds s c.tick = true ∧ b.packet = none) ∧
    (∃ s : State, ∃ h b, s.inn.rebuilds.find? (fun b => b.handle == h) = some b ∧ b.since < s.clerk.tick ∧
      ringHolds { s with inn := { s.inn with rebuilds := s.inn.rebuilds.filter (fun x => x.handle != h) } } b.ckpt = true) ∧
    (∃ s : State, s.inn.review = true ∨ s.clerk.tick % 240 = 0) ∧ (live.inn.review = false ∧ live.clerk.tick % 240 ≠ 0) ∧
    (∃ s : State, ∃ slot l, s.inn.lodges.find? (fun l => l.slot == slot && l.moving.isSome) = some l) ∧ (∃ x, live.inn.stiles[47]? = some x ∧ x.losses < 3) ∧ (∃ s : State, ∃ x, s.inn.stiles[47]? = some x ∧ 3 ≤ x.losses) :=
  ⟨⟨{ ckpted [grp] with inn := { waiting := [{ handle := hd 1 }] } }, hd 1, _, _, rfl, by decide, by decide, rfl, by decide⟩,
   ⟨{ ckpted [grp] with inn := { rebuilds := [{ handle := hd 1, ckpt := 998, since := 999 }] } }, hd 1, _, rfl, by decide⟩, ⟨{ live with clerk := { tick := 960 } }, by decide⟩, by decide,
   ⟨{ live with inn := { lodges := [{ slot := 5, engine := 0, moving := some (1, 2) }] } }, 5, _, rfl⟩, ⟨{}, by decide⟩, ⟨{ live with inn := { stiles := List.replicate 48 { losses := 3 } } }, { losses := 3 }, by decide⟩⟩

def grouped (g : Group) (l : Lantern := {}) : State :=
  { live with ord := { channels := [chn 1 (.group g)], members := [(5, hd 1)], lanterns := [(5, l)] } }
def trav : Traveller := { num := 1, cls := 0, link := 1, chainage := 0, t0 := 0, known := true, vest := 1000, measured := false, hint := false, created := 1, hyps := [] }

theorem test_meets_PlanAndTimerEventsComplete :
    (∃ s : State, s.plan.state = 1) ∧ (∃ s : State, s.plan.state = 2 ∧ s.plan.switched = false) ∧
    (∃ s : State, ∃ h k g o, groupOf s.ord h = some g ∧ look k g.overrides = some o ∧ o.expiry ≤ s.clerk.tick) ∧
    (∃ s : State, ∃ n g, (look n s.ord.members).bind (groupOf s.ord) = some g ∧ g.refresh ≠ 0 ∧ (lanternOf s.ord n).record.isSome = true ∧ (lanternOf s.ord n).lastTick + 4 * g.refresh < s.clerk.tick) ∧
    (∃ s : State, ∃ h e t, escortOf s.ord h = some e ∧ e.travellers.find? (fun x => x.num == t.num) = some t ∧ ((e.horizon + e.cycle : Nat) : Int) * 1000 < effectInstant s.clerk.tick - t.t0) :=
  ⟨⟨{ live with plan := { live.plan with state := 1 } }, by decide⟩, ⟨{ live with plan := { live.plan with state := 2 } }, by decide⟩,
   ⟨grouped { overrides := [(7, ⟨false, 2, 0, 1000, 0, 8191, 1000, 1, 1⟩)] }, hd 1, 7, _, _, rfl, rfl, by decide⟩,
   ⟨grouped { refresh := 10 } { record := some ⟨0, 0, 0, 0, []⟩, lastTick := 959 }, 5, _, rfl, by decide⟩, ⟨live [chn 3 (.escort { travellers := [trav] })], hd 3, _, trav, rfl, by decide⟩⟩

/-- A LUMINAIRE channel's drive: luminaire 7, with one string of 250 kHz. -/
def lumCfg : Lum := { num := some 7, lead := 9, strings := [some ⟨250000, 65536, 50000, 0, 32768⟩, none, none] }
def lrun : LumRun := { handle := hd 5, cfg := lumCfg, num := 7, running := true }
def fslot (u : Int) : LoopSlot := { slot := 0, owner := hd 5, member := 0, law := 1, cls := 0, divider := 1, u }
def driven (d : Drive) : State := { live [chn 5 (.luminaire lumCfg)] with drive := { d with lums := [lrun] } }

theorem test_meets_DriveEventsComplete :
    driveGated (driven {}) = false ∧ (∃ s : State, ∃ k x, s.drive.slots.find? (fun x => x.slot == k) = some x ∧ x.release = some (0, none) ∧ x.queue = []) ∧
    (∃ s : State, ∃ lead start target code rest, s.drive.entries = (lead, start, target, code) :: rest ∧ s.clerk.tick < start) ∧
    (∃ s : State, driveGated s = false ∧ s.drive.lums = [] ∧ ∀ x ∈ s.drive.strs, x.due = false) ∧ (∃ s k l, lumRun s k = some l ∧ l.running = true ∧ l.fallback = false) ∧
    (∀ u ∈ [(1 : Int), 65536], ∃ s : State, ∃ i sub l x, s.drive.strs[i]? = some x ∧ lumRun s (i / 3) = some l ∧ l.running = true ∧ l.cfg.fitted (i % 3) = true ∧ x.cause = 0 ∧ subPeriodOn x.n (sub % 1024) = true ∧
      (match l.cfg.strings[i % 3]? with | some (some t) => t.fsw | _ => 0) = 250000 ∧ ((s.drive.slots.find? (fun y => y.owner == l.handle && y.member == i % 3)).map (·.u)).getD 0 = u) ∧
    (61 < 65536 * 1228800000 / (65536 * 250000) ∧ 1 * 1228800000 / (65536 * 250000) ≤ 61) ∧
    (∃ s : State, ∃ (i : Nat) (x : StrRun), s.drive.strs[i]? = some x ∧ x.trips < 15) ∧ (∃ s : State, ∃ (i : Nat) (x : StrRun), s.drive.strs[i]? = some x ∧ 15 ≤ x.trips) ∧ (∃ s : State, ∃ k ms rest, s.drive.inbound = (k, ms) :: rest) := by
  refine ⟨by decide, ⟨driven { slots := [{ fslot 1 with release := some (0, none) }] }, 0, _, rfl, by decide⟩, ⟨driven { entries := [(9, 1001, 1000, 47)] }, 9, 1001, 1000, 47, [], by decide⟩,
    ⟨{ driven {} with drive := {} }, by decide⟩, ⟨driven {}, 7, _, rfl, by decide⟩, ?_, by decide, ⟨driven { strs := List.replicate 24 { trips := 14 } }, 23, { trips := 14 }, by decide⟩,
    ⟨driven { strs := List.replicate 24 { trips := 15 } }, 23, { trips := 15 }, by decide⟩, ⟨driven { inbound := [(999, [])] }, 999, [], [], rfl⟩⟩
  intro u hu
  refine ⟨driven { slots := [fslot u], strs := List.replicate 24 { n := 1 } }, 21, 1023, lrun, { n := 1 }, rfl, rfl, by decide, by decide, by decide, by decide, rfl, ?_⟩
  rfl

theorem test_meets_StoreEventsComplete :
    live.store.offset + 8 < 262144 ∧
    (∃ s : State, ∃ r cause rest x k, s.store.running = none ∧ s.store.queue = (r, cause) :: rest ∧ s.store.regions[r]? = some x ∧ findRegion s (fun x => x.state == 4) = some k) ∧
    (∃ s : State, ∃ r k, s.store.running = some (r, k) ∧ s.inn.lodges.any (fun l => l.moving.any (fun m => m.1 == r)) = false) ∧ (∃ s : State, ∃ p r, s.store.tests.find? (fun t => t.1 == r) = some p) ∧
    (∃ s : State, s.store.limit < (s.uptime - s.store.lapStart) / 1000 ∧ s.store.overdue = false) ∧ live.vault.requests = [] ∧ (∃ s : State, ∃ k rest, s.vault.requests = .use k :: rest) :=
  ⟨by decide, ⟨store { queue := [(127, 1)], regions := initialRegions.set 127 { state := 1, area := 3 } }, 127, 1, [], { state := 1, area := 3 }, 120, by decide⟩, ⟨store { running := some (127, 120) }, 127, 120, by decide⟩,
   ⟨store { tests := [(127, pk 0x0D04)] }, (127, pk 0x0D04), 127, by decide⟩, ⟨{ live with uptime := 7201000 }, by decide⟩, by decide, ⟨{ live with vault := { requests := [.use 2] } }, 2, [], rfl⟩⟩

theorem test_meets_GuestbookEventsComplete :
    (∃ s : State, ∃ n last rest, s.gbk.held = false ∧ s.gbk.front = .repeats n last :: rest) ∧
    (∃ s : State, ∃ r rest, s.gbk.held = false ∧ s.gbk.front = .record r :: rest ∧ s.gbk.urgent = [] ∧ s.gbk.loss = none ∧ s.gbk.next < 4097) ∧ (∃ s : State, s.gbk.held = true) ∧ (∃ s : State, s.gbk.freeze = true) ∧
    (∃ s : State, ∃ v, s.gbk.stored.find? (fun (x : GbkRec) => x.seq == v % 2 ^ 32) = none) ∧ (∃ s : State, ∃ v r, s.gbk.stored.find? (fun (x : GbkRec) => x.seq == v % 2 ^ 32) = some r ∧ r.damage = 0) ∧
    live.gbk.autoInc = false ∧ (∃ s : State, s.gbk.autoInc = true) ∧ (∃ s : State, ∃ last counter m z p, s.gbk.erasing = some (last, counter, m, z, p) ∧ s.gbk.next ≠ 4097) :=
  ⟨⟨{ live with gbk := { front := [.repeats 2 1000] } }, 2, 1000, [], by decide⟩, ⟨{ live with gbk := { front := [.record { kind := 1 }], next := 4096 } }, { kind := 1 }, [], by decide⟩, ⟨{ live with gbk := { freeze := true } }, by decide⟩,
   ⟨{ live with gbk := { freeze := true } }, by decide⟩, ⟨live, 0xFFFFFFFF, by decide⟩, ⟨{ live with gbk := { stored := [{ seq := 1, kind := 1 }] } }, 1, { seq := 1, kind := 1 }, by decide⟩, by decide, ⟨{ live with gbk := { autoInc := true } }, by decide⟩,
   ⟨{ live with gbk := { next := 4099, erasing := some (4098, 1, 2, 0, pk 0x0F02) } }, 4098, 1, 2, 0, pk 0x0F02, by decide⟩⟩

def job1 (step : Nat) : State := { live with metro := { job := { state := 1, step } } }
theorem test_meets_MeteringEventsComplete :
    (live.metro.gated = false ∧ vanaUnder live = false ∧ ∀ k, k < 3 → (([] : List Bool)[k]?).getD false = false) ∧
    (∃ s : State, ∃ mean j, s.metro.job.state = 1 ∧ j = { s.metro.job with done := 1, v := 1, i := 1, angle := 0, freq := 50000 } ∧ j.step = 0 ∧ (calProposal j mean).natAbs ≤ 65536) ∧
    (∃ s : State, ∃ (k : Nat) (o : PulseOut), s.metro.outs[k]? = some o ∧ o.cfg.enable = true ∧ o.active = false ∧ o.backlog = 0 ∧ o.due ≠ []) ∧ (∃ s : State, ∃ (k : Nat) (o : PulseOut), s.metro.outs[k]? = some o ∧ o.cfg.enable = true ∧ o.active = false ∧ 0 < o.backlog ∧ o.due = []) ∧
    (∃ s : State, ∃ (k : Nat) (o : PulseOut), s.metro.outs[k]? = some o ∧ 0 < o.backlog ∧ o.aged = false) ∧ (∀ a ∈ [true, false], ∃ s : State, ∃ (k : Nat) (i : PulseIn), s.metro.ins[k]? = some i ∧ i.cfg.enable = true ∧ i.active = a ∧ i.cfg.width = 20) ∧
    (∃ s : State, ∃ k m, meterOf s.ord k = m ∧ k < 8 ∧ m.opened = true ∧ m.start < s.clerk.tick ∧ intervalBoundary s.ord m s.clerk.tick = true) ∧ (live.metro.gated = false ∧ metroIdle live = true) ∧ (∃ s : State, s.metro.gated = true) ∧
    (∃ s : State, ∃ k ms rest, s.metro.inbound = (k, ms) :: rest) ∧ live.gbk.saving = false ∧ (∃ s : State, s.gbk.saving = true ∧ s.metro.saving = false) := by
  refine ⟨⟨by decide, by decide, fun k _ => by simp⟩, ⟨job1 0, -65536, _, by decide, rfl, by decide⟩, ⟨{ live with metro := { outs := [{ cfg := { enable := true }, due := [7] }] } }, 0, _, rfl, by decide⟩,
    ⟨{ live with metro := { outs := [{ cfg := { enable := true }, backlog := 1 }] } }, 0, _, rfl, by decide⟩, ⟨{ live with metro := { outs := [{ backlog := 1 }] } }, 0, _, rfl, by decide⟩, ?_,
    ⟨{ live with clerk := { live.clerk with tick := 3620 }, ord := { metering := { meters := List.replicate 8 { opened := true } } } }, 7, _, rfl, by decide⟩, by decide,
    ⟨{ live with metro := { gated := true } }, by decide⟩, ⟨{ live with metro := { inbound := [(999, [])] } }, 999, [], [], rfl⟩, by decide, ⟨{ live with gbk := { saving := true } }, by decide⟩⟩
  intro a _
  exact ⟨{ live with metro := { ins := [{ cfg := { enable := true }, active := a }] } }, 0, _, rfl, rfl, rfl, rfl⟩

/-- A radio on the air with partner 3 assigned to it; its EUI-64 is 0. -/
def radio (q : Sequencer := {}) (s : State := planned (aired live) [3]) : State := { s with air := { s.air with radios := [q] ++ List.replicate 3 {} } }
def kinds (k : Nat) : State :=
  { radio with ord := { radio.ord with air := { radio.ord.air with radios := [{ cfg := some rcfg, plan := some ⟨1, List.replicate 60 k⟩ }] ++ List.replicate 3 {} } } }
def changing (now next : Bool) : State :=
  { radio with ord := { radio.ord with air := { radio.ord.air with radios := [{ cfg := some { rcfg with on := now }, nextCfg := some (1000, { rcfg with on := next }) }] ++ List.replicate 3 {} } } }

theorem test_meets_RadioEventsComplete :
    (0 ≤ 3 ∧ (cfgAt? radio.ord 0 radio.clerk.tick).isSome = true ∧ radio.clerk.running = true ∧ radio.clerk.long = false ∧ radio.mode.role ≠ 2 ∧ transmitting radio 0 = true ∧ radioState radio 0 = 1) ∧
    (slotKind (kinds 1).ord 0 1000 17 = 1 ∧ (occupant (kinds 1).ord 0 17 1000 0xFF).isNone = true) ∧ slotKind (kinds 2).ord 0 1000 3 = 2 ∧ slotKind (kinds 3).ord 0 1000 17 = 3 ∧
    (∃ s slot mini, ∃ f : AirFrame, (cfgAt? s.ord 0 s.clerk.tick).isSome = true ∧ radioState s 0 ≤ 1 ∧ s.mode.role ≠ 2 ∧ (seqOf s 0).awaitAck = none ∧ (seqOf s 0).windows.contains (slot, mini) = true ∧ f.fcs = true ∧ f.version = 2 ∧ f.type = 1 ∧
      f.pan = (cfgAt s.ord 0 s.clerk.tick).pan ∧ f.level = (cfgAt s.ord 0 s.clerk.tick).level ∧ (slot ≠ 18 → f.psdu ≤ maxPsdu (cfgAt s.ord 0 s.clerk.tick) (if mini ≤ 3 then 2 else 1)) ∧ f.mic = true ∧
      (partnerOfEui s.ord f.eui).isSome = true ∧ lookD f.eui 0 s.air.counters < f.counter ∧ rxFull s 0 = false) ∧
    (∃ s ref, ∃ f : AirFrame, ∃ x, (cfgAt? s.ord 0 s.clerk.tick).isSome = true ∧ radioState s 0 ≤ 1 ∧ s.mode.role ≠ 2 ∧ (seqOf s 0).awaitAck = some ref ∧ f.type = 2 ∧ f.fcs = true ∧ f.mic = true ∧ f.nack = false ∧ (seqOf s 0).down.find? (fun x => x.ref == ref) = some x) ∧
    (∃ s slot mini ref, (cfgAt? s.ord 0 s.clerk.tick).isSome = true ∧ (seqOf s 0).windows.contains (slot, mini) = false ∧ (seqOf s 0).awaitAck = some ref) ∧
    (∃ s ref f, (cfgAt? s.ord 0 s.clerk.tick).isSome = true ∧ (seqOf s 0).down.find? (fun f => f.ref == ref) = some f ∧ f.queued + 480 ≤ s.clerk.tick) ∧
    (∃ s t, (cfgAt? s.ord 0 s.clerk.tick).isSome = true ∧ (seqOf s 0).refusedAt = some t ∧ t + 240 ≤ s.clerk.tick) ∧
    (∀ on ∈ [true, false], ∃ s : State, ∃ c, (cfgAt? s.ord 0 s.clerk.tick).isSome = true ∧ (radioOrd s.ord 0).nextCfg = some (s.clerk.tick, c) ∧ ((radioOrd s.ord 0).cfg.map (·.on)).getD false = !on ∧ c.on = on) ∧ (seqOf radio 0).restarted = none := by
  refine ⟨by decide, by decide, by decide, by decide, ⟨radio { windows := [(18, 0xFF)] }, 18, 0xFF, { pan := 1, counter := 1 }, by decide⟩,
    ⟨radio { awaitAck := some 9, down := [{ ref := 9, partner := 3, payload := [] }] }, 9, { type := 2 }, { ref := 9, partner := 3, payload := [] }, by decide⟩, ⟨radio { awaitAck := some 9 }, 18, 0xFF, 9, by decide⟩,
    ⟨radio { down := [{ ref := 9, partner := 3, payload := [], queued := 520 }] }, 9, { ref := 9, partner := 3, payload := [], queued := 520 }, by decide⟩, ⟨radio { refusedAt := some 760 }, 760, by decide⟩, ?_, by decide⟩
  intro on h
  exact ⟨changing (!on) on, { rcfg with on := on }, rfl, rfl, rfl, rfl⟩

def asg : Assign := { index := 0, role := 1, radio := 0, slot := 3, mini := 0xFF, period := 4, phase := 0, start := 0 }
def sess (phase : Nat) (state : ChanState := .running) : State := live [chn 7 (.session { phase, start := 500, duration := 125 }) state]

theorem test_meets_PartnerEventsComplete :
    (∃ s : State, ∃ n a, (partnerAt s.ord n).assigns.find? (fun x => x.index == a.index) = some a ∧ 4 ≤ s.clerk.tick) ∧
    (∀ k ∈ [1, 2], ∃ s : State, ∃ h ch x, chanOf s.ord h = some ch ∧ sessionOf s.ord h = some x ∧ ch.state = .running ∧ x.phase = k ∧ x.start + 4 * x.duration ≤ s.clerk.tick) ∧
    (∃ s : State, ∃ h ch x, chanOf s.ord h = some ch ∧ sessionOf s.ord h = some x ∧ ch.state = .held ∧ x.phase = 2 ∧ x.start + 4 * x.duration ≤ s.clerk.tick) := by
  refine ⟨⟨{ live with ord := { air := { partners := [(3, { assigns := [asg] })] } } }, 3, asg, by decide⟩, ?_, ⟨sess 2 .held, hd 7, _, _, rfl, rfl, by decide⟩⟩
  intro k _
  exact ⟨sess k, hd 7, _, _, rfl, rfl, rfl, rfl, Nat.le_refl _⟩

def timed (t : TimeBases) : State := { live with time := t }
def bases (a b : Nat) (rates : List Int := []) : List Base := [{ state := a, domain := 0, preferred := 0, rates }, { state := b, domain := 1, preferred := 1, rates }]

theorem test_meets_TimeEventsComplete :
    (∃ port domain i, port ≤ 1 ∧ (baseAt live.time 0).domain = domain ∧ instAt live.time port 0 = i ∧ i.enable = true ∧ i.state ≠ 2 ∧ i.mech = 1) ∧ (∃ s : State, (instAt s.time 1 0).enable = true ∧ (instAt s.time 1 0).mech = 2) ∧
    ((baseAt live.time 0).domain ≠ 127 ∧ (baseAt live.time 1).domain ≠ 127) ∧ (∀ k ∈ [2, 3], ∃ s : State, (baseAt s.time 1).state = k ∧ (baseAt s.time 1).rates ≠ []) ∧
    (∃ s : State, (instAt s.time 1 1).state = 2 ∧ (instAt s.time 1 1).enable = true) ∧ (∀ k ∈ [2, 3], ∃ s t, t = tbmTable 0 (mismatchStep (if s.time.state = 0 then s else { s with time := { s.time with bases := advanceOffsets s.time.rate s.time.bases } })) ∧ t.time.state = k) ∧
    (∃ t, t = tbmTable 0 (mismatchStep (if live.time.state = 0 then live else { live with time := { live.time with bases := advanceOffsets live.time.rate live.time.bases } })) ∧ t.time.state ≠ 2 ∧ t.time.state ≠ 3) ∧
    (∀ ns ∈ [(0 : Int), -1], ∃ s : State, ∃ cause, s.time.pendingStep = some (ns, cause) ∧ s.clerk.running = true ∧ s.mode.role ≠ 2) ∧ (∃ s : State, ∃ dest cause, s.time.pendingSwitch = some (dest, cause) ∧ s.time.state ≠ 0 ∧ 2 ≤ s.time.state) ∧
    (∃ s : State, s.time.state = 3 ∧ s.time.utcValid = true ∧ (tblErrorUs s).natAbs ≤ 100000 ∧ s.rtc.oscStop = false) ∧ (∃ s : State, s.time.state = 2 ∧ s.time.utcSaved.isSome = true ∧ s.rtc.oscStop = true) ∧
    (∃ s : State, ∃ o : Int, s.time.pps.inMode = 1 ∧ o = 1000 - (s.time.pps.cable : Int) ∧ o.natAbs ≤ s.time.pps.threshold) ∧ (∃ s : State, ∃ o : Int, s.time.pps.inMode = 1 ∧ o = 1001 - (s.time.pps.cable : Int) ∧ s.time.pps.threshold < o.natAbs) ∧
    (∃ s : State, s.time.pps.inMode = 1 ∧ s.time.ppsOffset.isSome = true) ∧ (∃ s : State, ∃ sec, s.time.pps.outEnable = true ∧ ppsBaseRuns s.time = true ∧ s.time.ppsLabel ≠ sec) := by
  refine ⟨⟨1, _, _, by decide, rfl, rfl, by decide⟩, ⟨timed { insts := List.replicate 4 { mech := 2 } }, by decide⟩, by decide, ?_, ⟨timed { insts := List.replicate 4 { state := 2 } }, by decide⟩, ?_, ⟨_, rfl, by decide⟩, ?_,
    ⟨timed { state := 3, pendingSwitch := some (2, 1) }, 2, 1, by decide⟩, ⟨{ timed { state := 3, utcValid := true } with rtc := { oscStop := false, now := {} }, clerk := { live.clerk with tick := 20 } }, by decide⟩,
    ⟨timed { state := 2, utcSaved := some 37 }, by decide⟩, ⟨timed { pps := { inMode := 1 } }, 1000, by decide⟩, ⟨timed { pps := { inMode := 1 } }, 1001, by decide⟩, ⟨timed { pps := { inMode := 1 }, ppsOffset := some 0 }, by decide⟩,
    ⟨timed { state := 1, pps := { outEnable := true } }, 1, by decide⟩⟩
  · intro k _; exact ⟨timed { bases := bases k k [1] }, rfl, by simp [timed, bases, baseAt]⟩
  · intro k hk; refine ⟨timed { state := k, bases := bases 3 3 }, _, rfl, ?_⟩; rcases List.mem_cons.mp hk with rfl | hk
    · decide
    · rw [List.mem_singleton.mp hk]; decide
  · intro ns _; exact ⟨timed { pendingStep := some (ns, 1) }, 1, rfl, rfl, by simp [timed, live]⟩

def clocked (r : Rtc) : State := { live with rtc := r }

theorem test_meets_CalendarEventsComplete :
    rtcBusy live.rtc = false ∧ 6 ≤ 6 ∧ (∀ v ∈ [true, false], ∃ s : State, ∃ t rest, s.rtc.commits = (.staging, t) :: rest ∧ s.rtc.disciplined = false ∧ t.valid = v) ∧ bits 22118400 0 25 ≤ 22118400 ∧
    (∃ s : State, s.rtc.oscStop = false ∧ s.mode.ready = true) ∧ (live.rtc.onVbat = false) ∧ (∃ s : State, s.rtc.onVbat = true) ∧ (∃ s : State, s.rtc.wakePeriod ≠ 0) :=
  ⟨by decide, by decide, fun v _ => match v with
     | true => ⟨clocked { commits := [(.staging, {})] }, {}, [], rfl, rfl, rfl⟩
     | false => ⟨clocked { commits := [(.staging, { month := 13 })] }, { month := 13 }, [], rfl, rfl, rfl⟩,
   by decide, ⟨clocked { oscStop := false }, by decide⟩, by decide, ⟨clocked { onVbat := true }, by decide⟩, ⟨clocked { wakePeriod := 1 }, by decide⟩⟩

def twinAs (t : Twin) (s : State := live) : State := { s with mode := { ready := true, role := roleShown t.role }, twin := t }
def beat : List Byte := [0x54, 0x48] ++ zeros 6 ++ (le 8 (Config.unitSerial + 1#64).toNat ++ zeros 48)

theorem test_meets_TwinEventsComplete :
    (∃ s : State, s.twin.role ≠ 0 ∧ s.mode.ready = true ∧ s.twin.linkUp = true) ∧ (∃ s : State, ∃ b, s.twin.role ≠ 0 ∧ s.mode.ready = true ∧ 64 ≤ b.length ∧ b.take 2 = [0x54, 0x48] ∧ fld b 8 8 ≠ Config.unitSerial.toNat) ∧
    (∃ s : State, s.twin.role = 1 ∧ s.mode.ready = true ∧ s.twin.gotTw = true ∧ s.twin.gotUdp = true ∧ s.twin.heardTw = true ∧ s.twin.heardUdp = true) ∧
    (∃ s : State, s.twin.role = 4 ∧ s.mode.ready = true ∧ s.twin.gotTw = false ∧ s.twin.gotUdp = false ∧ s.twin.heardTw = false ∧ s.twin.heardUdp = false ∧ 7 ≤ s.twin.missed ∧ 3 ≤ s.twin.silent ∧ s.twin.takeover = none ∧ twinCurrent s = true) ∧
    (∃ s : State, ∃ cause, s.twin.takeover = some (cause, s.clerk.tick + 1) ∧ s.twin.role = 4 ∧ s.clerk.running = true) ∧
    (∃ s : State, ∃ b w, s.twin.role = 4 ∧ s.twin.linkUp = true ∧ b ≠ [] ∧ parseWaybill b = w ∧ s.clerk.running = true ∧ w.tick = s.clerk.lastTick + 1 ∧ w.prev = s.clerk.chain) ∧
    (∃ s : State, ∃ b p, s.twin.role ≠ 0 ∧ s.twin.linkUp = true ∧ s.mode.ready = true ∧ p = parsePacket (.twin 0) b ∧ intakeCheck s p = none ∧ intakeFull s 4 = false) ∧
    (∃ s : State, ∃ m, s.twin.role ≠ 0 ∧ s.twin.linkUp = true ∧ s.mode.ready = true ∧ m < 16 ∧ (mbxOf s m).masterA = 4) ∧ (∃ s : State, ∃ f, (s.paths.sent.filter (fun (x : Sent) => x.port == 3)).getLast? = some f ∧ s.twin.linkUp = true) ∧
    (∃ s : State, s.twin.role = 2 ∧ s.mode.ready = true ∧ s.twin.since + (if s.twin.cfg.secondary then 4000 else 2000) ≤ s.uptime ∧ s.twin.foreign = false ∧ s.twin.peer = none) ∧
    (∃ s : State, s.twin.role = 3 ∧ s.twin.requested = true) ∧ (∃ s : State, s.twin.role = 3 ∧ s.twin.requested = false) ∧
    (∃ s : State, ∃ t, s.twin.handover = some t ∧ s.twin.role = 1 ∧ s.clerk.tick + 1 = t ∧ s.clerk.running = true ∧ s.mode.role ≠ 2) ∧ (∃ s : State, ∃ t, s.twin.handover = some t ∧ s.twin.role = 4 ∧ s.clerk.lastTick + 1 = t ∧ t ≤ s.clerk.tick + 1) ∧
    live.bhLink.getD 1 0 ≠ 2 ∧ 2 ≤ live.boot.stage ∧ live.twin.unsent = [] := by
  refine ⟨⟨twinned 1, by decide⟩, ⟨twinned 1, beat, by decide, by decide, by decide, rfl, ?_⟩, ⟨twinAs { role := 1, gotTw := true, gotUdp := true, heardTw := true, heardUdp := true }, by decide⟩,
    ⟨twinAs { role := 4, missed := 7, silent := 3, lastRx := 999, lastCompared := 999, peer := some { role := 1, sealed := 999 } }, by decide⟩, ⟨twinAs { role := 4, takeover := some (0, 1001) }, 0, by decide⟩,
    ⟨twinned 4, (Waybill.bytes { tick := 1000 }), _, by decide, by decide, by decide, rfl, by decide⟩,
    ⟨twinned 4, enc [(1, 3), (1, 0), (2, 1), (1, 63), (1, 0), (2, 0), (4, 0xF0000000), (4, 1)], _, by decide, by decide, by decide, rfl, by decide⟩, ⟨boxed { masterA := 4 } (twinned 4), 15, by decide⟩,
    ⟨{ twinned 1 with paths := { sent := [⟨3, 0, 0, [1]⟩] } }, ⟨3, 0, 0, [1]⟩, by decide⟩, ⟨{ twinAs { role := 2 } with uptime := 2000 }, by decide⟩, ⟨twinAs { role := 3, requested := true }, by decide⟩, ⟨twinAs { role := 3 }, by decide⟩,
    ⟨twinAs { role := 1, handover := some 1001 }, 1001, by decide⟩, ⟨twinAs { role := 4, handover := some 1000 }, 1000, by decide⟩, by decide, by decide, by decide⟩
  rw [show fld beat 8 8 = (Config.unitSerial + 1#64).toNat from fld_le 8 ([0x54, 0x48] ++ zeros 6) (zeros 48) _ (Config.unitSerial + 1#64).isLt]
  intro h
  have := BitVec.eq_of_toNat_eq h
  bv_omega

def booted (b : Boot) (s : State := {}) : State := { s with boot := b }

theorem test_meets_ResetEventsComplete :
    (live.supply.latch = none ∧ live.boot.pwrcyc = false) ∧ (∃ s : State, s.boot.pending = some 1) ∧ (∀ k ∈ [1, 2], ∃ s : State, s.boot.stage = k ∧ heldInReset s = false) ∧
    (∃ s : State, ∃ t, s.boot.stage = 3 ∧ s.mode.coppice = false ∧ s.clerk.running = false ∧ s.mode.role ≠ 2 ∧ s.time.state ≠ 0 ∧ s.clerk.lastTick < t) ∧ (2 ≤ live.boot.stage ∧ (live.uptime + 10) % 60000 ≠ 0) ∧
    (∀ x ∈ [({ ready := true }, 1980), (({} : Mode), 15000)], ∃ s : State, s.mode = x.1 ∧ (if s.mode.ready ∨ s.mode.coppice then 1980 else 15000) ≤ x.2 ∧ heldInReset s = false ∧ s.boot.expiries = [0] ∧ 0 + 600000 < s.uptime + x.2) ∧
    (∃ s : State, s.boot.stage = 1 ∧ s.boot.powerOn = false) ∧ (∃ s : State, s.boot.pwrcyc = true) ∧ (∃ s : State, ∃ d m, d ≠ 6 ∧ d ≠ 7 ∧ s.boot.domains.find? (fun x => x.1 == d) = some (d, m, none)) := by
  refine ⟨by decide, ⟨booted { pending := some 1 }, rfl⟩, ?_, ⟨booted { stage := 3 } { live with clerk := {}, time := { state := 1 } }, 1, by decide⟩, by decide, ?_, ⟨booted { powerOn := false }, by decide⟩, ⟨booted { pwrcyc := true }, rfl⟩,
    ⟨booted { domains := [(11, 0, none)] }, 11, 0, by decide⟩⟩
  · intro k hk; refine ⟨booted { stage := k }, rfl, ?_⟩
    rcases List.mem_cons.mp hk with rfl | hk
    · decide
    · rw [List.mem_singleton.mp hk]; decide
  · intro x hx
    rcases List.mem_cons.mp hx with rfl | hx
    · exact ⟨{ booted { expiries := [0] } with mode := { ready := true }, uptime := 599000 }, rfl, by decide⟩
    · rw [List.mem_singleton.mp hx]; exact ⟨{ booted { expiries := [0] } with uptime := 599000 }, rfl, by decide⟩

theorem test_meets_FirmwareEventsComplete :
    (∃ s : State, ∃ p, s.firmware.session = 1 ∧ s.firmware.packet = some p) ∧
    (∃ s : State, ∃ p x, s.firmware.session = 3 ∧ s.firmware.packet = some p ∧ s.firmware.abort = none ∧ fwSlot s s.firmware.slot = x ∧ x.bytes.length = s.firmware.total ∧ (Config.crc32c x.bytes).toNat = s.firmware.crc) ∧
    (∃ s : State, s.firmware.session = 2 ∧ s.firmware.last + 600000 ≤ s.uptime) ∧ (∃ s : State, ∃ k, slotIn s 3 = some k ∧ s.clerk.running = true ∧ s.boot.resumeTick + 2400 ≤ s.clerk.tick ∧ (fwSlot s k).failed = false) :=
  ⟨⟨fws 4 1 { session := 1, packet := some (pk 0x1101) }, _, rfl, rfl⟩, ⟨fws 4 1 { session := 3, slot := 1, crc := (Config.crc32c []).toNat, packet := some (pk 0x1103) }, _, _, rfl, rfl, rfl, rfl, rfl, rfl⟩,
   ⟨{ fws 4 1 { session := 2, slot := 1 } with uptime := 600000 }, by decide⟩, ⟨{ fws 3 5 with clerk := { running := true, tick := 2400 } }, 0, by decide⟩⟩

theorem test_meets_SupplyAndCounterEventsComplete :
    live.mode.ready = true ∧ (∃ s : State, ∃ k, k ≤ 3 ∧ bit s.supply.under k = true) ∧ live.supply.latch = none ∧ (∃ s : State, s.supply.latch.isSome = true) ∧ live.boot.stage ≠ 0 ∧
    (∃ k v c, live.cnt.counters[k]? = some c ∧ k < 32 ∧ c.source = bits v 0 9 ∧ bit v 10 = false) ∧ (∃ k v c, live.cnt.counters[k]? = some c ∧ k < 32 ∧ c.source ≠ bits v 0 9) ∧ (∃ s : State, s.cnt.lease.isSome = true) :=
  ⟨by decide, ⟨{ live with supply := { under := 8 } }, 3, by decide⟩, by decide, ⟨{ live with supply := { latch := some (900, 500) } }, by decide⟩, by decide, ⟨31, 0x200, {}, by decide⟩, ⟨31, 0x3FF, {}, by decide⟩, ⟨{ live with cnt := { lease := some 60000 } }, by decide⟩⟩

/-! ### The computations of the ticks -/

/-- The computation of tick 1,000 on an ordered state, and one with the channels given. -/
def cmp (o : Ordered) (ps : PlanStore := {}) : Calc := { tick := 1000, ord := o, plan := ps, res := { tick := 1000 } }
def withCh (cs : List Channel) : Calc := cmp { channels := cs }

def planInfo : Plan := { info := some (zeros 64) }
def sels : List Selector := [⟨0x0101, 0⟩]

set_option maxRecDepth 8000 in
theorem test_meets_ChannelCommandsTakeEffect :
    (∃ b : List Byte, ∀ k, k < 5 → ∃ i, i < 5 ∧ fld b i 1 = k) ∧
    (∃ c : Calc, ∃ b qs new, qs = quotaItems b ∧ new = qs.foldl (fun (l : List Quota) q => l.map (fun x => if x.cls == q.cls && x.index == q.index then q else x)) c.ord.quotas ∧ qs ≠ [] ∧ qs.length ≤ 10 ∧
      (∀ q ∈ qs, ∃ e k, quotaRange q.cls q.index = some (e, k) ∧ e.1 ≤ q.entries ∧ q.entries ≤ e.2 ∧ k.1 ≤ q.kib ∧ q.kib ≤ k.2) ∧ quotaSums new = true) ∧
    (∃ c : Calc, c.plan.state = 1 ∧ c.plan.owner = 2 ∧ fld (enc [(4, 1), (4, 0)]) 0 4 = c.plan.gen ∧ checkPlan c.ord (staged c.plan) = none) ∧
    (∃ c : Calc, ∃ b h ch ss, chanOf c.ord h = some ch ∧ ch.judged ≠ .running ∧ fld b 0 1 < 3 ∧ 1 ≤ fld b 1 1 ∧ fld b 1 1 ≤ 8 ∧
      ss = (List.range (fld b 1 1)).map (fun i => (⟨fld b (32 + 8 * i) 2, fld b (36 + 8 * i) 4⟩ : Selector)) ∧ (∀ x ∈ ss, selectorKnown x.code = true ∧ (x.code = 0x0301 → x.filter = 0)) ∧
      256 ≤ fld b 4 4 ∧ fld b 4 4 ≤ 8192 ∧ fld b 8 2 ≤ 512 ∧
      sumBy (fun (x : Channel) => if x.handle == h then 0 else match x.body with | .stream q => q.spillMiB | _ => 0) c.ord.channels + fld b 8 2 ≤ 512) ∧
    (∀ t, 1 ≤ t → t ≤ 9 → ∃ slot, freeChanSlot (cmp {}).ord = some slot ∧ (liveOf (cmp {}).ord t).length < typeLimit t ∧ loopNeed t ≤ (freeSlots (cmp {}).ord (loopNeed t)).length ∧ (cmp {}).storeFull = false) ∧
    (∀ st ∈ [ChanState.configured, .running, .held], ∃ c : Calc, ∃ h ch, chanOf c.ord h = some ch ∧ ch.state = st) ∧
    (∃ c : Calc, ∃ h ch, chanOf c.ord h = some ch ∧ referrer c ch = none) ∧ (∃ c : Calc, ∃ h ch r, chanOf c.ord h = some ch ∧ referrer c ch = some r) := by
  refine ⟨⟨enc [(1, 4), (1, 3), (1, 2), (1, 1), (1, 0)], by decide⟩, ⟨cmp {}, enc [(8, 1), (1, 1), (1, 4), (2, 1024), (2, 16), (2, 0)], _, _, rfl, rfl, by decide, by decide, ?_, by decide⟩,
    ⟨cmp {} { slots := [planInfo, {}], state := 1, owner := 2, gen := 1 }, by decide⟩,
    ⟨withCh [chn 8 (.stream {}) .created], enc [(1, 2), (1, 1), (2, 0), (4, 8192), (2, 512), (1, 0), (21, 0), (4, 0x0301), (4, 0)], hd 8, _, _, rfl, by decide, by decide, by decide, by decide, rfl, by decide, by decide, by decide, by decide, by decide⟩,
    ?_, ?_, ⟨withCh [grp], hd 1, _, rfl, by decide⟩, ⟨withCh [{ chn 2 (.schedule sch) with handle := mkHandle 2 1 6 }, chn 1 (.group { schedule := mkHandle 2 1 6 })], mkHandle 2 1 6, _, hd 1, rfl, by decide⟩⟩
  · intro q hq
    have : q = ⟨1, 4, 1024, 16⟩ := by revert q; decide
    subst this; exact ⟨(16, 1024), (16, 1024), rfl, by decide⟩
  · intro t h1 h2
    refine ⟨0, rfl, ?_⟩
    have : ∀ t, t ≤ 9 → 1 ≤ t → (liveOf (cmp {}).ord t).length < typeLimit t ∧ loopNeed t ≤ (freeSlots (cmp {}).ord (loopNeed t)).length := by decide
    exact ⟨(this t h2 h1).1, (this t h2 h1).2, rfl⟩
  · intro st _; exact ⟨withCh [grp st], hd 1, grp st, rfl, rfl⟩

def pl9 (c : Calc) (ns : List Nat) : Calc := { c with ord := { c.ord with plan := { plan := { placements := ns.map placed } } } }
def overG (emergency : Bool) : Calc := withCh [chn 1 (.group { overrides := [(7, ⟨emergency, 2, 47, 1000, 0, 8191, 5000, 1, 1⟩)] })]

theorem test_meets_LightCommandsTakeEffect :
    (∃ c : Calc, ∃ b, ∃ sch : Handle, sch = BitVec.ofNat 32 (fld b 0 4) ∧ (sch = 0 ∨ (hType sch = 2 ∧ (chanOf c.ord sch).isSome = true)) ∧ fld b 4 1 ≤ 47 ∧ fld b 5 1 ≤ 47 ∧ fld b 6 1 ≤ 7 ∧ 1 ≤ fld b 7 1 ∧ fld b 7 1 ≤ 3 ∧
      fld b 8 2 ≤ 1000 ∧ (fld b 10 2 = 0 ∨ (10 ≤ fld b 10 2 ∧ fld b 10 2 ≤ 3600))) ∧
    (∃ c : Calc, ∃ b f k, fld b 0 1 = 0 ∧ fld b 1 1 = 1 ∧ fld b 4 2 = f ∧ fld b 6 2 = k ∧ f + k ≤ 8192 ∧ k = 1 ∧ (∀ i, i < k → (placementOf c.ord (i + f)).isSome = true)) ∧
    (∃ b, ∃ x : Schedule, 1 ≤ fld b 40 1 ∧ fld b 40 1 ≤ 8 ∧ x = { lat := fldS b 0 4, lon := fldS b 4 4, duskAngle := fld b 8 2, dawnAngle := fld b 10 2, std := fldS b 12 2, dst := fld b 14 1, planPlace := bit (fld b 15 1) 0, startRule := readRule b 16, endRule := readRule b 24, week := (List.range 7).map (fun d => fld b (32 + d) 1), programmes := readProgrammes b (fld b 40 1) } ∧
      x.lat.natAbs ≤ 900000000 ∧ x.lon.natAbs ≤ 1800000000 ∧ x.duskAngle ≤ 180 ∧ x.dawnAngle ≤ 180 ∧ -720 ≤ x.std ∧ x.std ≤ 840 ∧ x.dst ≤ 120 ∧ fld b 15 1 ≤ 1 ∧ rulesOk x.startRule x.endRule = true ∧
      (∀ w ∈ x.week, w < fld b 40 1) ∧ (∀ g ∈ x.programmes, g ≠ [] ∧ g.length ≤ 16 ∧ ∀ y ∈ g, y.ok = true)) ∧
    (∃ c : Calc, ∃ b h ch, ∃ x : Schedule, ∃ hs : List Holiday, chanOf c.ord h = some ch ∧ scheduleOf c.ord h = some x ∧ ch.judged ≠ .created ∧ fld b 0 1 ≤ 64 ∧
      hs = (List.range (fld b 0 1)).map (fun i => { year := fld b (8 + 8 * i) 2, month := fld b (10 + 8 * i) 1, day := fld b (11 + 8 * i) 1, programme := fld b (12 + 8 * i) 1 }) ∧
      (∀ y ∈ hs, 2000 ≤ y.year ∧ y.year ≤ 2199 ∧ 1 ≤ y.month ∧ y.month ≤ 12 ∧ 1 ≤ y.day ∧ y.day ≤ monthDays y.year y.month ∧ y.programme < x.programmes.length)) ∧
    (∃ c : Calc, ∃ b h ch g, chanOf c.ord h = some ch ∧ groupOf c.ord h = some g ∧ ch.state ≠ .held ∧ ch.state ≠ .faulted ∧ fld b 0 1 ≤ 7 ∧ (fld b 1 1 ≤ 47 ∨ fld b 1 1 = 0xFF) ∧ fld b 2 2 ≤ 1000 ∧ 1 ≤ fld b 4 4 ∧ fld b 4 4 ≤ 604800 ∧
      (fld b 8 2 = 0xFFFF ∧ fld b 10 2 = 0xFFFF ∨ fld b 8 2 ≤ fld b 10 2 ∧ fld b 10 2 ≤ 8191) ∧ look (fld b 0 1) g.overrides = none) ∧
    (∀ em ∈ [true, false], ∃ c : Calc, ∃ h ch g o, chanOf c.ord h = some ch ∧ groupOf c.ord h = some g ∧ ch.state ≠ .held ∧ ch.state ≠ .faulted ∧ look 7 g.overrides = some o ∧ o.emergency = em ∧ g.overrides = [(7, o)]) ∧
    (∃ b, ∃ ws : List Curfew, fld b 0 1 ≤ 8 ∧ ws = (List.range (fld b 0 1)).map (fun i => { days := fld b (8 + 8 * i) 1, start := fld b (10 + 8 * i) 2, stop := fld b (12 + 8 * i) 2, level := fld b (14 + 8 * i) 2 }) ∧
      (∀ w ∈ ws, w.days ≤ 127 ∧ w.start ≤ 1439 ∧ w.stop ≤ 1439 ∧ w.start ≠ w.stop ∧ w.level ≤ 1000)) ∧
    (∃ b, ∃ f : Fallback, f = { level := fld b 0 2, delay := fld b 2 2, code := fld b 4 1, mode := fld b 5 1 } ∧ fld b 6 1 = 0 ∧ f.level ≤ 1000 ∧ 30 ≤ f.delay ∧ f.delay ≤ 3600 ∧ f.code ≤ 47 ∧ f.mode ≤ 1) := by
  refine ⟨⟨withCh [{ chn 2 (.schedule sch) with handle := mkHandle 2 1 6 }], enc [(4, (mkHandle 2 1 6).toNat), (1, 47), (1, 0), (1, 7), (1, 3), (2, 1000), (2, 3600), (4, 0)], _, rfl, by decide⟩,
    ⟨pl9 (withCh [grp]) [8191], enc [(2, 0x100), (2, 0), (2, 8191), (2, 1)], 8191, 1, by decide⟩,
    ⟨enc [(4, 900000000), (4, 4294967296 - 1800000000), (2, 180), (2, 180), (2, 65536 - 720), (1, 120), (1, 1), (24, 0), (8, 1), (4, 1), (8, 1000 * 65536 + 86399 * 4294967296), (120, 0)], _, by decide, by decide, rfl, by decide⟩,
    ⟨withCh [chn 2 (.schedule sch)], enc [(8, 1), (2, 2000), (1, 2), (1, 29), (4, 0)], hd 2, _, _, _, rfl, rfl, by decide, by decide, rfl, by decide⟩,
    ⟨withCh [grp], enc [(1, 7), (1, 0xFF), (2, 1000), (4, 604800), (2, 8191), (2, 8191), (4, 0)], hd 1, _, _, rfl, rfl, by decide⟩, ?_,
    ⟨enc [(8, 1), (2, 127), (2, 1439), (2, 0), (2, 1000)], _, by decide, rfl, by decide⟩, ⟨enc [(2, 1000), (2, 30), (1, 47), (1, 1), (2, 0)], _, rfl, by decide⟩⟩
  intro em _
  cases em
  · exact ⟨overG false, hd 1, _, _, ⟨false, 2, 47, 1000, 0, 8191, 5000, 1, 1⟩, rfl, rfl, by decide⟩
  · exact ⟨overG true, hd 1, _, _, ⟨true, 2, 47, 1000, 0, 8191, 5000, 1, 1⟩, rfl, rfl, by decide⟩

def zone (e : Escort := { allot := 8, links := [1, 4095], flags := 1 }) : Calc := withCh [chn 3 (.escort e)]
def zoned : Escort := { allot := 8, links := [1, 4095], flags := 1 }
def loopC (x : LoopSlot := slow) : Calc := cmp { channels := [chn 6 .loop], loops := [x] }

theorem test_meets_EscortAndLoopCommandsTakeEffect :
    (∃ c : Calc, ∃ b h e links, escortOf c.ord h = some e ∧ links = (List.range (fld b 12 2)).map (fun i => fld b (16 + 2 * i) 2) ∧ 3000 ≤ fld b 0 2 ∧ fld b 0 2 ≤ 12000 ∧ 250 ≤ fld b 2 2 ∧ fld b 2 2 ≤ 4000 ∧ fld b 2 2 + 1000 ≤ fld b 0 2 ∧
      1 ≤ fld b 4 2 ∧ fld b 4 2 ≤ 1024 ∧ 100 ≤ fld b 6 2 ∧ fld b 6 2 ≤ 5000 ∧ 32 ≤ fld b 8 2 ∧ fld b 8 2 ≤ 32768 ∧ fld b 10 1 ≤ 3 ∧ 1 ≤ fld b 12 2 ∧ fld b 12 2 ≤ 1024 ∧ (∀ l ∈ links, l ≤ 4095) ∧ links.eraseDups = links ∧
      otherAllotments c.ord h + fld b 4 2 ≤ 1024 ∧ e.travellers = []) ∧
    (∃ c : Calc, ∃ b h e f, escortOf c.ord h = some e ∧ f = (⟨fld b 2 2, fld b 4 4, fld b 8 4, fld b 12 2, fld b 14 2, fld b 16 2, fld b 18 2⟩ : Profile) ∧ fld b 0 1 ≤ 2 ∧ f.level ≤ 1000 ∧ f.lead ≤ 50000 ∧ f.trail ≤ 20000 ∧ f.rise ≤ 10000 ∧
      f.vmin ≤ f.vnom ∧ f.vnom ≤ f.vmax ∧ f.vmax ≤ 60000 ∧ (((setAt e.profiles (fld b 0 1) f)[0]?).map (·.vmax)).getD 0 < (((setAt e.profiles (fld b 0 1) f)[1]?).map (·.vmax)).getD 0) ∧
    (∀ k ∈ [0, 1], ∃ c : Calc, ∃ b h e link fs, escortOf c.ord h = some e ∧ link = fld b 0 2 ∧ link ≤ 4095 ∧ e.links.contains link = true ∧ fs = (List.range 64).map (fun i => fld b (4 + 2 * i) 2) ∧ fld b 2 1 = k ∧ (∀ f ∈ fs, f ≤ 2000) ∧ (look link e.tables).isSome = true) ∧
    (∃ c : Calc, ∃ b h e link, escortOf c.ord h = some e ∧ link = fld b 4 2 ∧ link ≤ 4095 ∧ bit e.flags 0 = true ∧ e.links.contains link = true ∧ fld b 0 1 = 3 ∧ fld b 6 1 ≤ 2 ∧ fld b 8 2 ≤ 3600 ∧ fld b 8 2 ≠ 0) ∧
    (∃ c : Calc, ∃ h e, escortOf c.ord h = some e ∧ bit e.flags 0 = false) ∧
    (∃ c : Calc, ∃ b h x items q, loopTarget c.ord h (fld b 0 1) = .ok x ∧ x.cls = 1 ∧ 1 ≤ fld b 1 1 ∧ fld b 1 1 ≤ 16 ∧
      items = (List.range (fld b 1 1)).map (fun i => (fld b (8 + 8 * i) 1, if fld b (8 + 8 * i) 1 = 4 then ((fld b (12 + 8 * i) 4 : Nat) : Int) else fldS b (12 + 8 * i) 4)) ∧ q = c.queueOf x ∧
      (∀ i ∈ items, coefOk i.1 i.2 = true) ∧ writesOk x (q ++ items.map (fun i => LoopWrite.coef i.1 i.2)) = true ∧ q.length + fld b 1 1 ≤ 16) ∧
    (∃ c : Calc, ∃ h x, loopTarget c.ord h 0 = .ok x ∧ x.cls = 1 ∧ ownerStopped c.ord h = false ∧ x.held = false ∧ (c.fastOf x).held = false ∧ (c.queueOf x).length < 16) ∧
    (∃ c : Calc, ∃ h x, loopTarget c.ord h 0 = .ok x ∧ x.cls = 1 ∧ ownerStopped c.ord h = false ∧ x.held = true ∧ x.release = none) ∧
    (∃ b, fld b 1 1 ≤ 1 ∧ fld b 2 1 ≠ 1 ∧ fld b 2 1 ≤ 32 ∧ 0 < fldS b 4 4 ∧ 4 ≤ fld b 8 4 ∧ fld b 8 4 ≤ 65535) ∧
    (∃ c : Calc, ∃ b h ch, chanOf c.ord h = some ch ∧ memberRange h ≠ 0 ∧ fld b 0 1 ≤ 7 ∧ fld b 2 2 = 0 ∧ ch.judged = .configured) ∧
    (∃ c : Calc, ∃ b h ch f, chanOf c.ord h = some ch ∧ f = ({ nodes := [(fld b 16 1, fld b 17 1)], kind := fld b 1 1, trigNode := 0, decim := fld b 3 1, depth := fld b 4 2, pre := fld b 6 2, level := fldS b 8 4, mask := fld b 12 2, slot := fld b 14 1 } : TraceCfg) ∧
      fld b 0 1 = 1 ∧ fld b 2 1 = 0 ∧ f.kind ≤ 4 ∧ 1 ≤ f.decim ∧ 256 ≤ f.depth ∧ f.depth ≤ 16384 ∧ f.depth % 256 = 0 ∧ f.pre < f.depth ∧ f.mask ≤ 31 ∧ f.slot ≤ 127 ∧ fld b 16 1 ≤ 127 ∧ fld b 17 1 ≤ 11 ∧
      (∃ x ∈ c.ord.loops, x.slot = f.slot) ∧ (∃ x ∈ c.ord.loops, x.slot = fld b 16 1) ∧ c.armed.contains h = false) ∧
    (∃ c : Calc, ∃ b h ch new load, chanOf c.ord h = some ch ∧ memberRange h ≠ 0 ∧ fld b 0 1 < memberRange h ∧ (ch.judged = .created ∨ ch.judged = .configured) ∧ c.ord.slotOf h (fld b 0 1) = none ∧ 1 ≤ fld b 1 1 ∧ fld b 1 1 ≤ 5 ∧
      fld b 2 1 = 1 ∧ fld b 3 1 ≤ 1 ∧ fld b 4 2 = 0 ∧ sourceOk 1 (fld b 6 1) = true ∧ fld b 7 1 = 0 ∧ fld b 8 1 ≤ 1 ∧ fld b 9 1 = 0 ∧ (freeSlots c.ord 1).head? = some new.slot ∧
      new = { slot := new.slot, owner := h, member := fld b 0 1, law := fld b 1 1, cls := 1, comp := fld b 3 1, divider := 0, src := fld b 6 1, sp := 0, pos := fld b 8 1, bus := 0, coef := (List.range 12).map (fun i => if i == 3 then ((fld b (16 + 4 * i) 4 : Nat) : Int) else fldS b (16 + 4 * i) 4), oscA := 65536, oscW := 4, table := List.replicate 64 16384 } ∧
      coefsOk new.coef = true ∧ classesOk (c.ord.slotsOf h) (c.ord.loopSets.filter (fun s => s.owner == h)) new = true ∧ load = fastLoad (new :: c.ord.loops.filter (fun x => x.slot != new.slot)) ∧ load.1 ≤ 1600000 * load.2) := by
  refine ⟨⟨zone, enc [(2, 12000), (2, 4000), (2, 1024), (2, 5000), (2, 32768), (2, 3), (2, 1), (2, 0), (2, 4095)], hd 3, _, _, rfl, rfl, by decide⟩,
    ⟨zone, enc [(2, 2), (2, 1000), (4, 50000), (4, 20000), (2, 10000), (2, 60000), (2, 60000), (2, 60000), (4, 0)], hd 3, _, _, rfl, rfl, by decide⟩, ?_,
    ⟨zone, enc [(4, 3), (2, 4095), (2, 2), (4, 3600)], hd 3, _, _, rfl, rfl, by decide⟩, ⟨zone { zoned with flags := 0 }, hd 3, _, rfl, by decide⟩,
    ⟨loopC, enc [(1, 0), (1, 1), (6, 0), (4, 10), (4, 1)], hd 6, _, _, _, rfl, rfl, by decide, by decide, rfl, rfl, by decide⟩, ⟨loopC, hd 6, _, rfl, by decide⟩, ⟨loopC { slow with held := true }, hd 6, _, rfl, by decide⟩,
    ⟨enc [(1, 0), (1, 1), (2, 32), (4, 1), (4, 65535)], by decide⟩, ⟨withCh [chn 5 (.luminaire {}) .configured], enc [(8, 7)], hd 5, _, rfl, by decide⟩,
    ⟨cmp { channels := [chn 9 (.trace {})], loops := [{ slow with slot := 127 }] }, enc [(1, 1), (1, 4), (1, 0), (1, 1), (2, 16384), (2, 16383), (4, 0), (2, 31), (2, 127), (1, 127), (1, 11), (14, 0)], hd 9, _, _, rfl, rfl, by decide⟩,
    ⟨withCh [chn 6 .loop .configured], enc [(1, 15), (1, 5), (1, 1), (1, 1), (2, 0), (1, 0x37), (1, 0), (8, 1), (12, 0), (4, 65536), (4, 0), (4, 65536), (8, 0), (4, 0), (4, 1), (4, 0), (4, 1)], hd 6, _,
      { slot := 0, owner := hd 6, member := 15, law := 5, cls := 1, comp := 1, src := 0x37, pos := 1, coef := [0, 0, 0, 65536, 0, 65536, 0, 0, 0, 1, 0, 1] }, _, rfl, by decide, by decide, by decide, by decide, by decide, by decide,
      by decide, by decide, by decide, by decide, by decide, by decide, by decide, by decide, by decide, by decide, by decide, rfl, by decide⟩⟩
  intro k hk
  rcases List.mem_cons.mp hk with rfl | hk
  · exact ⟨zone { zoned with tables := [(4095, [])] }, enc [(2, 4095), (2, 0), (2, 2000), (126, 0)], hd 3, _, _, _, rfl, rfl, by decide, by decide, rfl, by decide⟩
  · rw [List.mem_singleton.mp hk]; exact ⟨zone { zoned with tables := [(4095, [])] }, enc [(2, 4095), (2, 1), (2, 2000), (126, 0)], hd 3, _, _, _, rfl, rfl, by decide, by decide, rfl, by decide⟩

def lumC (state : ChanState := .running) (l : Lum := lumCfg) : Calc := withCh [chn 5 (.luminaire l) state]
def circC (state : ChanState := .running) : Calc := withCh [chn 4 (.circuit circ) state]

theorem test_meets_DriveAndMeteringCommandsTakeEffect :
    (∃ c : Calc, ∃ b h ch l, chanOf c.ord h = some ch ∧ lumOf c.ord h = some l ∧ fld b 2 1 = 1 ∧ fld b 4 2 ≤ 8191 ∧ fld b 6 2 ≤ 1000 ∧ fld b 8 2 ≤ 1000 ∧ fld b 10 2 ≤ 1000 ∧ (placementOf c.ord (fld b 4 2)).isSome = true) ∧
    (∃ c : Calc, ∃ b h ch, ∃ x : StringCfg, chanOf c.ord h = some ch ∧ ch.busy = false ∧ c.ord.slotOf h (fld b 0 1) = none ∧ fld b 0 1 ≤ 2 ∧ x = ⟨fld b 4 4, fld b 8 4, fld b 12 4, fld b 16 4, fld b 20 4⟩ ∧ 250000 ≤ x.fsw ∧ x.fsw ≤ 1000000 ∧
      3277 ≤ x.rated ∧ x.rated ≤ 196608 ∧ x.vmin ≤ 3932160 ∧ 6554 ≤ x.duty ∧ x.duty ≤ 62259 ∧ 3276800000 ≤ x.rated * x.shunt ∧ x.rated * x.shunt ≤ 6553600000) ∧
    (∃ b t, fld b 0 1 ≤ 2 ∧ t = (List.range 16).map (fun i => fld b (4 + 2 * i) 2) ∧ (∀ x ∈ t, 1638 ≤ x)) ∧ (∃ b, 70 ≤ fld b 0 2 ∧ fld b 0 2 ≤ 110 ∧ fld b 0 2 + 5 ≤ fld b 2 2 ∧ fld b 2 2 ≤ 150 ∧ fld b 4 2 ≤ 1000) ∧
    (∃ c : Calc, ∃ h l k, lumOf c.ord h = some l ∧ l.num = some k ∧ (l.latched[0]?).getD 0 ≠ 0) ∧
    (∃ c : Calc, ∃ b h ch x, chanOf c.ord h = some ch ∧ circuitOf c.ord h = some x ∧ fld b 2 1 = 1 ∧ 1000 ≤ fld b 4 4 ∧ fld b 4 4 ≤ 2000000) ∧
    (∃ c : Calc, ∃ b h ch x k u i, chanOf c.ord h = some ch ∧ circuitOf c.ord h = some x ∧ ch.busy = false ∧ fld b 0 1 = k ∧ k ≤ 7 ∧ fld b 1 1 = 1 ∧ fld b 2 1 = 0 ∧ fld b 3 1 = 0xFF ∧ fld b 4 4 = 0 ∧ 100 ≤ fld b 8 2 ∧ fld b 8 2 ≤ 277 ∧
      1 ≤ fld b 10 2 ∧ fld b 10 2 ≤ 50 ∧ 6554 ≤ fld b 12 4 ∧ fld b 12 4 ≤ 327680000 ∧ fld b 16 1 = u ∧ u ≤ 2 ∧ fld b 17 1 = i ∧ i ≤ 15 ∧ (heldInputs c.ord h).contains i = false ∧
      (∀ y ∈ c.ord.channels, y.handle ≠ h → ∀ z, y.body = .circuit z → z.num ≠ some k)) ∧
    (∃ c : Calc, ∃ b i v, fld b 0 1 = 0 ∧ fld b 1 1 = i ∧ i ≤ 3 ∧ fld b 4 4 = v ∧ 1000 ≤ v ∧ v ≤ 2000000 ∧ fld b 8 4 = 0 ∧ inputBusy c.ord 0 i = false) ∧
    (∃ b i, fld b 0 1 = 1 ∧ fld b 1 1 = 0 ∧ fld b 2 1 = i ∧ i ≤ 3 ∧ fld b 3 1 = 0 ∧ calOk 0 (fldS b 8 4) (fld b 12 4) (fldS b 16 4) = true) ∧
    (∃ c : Calc, ∃ b h x k y, circuitOf c.ord h = some x ∧ x.num = some k ∧ meterOf c.ord k = y ∧ fld b 0 1 ∈ [1, 5, 15, 30, 60] ∧ -720 ≤ fldS b 2 2 ∧ fldS b 2 2 ≤ 840 ∧ 1 ≤ fld b 4 2 ∧ fld b 4 2 ≤ 24 ∧ 10 ≤ fld b 6 2 ∧ fld b 6 2 ≤ 1000 ∧
      (y.opened = false ∨ (y.length = fld b 0 1 ∧ y.align = fldS b 2 2))) ∧
    (∃ c : Calc, ∃ b o x, fld b 0 1 = o ∧ o ≤ 3 ∧ fld b 1 1 ≤ 1 ∧ x = ({ enable := fld b 1 1 == 1, mask := fld b 2 1, quantity := fld b 3 1, k := fld b 4 4, width := fld b 8 2 } : PulseOutCfg) ∧ x.quantity ≤ 4 ∧ 1 ≤ x.k ∧ x.k ≤ 100000 ∧ 30 ≤ x.width ∧
      x.width ≤ 200 ∧ x.mask = 0x80 ∧ (∀ k, k < 8 → bit x.mask k = true → circuitLive c.ord k = true)) ∧
    (∃ b i x, fld b 0 1 = i ∧ i ≤ 3 ∧ fld b 1 1 ≤ 1 ∧ x = ({ enable := fld b 1 1 == 1, circuit := fld b 2 1, quantity := fld b 3 1, k := fld b 4 4, debounce := fld b 8 1, width := fld b 9 1 } : PulseInCfg) ∧ x.circuit = 0xFF ∧ x.quantity ≤ 4 ∧
      1 ≤ x.k ∧ x.k ≤ 100000 ∧ 1 ≤ x.debounce ∧ x.debounce ≤ 20 ∧ 10 ≤ x.width ∧ x.width ≤ 30) := by
  refine ⟨⟨pl9 (lumC) [8191], enc [(2, 7), (2, 1), (2, 8191), (2, 1000), (2, 0), (2, 1000), (12, 0)], hd 5, _, _, rfl, rfl, by decide⟩,
    ⟨lumC .configured, enc [(4, 2), (4, 250000), (4, 196608), (4, 33333), (4, 3932160), (4, 62259)], hd 5, _, _, rfl, by decide, by decide, by decide, rfl, by decide⟩, ⟨enc [(4, 2)] ++ (List.replicate 16 (le 2 1638)).flatten, _, by decide, rfl, by decide⟩,
    ⟨enc [(2, 110), (2, 150), (4, 1000)], by decide⟩, ⟨lumC .running { lumCfg with latched := [3, 0, 0, 0] }, hd 5, _, 7, rfl, rfl, by decide⟩, ⟨circC, enc [(4, 65536), (4, 2000000), (24, 0)], hd 4, _, _, rfl, rfl, by decide⟩,
    ⟨circC .configured, enc [(1, 7), (1, 1), (1, 0), (1, 0xFF), (4, 0), (2, 277), (2, 50), (4, 327680000), (1, 2), (1, 15), (14, 0)], hd 4, _, _, _, _, _, rfl, rfl, by decide, rfl, by decide, by decide, by decide, by decide, by decide, by decide,
      by decide, by decide, by decide, by decide, by decide, rfl, by decide, rfl, by decide, by decide, ?_⟩,
    ⟨circC, enc [(1, 0), (1, 1), (2, 0), (4, 2000000), (8, 0)], _, _, by decide, rfl, by decide, rfl, by decide⟩, ⟨enc [(1, 1), (1, 0), (2, 3), (4, 0), (4, 65536), (4, 1342177280), (4, 0)], _, by decide, by decide, rfl, by decide⟩,
    ⟨circC, enc [(1, 60), (1, 0), (2, 840), (2, 24), (2, 1000), (4, 0)], hd 4, _, 7, _, rfl, rfl, rfl, by decide⟩, ⟨circC, enc [(1, 3), (1, 1), (1, 0x80), (1, 4), (4, 100000), (2, 200), (2, 0)], _, _, rfl, by decide, by decide, rfl, by decide⟩,
    ⟨enc [(1, 3), (1, 1), (1, 0xFF), (1, 4), (4, 100000), (1, 20), (1, 30), (2, 0)], _, _, rfl, by decide, by decide, rfl, by decide⟩⟩
  intro y hy hne
  exact absurd (congrArg Channel.handle (List.mem_singleton.mp hy)) hne

/-- Four radios off, and a hop plan of eight channels: admissible in both bands. -/
def quiet : RadioCfg := { on := false, family := 1, rate := 3, option := 0, flags := 14, preamble := 32, level := 6, guard := 2000, pan := 0xFFFE, key := 63 }
def f0 : Nat := if Config.isN1 then 910000 else 868000
def hop8 : HopPlan := { f0 := f0, spacing := 400, phases := [0, 2, 4, 6], limit := 10000, window := 10, channels := List.range 8 }
def slots0 : SlotPlan := ⟨2, List.replicate 60 3⟩
def air8 : Calc := { cmp { air := { radios := List.replicate 4 { cfg := some quiet, plan := some slots0 }, hop := some hop8 } } with keys := factorySlots.set 63 { attr := 1 } }

set_option maxRecDepth 100000 in
theorem air8_ok : airConfigOk hop8 (List.replicate 4 quiet) (List.replicate 4 slots0) = true := by
  unfold airConfigOk hopOk admissible accountLimit hop8 f0
  generalize Config.isN1 = n
  cases n <;> decide

theorem f0_small : f0 < 256 ^ 4 := by unfold f0; split <;> decide

set_option maxRecDepth 100000 in
theorem test_meets_RadioAndPartnerCommandsTakeEffect :
    (∃ c : Calc, ∃ b r x inst, fld b 0 1 = r ∧ r ≤ 3 ∧ x = ({ on := fld b 1 1 == 1, family := fld b 2 1, rate := fld b 3 1, option := fld b 4 1, flags := fld b 5 1, preamble := fld b 6 1, level := fld b 7 1, guard := fld b 8 2, pan := fld b 10 2, key := fld b 12 1 } : RadioCfg) ∧
      fld b 1 1 ≤ 1 ∧ (x.level = 5 ∨ x.level = 6) ∧ 100 ≤ x.guard ∧ x.guard ≤ 2000 ∧ x.pan ≠ 0xFFFF ∧ x.key ≤ 63 ∧ x.flags ≤ 15 ∧ x.family = 1 ∧ x.rate ≤ 3 ∧ x.option = 0 ∧ 4 ≤ x.preamble ∧ x.preamble ≤ 32 ∧ keyStatus c.keys x.key 0 = none ∧
      inst = changeInstant c.tick (pendingAt c.ord c.tick [] [r] true) ∧ airConfigOk (hopAt c.ord inst) ((cfgsAt c.ord inst).set r x) (plansAt c.ord inst) = true) ∧
    (∃ c : Calc, ∃ b r x inst, fld b 0 1 = r ∧ r ≤ 3 ∧ x = ({ field := fld b 1 1, kinds := (List.range 60).map (fun i => fld b (4 + i) 1) } : SlotPlan) ∧ (x.field = 1 ∨ x.field = 2) ∧ (∀ k ∈ x.kinds, k ≤ 3) ∧
      inst = changeInstant c.tick (pendingAt c.ord c.tick [r] [] true) ∧ airConfigOk (hopAt c.ord inst) (cfgsAt c.ord inst) ((plansAt c.ord inst).set r x) = true) ∧
    (∃ c : Calc, ∃ b x inst, x = ({ f0 := fld b 0 4, spacing := fld b 4 2, phases := (List.range 4).map (fun i => fld b (8 + i) 1), limit := fld b 12 4, window := fld b 16 2, channels := (List.range (fld b 6 1)).map (fun i => fld b (20 + i) 1) } : HopPlan) ∧
      100 ≤ x.spacing ∧ x.spacing ≤ 2000 ∧ 2 ≤ fld b 6 1 ∧ fld b 6 1 ≤ 64 ∧ 1 ≤ x.window ∧ x.window ≤ 3600 ∧ 1 ≤ x.limit ∧ x.limit ≤ (if Config.isN1 then x.window * 1000 else 100000) ∧ (∀ f ∈ x.phases, f < fld b 6 1) ∧
      distinct x.phases = true ∧ distinct x.channels = true ∧ inst = changeInstant c.tick (pendingAt c.ord c.tick [0, 1, 2, 3] [0, 1, 2, 3] false) ∧ airConfigOk x (cfgsAt c.ord inst) (plansAt c.ord inst) = true) ∧
    (∃ b, fld b 0 1 ≤ 3 ∧ -20 ≤ fldS b 2 1 ∧ fldS b 2 1 ≤ 40 ∧ -20 ≤ fldS b 3 1 ∧ fldS b 3 1 ≤ 40) ∧ (∃ c : Calc, ∃ b k, fld b 0 2 = k ∧ k ≤ 10239 ∧ (placementOf c.ord k).isSome = true ∧ fld b 2 1 = 2) ∧
    (∃ c : Calc, ∃ b k, ∃ a : Assign, fld b 0 2 = k ∧ k ≤ 10239 ∧ (placementOf c.ord k).isSome = true ∧ fld b 2 1 = 1 ∧ a = { index := fld b 8 1, role := fld b 9 1, radio := fld b 10 1, slot := fld b 11 1, mini := fld b 12 1, period := fld b 14 2, phase := fld b 16 2, start := c.tick + 8 } ∧
      a.index ≤ 3 ∧ a.role = 1 ∧ a.radio ≤ 3 ∧ 3 ≤ a.slot ∧ a.slot ≤ 17 ∧ a.mini = 0xFF ∧ a.phase < a.period ∧ (partnerAt c.ord k).assigns = [] ∧ kindThroughout c.ord a.radio (c.tick + 8) a.slot a.period a.phase 1 = true ∧
      freeOccurrence (occupied_ c.ord a.radio k (fun y => y.index != a.index)) a.slot a.mini a.period a.phase = true) ∧
    (∃ b, 1 ≤ fld b 0 1) ∧
    (∃ c : Calc, ∃ b h ch x img t k all ts, chanOf c.ord h = some ch ∧ sessionOf c.ord h = some x ∧ x.image = some img ∧ ch.judged ≠ .running ∧ ch.judged ≠ .held ∧ 1 ≤ fld b 2 1 ∧ fld b 2 1 ≤ 15 ∧ fld b 3 1 = 0 ∧ fld b 8 2 ≤ 10000 ∧ 60 ≤ fld b 10 4 ∧ fld b 10 4 ≤ 604800 ∧
      fld b 4 4 % 65536 ≤ fld b 4 4 / 65536 ∧ fld b 4 4 / 65536 ≤ 10239 ∧ t = symbolSize c.ord c.tick (fld b 2 1) ∧ (∀ r ∈ maskRadios (fld b 2 1), (planAt c.ord r c.tick).kinds.contains 3 = true) ∧ (manifestTypes img.manifest).contains (fld b 0 2) = true ∧
      t ≠ 0 ∧ k = (img.length + t - 1) / t ∧ k ≤ 56403 ∧ all = (placedIn c.ord (fld b 4 4 % 65536) (fld b 4 4 / 65536)).map Prod.fst ∧ ts = all.filter (fun n => plHw (Machine.placed c.ord n) == fld b 0 2)) ∧
    (∃ c : Calc, ∃ h ch x, chanOf c.ord h = some ch ∧ sessionOf c.ord h = some x ∧ ch.state = .running ∧ x.phase = 2) := by
  refine ⟨⟨air8, enc [(1, 3), (1, 0), (1, 1), (1, 3), (1, 0), (1, 14), (1, 32), (1, 6), (2, 2000), (2, 0xFFFE), (1, 63), (11, 0)], 3, quiet, _, by decide, by decide, by decide, by decide, by decide, by decide, by decide, by decide, by decide, by decide, by decide,
      by decide, by decide, by decide, by decide, by decide, rfl, air8_ok⟩,
    ⟨air8, enc [(1, 3), (3, 2)] ++ List.replicate 60 3, 3, slots0, _, by decide, by decide, by decide, by decide, by decide, rfl, air8_ok⟩,
    ⟨air8, [] ++ (le 4 f0 ++ (enc [(2, 400), (2, 8), (1, 0), (1, 2), (1, 4), (1, 6), (4, 10000), (2, 10), (2, 0), (1, 0), (1, 1), (1, 2), (1, 3), (1, 4), (1, 5), (1, 6), (1, 7)])), hop8, _, ?_, by decide, by decide, by decide, by decide, by decide, by decide,
      by decide, by unfold hop8; split <;> decide, by decide, by decide, by decide, rfl, air8_ok⟩,
    ⟨enc [(1, 3), (1, 0), (1, 40), (1, 236), (4, 0)], by decide⟩, ⟨pl9 air8 [10239], enc [(2, 10239), (6, 2)], _, rfl, by decide⟩,
    ⟨pl9 { air8 with ord := { air8.ord with air := { radios := List.replicate 4 { cfg := some quiet, plan := some ⟨1, List.replicate 60 1⟩ } } } } [10239], enc [(2, 10239), (6, 1), (1, 3), (1, 1), (1, 3), (1, 17), (2, 0xFF), (2, 4), (2, 3), (4, 0)], _, _, rfl, by decide, by decide, by decide, rfl, by decide⟩,
    ⟨enc [(4, 1), (4, 0xFFFFFFFF)], by decide⟩,
    ⟨{ air8 with ord := { air8.ord with channels := [chn 7 (.session { image := some ⟨56403, zeros 12 ++ enc [(4, 1), (2, 7)], []⟩ }) .configured] } }, enc [(2, 7), (1, 15), (1, 0), (2, 0), (2, 10239), (2, 10000), (4, 604800), (2, 0)], hd 7, _, _, _, _, _, _, _, rfl, rfl, rfl,
      by decide, by decide, by decide, by decide, by decide, by decide, by decide, by decide, by decide, by decide, rfl, by decide, by decide, by decide, rfl, by decide, rfl, rfl⟩,
    ⟨withCh [chn 7 (.session { phase := 2 })], hd 7, _, _, rfl, rfl, rfl, rfl⟩⟩
  have h := fld_le 4 [] (enc [(2, 400), (2, 8), (1, 0), (1, 2), (1, 4), (1, 6), (4, 10000), (2, 10), (2, 0), (1, 0), (1, 1), (1, 2), (1, 3), (1, 4), (1, 5), (1, 6), (1, 7)]) f0 f0_small
  exact congrArg (fun f => ({ hop8 with f0 := f } : HopPlan)) h.symm

/-! ### Commands that enter the waybill -/

/-- A packet of an opcode whose payload has the length the opcode asks for, zero throughout. -/
def zeroed (op : Nat) (path : Path := host) : Packet :=
  pk op (zeros (((opInfo op).bind (fun i => (List.range 133).find? (fun n => i.len (zeros n)))).getD 0)) deviceHandle path

def ordersB (op : Nat) (p : Packet) (s : State) : Bool :=
  p.opcode == op && served s p && (intakeCheck s p).isNone && !s.clerk.intake.any (fun w => w.cls == 1 && w.index == masterOf s p.path) &&
    (opInfo op).any (fun i => i.w) && s.mode.lifecycle != 4 && !orderingClosed s && (dupOf s (masterOf s p.path) p.seq).isNone && !quotaSpent s (entryOf s (waitingOf s p))

theorem orders {op : Nat} {p : Packet} {s : State} (h : ordersB op p s = true) : Orders op p s := by
  simp [ordersB] at h
  obtain ⟨⟨⟨⟨⟨⟨⟨⟨h1, h2⟩, h3⟩, h4⟩, h5⟩, h6⟩, h7⟩, h8⟩, h9⟩ := h
  exact ⟨⟨h1, h2, h3, by simpa using h4⟩, Option.any_eq_true .. |>.mp h5, h6, h7, h8, h9⟩

set_option maxRecDepth 20000 in
theorem test_meets_OrderedCommandsComplete : ∀ x ∈ orderedRows, ∃ p s, Orders x.2 p s := by
  have h : orderedRows.all (fun x => ordersB x.2 (zeroed x.2) live) = true := by decide
  exact fun x hx => ⟨zeroed x.2, live, orders (List.all_eq_true.mp h x hx)⟩

/-- A module that has ordered the command of sequence number 1 of master 0 in tick 1,000. -/
def ordered (released : Bool) : State :=
  { live with clerk := { live.clerk with dups := [{ master := 0, seq := 1, tick := 1000, entry := 0, released, reply := if released then some { path := host } else none }] } }

set_option maxRecDepth 20000 in
theorem test_meets_RetriesAreNotOrderedAgain :
    (∀ r ∈ [true, false], ∃ d : Dup, Taken 0x0303 (zeroed 0x0303) (ordered r) ∧ (ordered r).mode.lifecycle ≠ 4 ∧ orderingClosed (ordered r) = false ∧
      dupOf (ordered r) (masterOf (ordered r) (zeroed 0x0303).path) (zeroed 0x0303).seq = some d ∧ d.released = r ∧ d.reply.isSome = r) ∧
    (∃ s : State, ∃ d : Dup, d ∈ s.clerk.dups ∧ d.tick = 1000 ∧ s.clerk.tick = 3399) ∧ (dupOf { ordered true with clerk := { (ordered true).clerk with tick := 3399 } } 0 1).isSome = true ∧
    (dupOf { ordered true with clerk := { (ordered true).clerk with tick := 3400 } } 0 1) = none := by
  refine ⟨?_, ⟨{ ordered true with clerk := { (ordered true).clerk with tick := 3399 } }, _, List.mem_singleton.mpr rfl, rfl, rfl⟩, by decide, by decide⟩
  intro r hr
  refine ⟨_, ⟨rfl, ?_, ?_, ?_⟩, ?_, ?_, rfl, rfl, ?_⟩ <;> revert r <;> decide

theorem test_meets_HandleChecks :
    (∀ t ∈ [0, 10, 14, 15], handleCheck live.ord (.channel 0) (mkHandle t 1 5) = some .badHandle) ∧ handleCheck live.ord (.channel 1) (mkHandle 1 0 5) = some .badHandle ∧
    handleCheck live.ord .device (hd 1) = some .badHandle ∧ handleCheck live.ord .device deviceHandle = none ∧ handleCheck live.ord (.channel 1) deviceHandle = some .badHandle ∧
    handleCheck live.ord (.channel 9) (hd 9) = some .staleHandle ∧ handleCheck (live [grp]).ord (.channel 1) (mkHandle 1 2 5) = some .staleHandle ∧ handleCheck (live [grp]).ord (.channel 1) (mkHandle 2 1 5) = some .badHandle ∧
    handleCheck (live [grp]).ord (.channel 2) (hd 1) = some .badHandle ∧ handleCheck (live [grp]).ord (.channel 0) (hd 1) = none ∧ handleCheck (live [grp]).ord (.deviceOr 1) (hd 1) = none ∧
    (∃ p s i, Taken 0x0403 p s ∧ opInfo 0x0403 = some i ∧ s.boot.stage ≠ 2 ∧ s.mode.lifecycle ≠ 4 ∧ handleCheck s.ord i.handle p.handle = some .staleHandle) ∧
    (∃ i, opInfo 0x0401 = some i ∧ handleCheck (cmp {}).ord i.handle (hd 1) = some .staleHandle) :=
  ⟨by decide, by decide, by decide, by decide, by decide, by decide, by decide, by decide, by decide, by decide, by decide,
   ⟨pk 0x0403 [] (hd 1), live, _, ⟨rfl, by decide, by decide, by decide⟩, rfl, by decide⟩, ⟨_, rfl, by decide⟩⟩

/-- Between READY and the RESUME tick. -/
def early (stage : Nat) (s : State := live) : State := { s with clerk := {}, boot := { stage } }

set_option maxRecDepth 20000 in
theorem test_meets_BeforeTheResumeTick :
    (∃ p s, Taken 0x0303 p s ∧ s.mode.ready = true ∧ s.clerk.running = false ∧ s.mode.lifecycle ≠ 4) ∧ (∃ p s, Taken 0x0403 p s ∧ s.mode.ready = true ∧ s.boot.stage = 2 ∧ readsState 0x0403 = true) ∧
    (∃ p s, Executes 0x0002 p s ∧ s.boot.stage = 2) ∧ (∃ s : State, s.boot.stage = 3 ∧ s.mode.coppice = false ∧ s.clerk.running = false ∧ s.mode.role ≠ 2 ∧ s.time.state ≠ 0 ∧ s.clerk.lastTick < 1) :=
  ⟨⟨zeroed 0x0303, early 3, ⟨rfl, by decide, by decide, by decide⟩, by decide⟩, ⟨pk 0x0403 [] (hd 1), early 2, ⟨rfl, by decide, by decide, by decide⟩, by decide⟩,
   ⟨pk 0x0002 [7], early 2, executes (by decide), rfl⟩, ⟨early 3 { live with time := { state := 1 } }, by decide⟩⟩

/-- Contenders: an override of entry `n` of master `m`, an emergency or not, for one layer. -/
def cand (n m : Nat) (emergency : Bool := false) (layer : Nat := 7) : Contender :=
  { entry := n, master := m, packet := { pk 0x0420 (enc [(1, layer), (15, 0)]) (hd 1) host (if emergency then 1 else 0) with seq := n } }

theorem test_meets_ContradictionsAreSettled :
    (settle [2, 3, 0, 1, 4] [cand 0 3, cand 1 2, cand 2 0 true, cand 3 0 false 6]).1.map (·.entry) = [2, 3] ∧
    (settle [2, 3, 0, 1, 4] [cand 0 3, cand 1 2]).1.map (·.entry) = [1] ∧ (settle [2, 3, 0, 1, 4] [cand 0 2, cand 1 2]).1.map (·.entry) = [1] ∧
    (cand 65535 15 true).packet.emergency = true ∧ (cand 65535 15).packet.emergency = false ∧ rankOf [2, 3, 0, 1, 4] 15 = 15 ∧ rankOf [2, 3, 0, 1, 4] 4 = 4 ∧ rankOf [2, 3, 0, 1, 4] 2 = 0 := by decide

/-! ### Registers and rings -/

theorem test_meets_UnassignedOffsets :
    live.boot.stage ≠ 0 ∧ (∀ off ∈ [0x24, 0xFC, 0x110, 0x42C, 0x7FC, 0x1024, 0x1434, 0x160C, 0x2038, 0x211C, 0x2180, 0x3C18, 0xFFFC], off < 0x10000 ∧ off % 4 = 0) ∧
    (∀ off ∈ [0x24, 0xFC, 0x110, 0x42C, 0x7FC, 0x1024, 0x160C, 0x2038, 0x211C, 0x2180, 0x3C18, 0xFFFC], assignedOffset off = false) := by decide

theorem test_meets_ShadowedReads :
    live.boot.stage ≠ 0 ∧ live.clerk.tickShadow = none ∧ (∃ s : State, s.boot.stage ≠ 0 ∧ s.clerk.tickShadow = some 5) ∧ (∃ s : State, s.boot.stage ≠ 0 ∧ s.clerk.digestShadow = some (7, 3)) ∧ (1 ≤ 1 ∧ 7 ≤ 7) :=
  ⟨by decide, rfl, ⟨{ live with clerk := { live.clerk with tickShadow := some 5 } }, by decide⟩, ⟨{ live with clerk := { live.clerk with digestShadow := some (7, 3) } }, by decide⟩, by decide⟩

theorem test_meets_RingSetupAndStop :
    live.boot.stage ≠ 0 ∧ pcie live = true ∧ live.host.rings.length = 4 ∧ ringActive live 3 = false ∧ ringActive (ringed { enable := true }) 0 = true ∧ pcie (ringed { enable := true }) = true ∧ (ringed { enable := true }).host.rings.length = 4 ∧
    (ringOf live 0).enable = false ∧ bit 2 0 = false := by decide

/-! ### Rules of the chapters -/

def supplied (v : Int) : LoopEnv := { src := fun _ => none, owner := fun _ => 0, vbus := fun _ => v }
def lx : LoopSlot := { slow with comp := 2, bus := 0x28, coef := (List.replicate 12 0).set 9 4000 }

theorem test_meets_LxCompensation :
    lx.comp = 2 ∧ lx.queue = [] ∧ lx.k 0x0A = 4000 ∧ 4 * (supplied 1000).vbus 0 ≤ 4000 ∧ 4000 < 4 * (supplied 1001).vbus 0 ∧
    (lx.compute (supplied 1000) [] []).limited = true ∧ (lx.compute (supplied 1001) [] []).limited = false ∧ (lx.compute (supplied 65536000) [] []).limited = false ∧ (lx.compute (supplied 65536001) [] []).limited = true := by decide

theorem test_meets_DerateCurve :
    (∃ l : Lum, l.knee < l.max ∧ ((l.knee : Int) * 65536 < 80 * 65536 ∧ 80 * 65536 < (l.max : Int) * 65536) ∧ derateCurve l (l.knee * 65536) = 65536 ∧ derateCurve l (l.max * 65536) = 0) :=
  ⟨{ knee := 70, max := 110 }, by decide⟩

theorem test_meets_LeapYearsAndTheRangeEnd :
    (∃ s : State, s.rtc.now = { year := 2100, month := 2, day := 28, hour := 23, min := 59, sec := 59, sub := 32767 } ∧ s.rtc.weekday = 0) ∧
    (∃ s : State, s.rtc.now = { year := 2199, month := 12, day := 31, hour := 23, min := 59, sec := 59, sub := 32767 }) :=
  ⟨⟨clocked { now := { year := 2100, month := 2, day := 28, hour := 23, min := 59, sec := 59, sub := 32767 }, weekday := 0 }, rfl, rfl⟩,
   ⟨clocked { now := { year := 2199, month := 12, day := 31, hour := 23, min := 59, sec := 59, sub := 32767 } }, rfl⟩⟩

/-- An ESCORT channel with two travellers, and another that takes 1,016 of the 1,024. -/
def shared : Calc :=
  withCh [chn 3 (.escort { zoned with travellers := [{ trav with num := 1 }, { trav with num := 3 }] }), { handle := mkHandle 3 1 6, state := .running, body := .escort { allot := 1016 } }]

def escortBody (allot : Nat) : List Byte := enc [(2, 3000), (2, 250), (2, allot), (2, 100), (2, 32), (2, 0), (2, 2), (2, 0), (2, 0), (2, 4095)]

theorem test_meets_EscortAllotments :
    ∀ a ∈ [3, 8, 9], ∃ b h e links, escortOf shared.ord h = some e ∧ links = (List.range (fld b 12 2)).map (fun i => fld b (16 + 2 * i) 2) ∧ 3000 ≤ fld b 0 2 ∧ fld b 0 2 ≤ 12000 ∧ 250 ≤ fld b 2 2 ∧ fld b 2 2 ≤ 4000 ∧
      fld b 2 2 + 1000 ≤ fld b 0 2 ∧ fld b 4 2 = a ∧ 100 ≤ fld b 6 2 ∧ fld b 6 2 ≤ 5000 ∧ 32 ≤ fld b 8 2 ∧ fld b 8 2 ≤ 32768 ∧ fld b 10 1 ≤ 3 ∧ 1 ≤ fld b 12 2 ∧ fld b 12 2 ≤ 1024 ∧ (∀ l ∈ links, l ≤ 4095) ∧ links.eraseDups = links ∧
      otherAllotments shared.ord h = 1016 ∧ (∃ t ∈ e.travellers, 3 ≤ t.num) ∧ ∃ t ∈ e.travellers, t.num < 3 := by
  intro a ha
  refine ⟨escortBody a, hd 3, _, _, rfl, rfl, ?_⟩
  revert a
  decide

theorem test_meets_PrunerOverdue :
    (∃ s : State, s.store.limit < (s.uptime - s.store.lapStart) / 1000 ∧ s.store.overdue = false) ∧ (∃ s : State, (s.uptime - s.store.lapStart) / 1000 = s.store.limit) ∧
    (∃ s : State, s.store.offset + 8 = 262144 ∧ nextRegion s s.store.region = none) ∧ (∀ v ∈ [599, 86401], ∃ p s, Executes 0x0D03 p s ∧ fld p.payload 0 4 = v) := by
  refine ⟨⟨{ live with uptime := 7201000 }, by decide⟩, ⟨{ live with uptime := 7200999 }, by decide⟩, ⟨store { offset := 262136, region := 127 }, by decide⟩, ?_⟩
  intro v hv
  refine ⟨pk 0x0D03 (enc [(4, v), (4, 0)]), live, executes ?_, ?_⟩ <;> revert v <;> decide

theorem test_meets_StagingTarget :
    (∀ x ∈ [(3, 1), (4, 5), (1, 4)], ∃ s : State, (fwSlot s 0).state = x.1 ∧ (fwSlot s 1).state = x.2) ∧ (∃ s : State, (fwSlot s 0).state = 5 ∧ (fwSlot s 1).state = 5) ∧ (∃ s : State, (fwSlot s 0).state = 1 ∧ (fwSlot s 1).state = 5) ∧
    (∀ b ∈ [enc [(4, 0), (4, 512), (8, 0)], enc [(4, 0), (4, 29360128), (8, 0)], enc [(4, 1), (12, 0)], enc [(4, 2), (12, 0)]], ∃ p s k, Executes 0x1101 p s ∧ slotIn s 3 = some k ∧ p.payload = b ∧
      (fld p.payload 0 1 = 0 ∧ 512 ≤ fld p.payload 4 4 ∧ fld p.payload 4 4 ≤ 29360128 ∨ fld p.payload 0 1 = 1 ∨ fld p.payload 0 1 = 2 ∧ fld p.payload 8 1 = 0)) ∧
    (∃ t, exec (.imageBegin (pk 0x1101 (enc [(4, 0), (4, 512), (8, 0)]))) (fws 4 5) = .next t ∧ stageTarget (fws 4 5) = 1) ∧
    (∃ t, exec (.imageData (pk 0x1102 (enc [(8, 0), (1, 7)]))) (fws 4 1 { session := 2, slot := 1, total := 9 }) = .next t) := by
  refine ⟨fun x _ => ⟨fws x.1 x.2, rfl, rfl⟩, ⟨fws 5 5, rfl, rfl⟩, ⟨fws 1 5, rfl, rfl⟩, ?_, ⟨_, rfl, by decide⟩, ⟨_, rfl⟩⟩
  intro b hb
  refine ⟨pk 0x1101 b, fws 4 3, 1, executes ?_, by decide, rfl, ?_⟩ <;> revert b <;> decide

/-- A chunk at an offset, with its CRC. -/
def chunk (off : Nat) (data : List Byte) : List Byte := le 4 off ++ (le 4 (Config.crc32c data).toNat ++ data)
/-- Four bytes, 1, 2, 3 and 4, of a set of nine are held. -/
def half : State := { live with firmware := { session := 2, slot := 1, total := 9, slots := [{ state := 4 }, { state := 1, bytes := [1, 2, 3, 4] }], running := some 0 } }

theorem executes_chunk {off : Nat} {data : List Byte} (h : executesB 0x1102 (pk 0x1102 (le 4 off ++ (zeros 4 ++ data))) half = true) : Executes 0x1102 (pk 0x1102 (chunk off data)) half := by
  have hl : (chunk off data).length = (le 4 off ++ (zeros 4 ++ data)).length := by simp [chunk, le, zeros]
  exact executes (by
    rw [← h]; simp only [executesB, pk, served, intakeCheck, opInfo, opInfo11, hl]
    rfl)

theorem test_meets_ImageChunks :
    ∀ x ∈ [(4, [5]), (4, [5, 6, 7, 8, 9]), (0, [1, 2, 3, 4]), (3, [4]), (3, [5]), (3, [4, 5]), (5, [5])], ∃ p, Executes 0x1102 p half ∧ half.firmware.session = 2 ∧ (fwSlot half half.firmware.slot).bytes = [1, 2, 3, 4] ∧
      p.payload.drop 8 = x.2 ∧ fld p.payload 0 4 = x.1 ∧ fld p.payload 4 4 = (Config.crc32c x.2).toNat ∧ x.1 + x.2.length ≤ half.firmware.total := by
  intro x hx
  have h : executesB 0x1102 (pk 0x1102 (le 4 x.1 ++ (zeros 4 ++ x.2))) half = true ∧ x.1 < 256 ^ 4 ∧ x.1 + x.2.length ≤ 9 := by revert x; decide
  exact ⟨pk 0x1102 (chunk x.1 x.2), executes_chunk h.1, rfl, rfl, rfl, fld_le 4 [] _ x.1 h.2.1, fld_le 4 (le 4 x.1) x.2 _ (Config.crc32c x.2).isLt, h.2.2⟩

theorem test_meets_RepliesWithoutALink :
    (∃ r : Reply, r.path = head ∧ r.silent = false) ∧ linkUp live 0 = false ∧ (∃ p, Executes 0x0002 p live ∧ p.path = head ∧ p.noReply = false) ∧
    (∀ speed, speed < 3 → ∃ s : State, s.bhLink.getD 1 0 ≠ speed ∧ 2 ≤ s.boot.stage) :=
  ⟨⟨{ path := head }, rfl, rfl⟩, by decide, ⟨pk 0x0002 [7] deviceHandle head, executes (by decide), rfl, by decide⟩,
   fun speed _ => match speed with
     | 0 => ⟨{ live with bhLink := [0, 2] }, by decide⟩
     | n + 1 => ⟨{ live with bhLink := [0, 0] }, by simp [live]⟩⟩

theorem test_meets_GuestbookKeepsThePermanentArea :
    (∃ s t : State, ∃ r, exec .guestbookDrain s = .next t ∧ r ∈ s.gbk.stored ∧ r.seq ≤ 4096) ∧ (∃ s t : State, ∃ r, exec (.guestbookRecordEntry 0x1105 0xFF []) s = .next t ∧ r ∈ s.gbk.stored ∧ r.seq ≤ 4096) :=
  ⟨⟨{ live with gbk := { next := 4097, stored := [{ seq := 4096, kind := 1 }] } }, _, _, rfl, List.mem_singleton.mpr rfl, by decide⟩,
   ⟨{ live with gbk := { next := 2, stored := [{ seq := 1, kind := 1 }] } }, _, _, rfl, List.mem_singleton.mpr rfl, by decide⟩⟩

theorem test_meets_IntervalBoundaries :
    (∃ m : Meter, m.length = 15 ∧ intervalBoundary live.ord m 3620 = true ∧ intervalBoundary live.ord m 3616 = false) ∧ live.ord.leap61 = false ∧ live.ord.leap59 = false ∧
    (∃ o : Ordered, ∃ n, o.leap61 = true ∧ unixOfTick n o.utc - 946684800 = o.leapEnd) :=
  ⟨⟨{}, by decide⟩, rfl, rfl, ⟨{ leap61 := true, utc := 32 }, 0, rfl, by decide⟩⟩

theorem test_meets_StepRunsFront : ∃ c rest, ∃ s : State, s.pending = c :: rest := ⟨.guestbookDrain, [], { live with pending := [.guestbookDrain] }, rfl⟩

theorem test_meets_QueueOnlyConsumed :
    (∃ t, exec .guestbookDrain live = .next t) ∧ (∃ t, step { live with pending := [.guestbookDrain] } = .next t) ∧ live.pending = [] := ⟨⟨_, rfl⟩, ⟨_, rfl⟩, rfl⟩

theorem test_meets_InvKept : ∃ s t : State, Inv s ∧ step s = .next t ∧ s.pending ≠ [] := by
  refine ⟨{ live with pending := [.guestbookDrain] }, _, ⟨⟨rfl, ?_⟩, ⟨by decide, by decide, by decide⟩, by decide, by decide, by decide⟩, rfl, by simp⟩
  intro c hc
  rw [List.eq_of_mem_replicate hc]
  decide

/-! ### Ill-formed commands are refused -/

theorem test_wf_packet : (Instr.deviceInfo (pk 1)).wf = true ∧ (Instr.echo (pk 2 [1, 2, 3])).wf = true := by decide
theorem test_ill_formed_packets :
    [{ pk 1 with version := 256 }, { pk 1 with flags := 256 }, { pk 1 with opcode := 65536 }, { pk 1 with tag := 256 }, { pk 1 with length := 65536 }, { pk 1 with seq := 2 ^ 32 }, { pk 1 with payload := [1] }].all
      (fun p => !(Instr.deviceInfo p).wf) = true := by decide
theorem test_ill_formed_accesses :
    [Instr.registerWrite 65536 0 4, .registerWrite 0 (2 ^ 32) 4, .registerWrite 0 0 3, .registerShadowRead 65536 4, .registerShadowRead 0 8, .shadowTimeout 65536, .spiLinkStatus 256, .ringCtlEnable 4 0, .ringCtlEnable 0 (2 ^ 32),
      .ringCtlDisable 4 0, .cmdTailDoorbell 4 0, .descriptorFetch 4 (zeros 32) (some []), .descriptorFetch 0 (zeros 31) (some []), .completionWrite 4, .cmpHeadAdvance 4 0, .ringModerationTimeout 4,
      .mbxPost 16 0, .mbxDiscard 16 0, .mbxIack 16, .mbxOutboundPost 16, .mbxOack 16 0, .mbxAged 16, .gbkCtlFreeze (2 ^ 32), .gbkSelWrite (2 ^ 32), .cntCfgWrite 32 0, .counterClear 32 0, .cntCtlSnap (2 ^ 32), .cntCtlSnapClear (2 ^ 32)].all (fun c => !c.wf) = true := by decide
theorem test_ill_formed_events :
    [Instr.dataMoveComplete 4096 [], .stileResend 48, .refreshDue 8192, .luminaireFallback 8, .comparatorTrip 24, .pulseOutEdge 4, .pulseOutEnd 4, .pulseBacklogAged 4, .intervalClose 8, .balanceClose 8, .radioAlertExpiry 4,
      .receiveWindowTimeout 4 0 0, .receiveWindowTimeout 0 20 0, .changeInstant 4, .primaryReturnMove 8192, .baseHoldover 2, .announceReceiptTimeout 2 0, .announceReceiptTimeout 0 2, .rtcTrimRegisterWrite (2 ^ 32), .rtcWakeWrite (2 ^ 32),
      .prunerBurst (List.replicate 7 0) .free, .linkStateChange 2 0, .linkStateChange 0 3, .boundaryScanInstruction 32].all (fun c => !c.wf) = true := by decide

/-! ### Numbers the specification works out itself -/

/-- Chapter 3, decoding a handle: 0x3002_A07B is TYPE 3, generation 42, slot 123; the next generation of the slot is handle 0x3002_B07B. -/
theorem test_handle_fields : hType 0x3002A07B#32 = 3 ∧ hGen 0x3002A07B#32 = 42 ∧ hSlot 0x3002A07B#32 = 123 ∧ mkHandle 3 43 123 = 0x3002B07B#32 := by decide

/-- Chapter 2, locating a past decision: second 826,769,647 after 2000-01-01 in UTC is that of tick 3,307,078,610 with a UTC offset of 37 s. -/
theorem test_tick_to_utc : unixOfTick 3307078610 37 = 946684800 + 826769647 ∧ 3307078610 % 4 = 2 := by decide

/-- Chapter 5, two overrides in one tick: master 3 stands above master 0 under the default rank, although its entry is the later. -/
theorem test_two_overrides : (settle State.reset.ord.rank [cand 12 0, cand 31 3]).1.map (·.entry) = [31] := by decide

/-- Chapter 5, two overrides in one tick: the 20 bytes of the losing command's reply. -/
theorem test_superseded_reply :
    Reply.bytes { path := host, opcode := 0x0420, tag := 17, status := Status.superseded.code, handle := 0x10034029#32, tick := 3307078610, payload := supersededPayload (cand 31 3) } =
      [0x03, 0x08, 0x20, 0x04, 0x11, 0x02, 0x04, 0x00, 0x29, 0x40, 0x03, 0x10, 0xD2, 0x03, 0x1E, 0xC5, 0x03, 0x00, 0x1F, 0x00] := by decide

/-- Chapter 7 Table 4: the rise of lantern 4,120 from 300 ‰ and its reversal, P at B0 to B0 + 4. -/
theorem test_ramp_reversal :
    let up := ({ p := 76800, t := 300 } : LevelRec).install 1000 37
    let b3 := (up.advance.advance.advance).install 300 16
    [up.p, up.advance.p, up.advance.advance.p, b3.p, b3.advance.p] = [76800, 102400, 128000, 153600, 153398] := by decide

/-- Chapter 8, the cyclist lead: a measured 5,000 mm/s with e = 2,870 ms spans −1,570 cm to 5,300 cm. -/
theorem test_escort_band :
    let p : Profile := ⟨800, 5300, 2000, 1500, 1500, 5000, 8000⟩
    let e : Escort := { horizon := 8000, profiles := [p, p, p] }
    let t : Traveller := { num := 0, cls := 1, link := 1, chainage := 0, t0 := 1001000000 - 2870000, known := true, vest := 5000, measured := true, hint := false, created := 0, hyps := [] }
    e.vhi t = 6250 ∧ e.band 4000 t = (-1570, 5300) := by decide

/-- Chapter 10, a warm luminaire at 400 ‰: the drive fractions at 90 °C, the derating factor, and the split into pulses. -/
theorem test_warm_luminaire :
    let l : Lum := { mix := [1000, 0, 500], knee := 85, max := 105, tables := [List.replicate 16 14746, List.replicate 16 16384, List.replicate 16 9011] }
    driveFractions l 102400 (90 * 65536) = ([29126, 0, 23831], false) ∧ derateCurve l (90 * 65536) = 49152 ∧
    splitFraction 21844 = (341, 65536) ∧ splitFraction 17873 = (279, 65536) ∧ splitFraction 3000 = (128, 24000) := by decide

/-- Chapter 12 Table 3: 75,000 µWh in a cycle of 320 samples cross at samples 107, 214 and 320 of cycles 14, 27 and 40. -/
theorem test_pulse_crossings :
    let out := fun (r : Nat) => pulseCycle 3 [75000 * 65536, 0, 0, 0, 0] 320 { cfg := { enable := true, mask := 8, k := 1000 }, r := r * 65536000 }
    [975000, 950000, 925000].map (fun r => ((out r).due, (out r).r / 65536000)) = [([107], 50000), ([214], 25000), ([320], 0)] ∧ (out 0).due = [] := by decide

/-- Chapter 9 Table 5: the feeder cap loop in tick n, and in tick m + 91 at 336.0 kW·ticks, in 1/65,536 of ‰. -/
theorem test_feeder_cap :
    let x : LoopSlot := { slow with coef := [0x0A000000, 0x02000000, 0, 0, 200 * 65536, 1000 * 65536, 0, 0, 0, 0, 0, 0], c := 16384 }
    (({ x with p := 30 * 65536, i := 471 * 65536 }).output.uRaw = 972 * 65536) ∧ ({ x with p := 60 * 65536, i := 471 * 65536 }).output.satHi = true ∧
    ({ x with coef := x.coef.set 1 0x03000000, p := -15 * 65536, i := 337 * 65536 + 32768 }).output.uRaw = 997 * 65536 + 32768 := by decide

/-- Chapter 9, converting PI coefficients: KI of 0.0175 on one sample of 6,553 gives T = 114, KP of 0.35 gives P = 2,293. -/
theorem test_pi_conversion : asr (293601 * 6553) 24 = 114 ∧ asr (5872026 * 6553) 24 = 2293 := by decide

set_option maxRecDepth 100000 in
/-- Chapter 13, a slot plan at 10 %: one field frame and 5 data slots take 9,834, entries 48. -/
theorem test_slot_plan_share :
    let c : RadioCfg := { on := true, family := 1, rate := 2, option := 0, flags := 0, preamble := 8, level := 5, guard := 500, pan := 1, key := 1 }
    let p : SlotPlan := ⟨1, ((List.replicate 4 (List.replicate 5 1 ++ List.replicate 10 2)).flatten)⟩
    airTime c 60 = 11520 ∧ fixedSum c p / 30 = 9834 ∧ entriesPer c = 48 := by decide

/-- Chapter 14, encoding four entries: the payload begins 32 15 10, and its words. -/
theorem test_field_entries :
    fieldPayload (cyclicOrder [(100, 0, 0), (4117, 800, 37), (4120, 800, 37), (7900, 300, 16)]) =
      [0x32, 0x15, 0x10, 0x00, 0x00, 0x72, 0x09, 0x03, 0x00, 0x72, 0x09, 0xC4, 0xCE, 0x12, 0x04, 0x88, 0x01, 0x00, 0x00] := by decide

/-! ### Steps -/

/-- A step on the queue: ECHO answers its payload, after a header of 16 bytes (ch. 5), on the open connection of the service port. -/
theorem test_step_echo : ∃ t, step { live with pending := [.echo (pk 0x0002 [7, 8])], paths := { serviceOpen := true } } = .next t ∧ t.pending = [] ∧ t.paths.sent.map (fun (f : Sent) => f.bytes.drop 16) = [[7, 8]] :=
  ⟨_, rfl, by decide⟩

/-- The calendar commits nothing of an ill date (R340): DATE_ERR stands and the time goes on. -/
theorem test_bad_date : ∃ t, exec .rtcCommit (clocked { commits := [(.staging, { year := 2023, month := 2, day := 29 })] }) = .next t ∧ t.rtc.now = {} ∧ t.rtc.dateErr = true := ⟨_, rfl, by decide⟩

/-! ### Store events (R352 to R354, R365) -/

/-- Two digest records, the second in a block that fails. -/
def fadedLog : State :=
  { live with clerk := { live.clerk with records := [{ tick := 997, d := 1, o := 2 }, { tick := 998, d := 3, o := 4 }] }, store := { live.store with logBad := [.digest 998] } }

theorem test_meets_WaybillCommandsComplete_log :
    ∃ p s rs r, ∃ rest : List DigestRec, Executes 0x0211 p s ∧ fld p.payload 8 1 ≠ 0 ∧ fld p.payload 8 1 ≤ 63 ∧ digestRun s.clerk (fld p.payload 8 1) (fld p.payload 0 8) = rs ++ r :: rest ∧ rs ≠ [] ∧
      (∀ x ∈ rs, s.store.logBad.contains (.digest x.tick) = false) ∧ s.store.logBad.contains (.digest r.tick) = true :=
  ⟨pk 0x0211 (enc [(8, 997), (1, 2), (7, 0)]), fadedLog, [{ tick := 997, d := 1, o := 2 }], { tick := 998, d := 3, o := 4 }, [], executes (by decide), by decide⟩

theorem test_meets_MeteringCommandsComplete_log :
    ∃ p s, ∃ x : LogPart, Executes 0x0822 p s ∧ p.handle = deviceHandle ∧ fld p.payload 0 1 ≤ 7 ∧ fld p.payload 1 1 = 2 ∧ 1 ≤ fld p.payload 2 1 ∧ fld p.payload 2 1 ≤ 30 ∧
      (((((meterOf s.rel (fld p.payload 0 1)).intervals.filter (fun r => fld p.payload 4 4 ≤ r.1)).take (fld p.payload 2 1)).map (fun r => LogPart.interval (fld p.payload 0 1) r.1)).find? s.store.logBad.contains) = some x :=
  ⟨pk 0x0822 (enc [(1, 7), (1, 2), (2, 30), (4, 1)]), { metered with store := { metered.store with logBad := [.interval 7 1] } }, .interval 7 1, executes (by decide), by decide⟩

/-- R365: DIGEST_READ that meets such a block first answers RANGE, for the record counts as absent. -/
theorem test_digest_absent : (cmdDigestRead (pk 0x0211 (enc [(8, 998), (1, 1), (7, 0)])) fadedLog).2.status = .range := by decide

/-- R354 Table 6: a partial write on poison counts event source 0x1A6 and taints its writer; a full write clears the poison. -/
theorem test_poison :
    (storeEvent (.merge 40 7 3 (.device 1)) live).store.taint = [0xF0000001] ∧
      ((storeEvent (.overwrite 40 7) (storeEvent (.read 40 7 2 .free) live)).store.regions[40]?).map (·.poison) = some [] := by decide

end Sys2Proof.Tests
end

namespace Sys2Proof.Machine

/-!
Proofs of chapter 2: commands that enter the waybill and their retries (O33, O34), and the shadowed reads of the tick number and
of the waybill digest (O44).
-/

/-! ### The rows of commands that enter the waybill -/

/-- Each of the 48 rows hands its packet to the clerk under its own opcode (R103). -/
theorem exec_orderedRow : ∀ x ∈ orderedRows, ∀ (p : Packet) (s : State), exec (x.1 p) s = .next (submitW x.2 p s) := by
  unfold orderedRows
  simp only [List.cons_append, List.nil_append, List.forall_mem_cons, List.not_mem_nil, false_implies, implies_true, and_true]
  and_intros <;> exact fun _ _ => rfl

set_option maxRecDepth 20000 in
/-- The opcode table says of each of the 48 rows that it enters the waybill. -/
theorem orderedRow_enters {x : (Packet → Instr) × Nat} (hx : x ∈ orderedRows) : ∃ i, opInfo x.2 = some i ∧ i.w = true := by
  have h : orderedRows.all (fun x => (opInfo x.2).any (·.w)) = true := by decide
  exact Option.any_eq_true .. |>.mp (List.all_eq_true.mp h x hx)

/-! ### Placing a command in the open waybill (R20, R28, R99) -/

theorem placeEntry_clerk (e : Entry) (s : State) : (placeEntry e s).clerk = { s.clerk with open_ := s.clerk.open_ ++ [e] } := rfl

/-- A command that has not waited and is no retry is placed last, remembered and accepted. -/
theorem orderCommand_fresh {w : Waiting} {p : Packet} {s : State} (hw : w.held = 0) (h : dupOf s (masterOf s p.path) p.seq = none) :
    orderCommand w p s = sendAccepted p false { s with
      clerk := { s.clerk with
        open_ := s.clerk.open_ ++ [entryOf s w]
        dups := s.clerk.dups ++ [{ master := masterOf s p.path, seq := p.seq, tick := s.clerk.tick, entry := s.clerk.open_.length }] }
      cnt := (count 0x070 (count 0x001 s)).cnt } := by
  simp only [orderCommand, h, hw, Nat.lt_irrefl, if_false, decide_false, count_leaves, placeEntry_clerk, List.length_append, List.length_singleton, Nat.add_sub_cancel]
  rfl

/-- Settles O33: every row submits its packet, the clerk takes it at once, and an order which is no retry is placed last. -/
theorem orderedCommandsComplete : Obligations.OrderedCommandsComplete := by
  intro x hx p s h
  have fresh : dupOf (takeTag p s) (masterOf (takeTag p s) p.path) p.seq = none := by
    rw [masterOf_takeTag]; exact h.fresh
  have placed := orderCommand_fresh (w := waitingOf s p) rfl fresh
  rw [masterOf_takeTag] at placed
  rw [exec_orderedRow x hx, submitW_orders h]
  exact congrArg _ placed

/-! ### What a reply leaves as it was -/

/-- A datagram of the remote path reaches neither the clerk nor what the waybill orders. -/
@[simp] theorem sendRemote_leaves (port slot addr udp : Nat) (body : List Byte) (s : State) :
    (sendRemote port slot addr udp body s).clerk = s.clerk ∧ (sendRemote port slot addr udp body s).ord = s.ord := by
  unfold sendRemote
  dsimp only
  split <;> simp

/-- No reply, on whatever path, reaches the clerk or what the waybill orders. -/
@[simp] theorem sendReply_leaves (r : Reply) (s : State) : (sendReply r s).clerk = s.clerk ∧ (sendReply r s).ord = s.ord := by
  unfold sendReply
  split <;> (repeat' split) <;> simp

@[simp] theorem sendAccepted_leaves (p : Packet) (wasHeld : Bool) (s : State) : (sendAccepted p wasHeld s).clerk = s.clerk ∧ (sendAccepted p wasHeld s).ord = s.ord := by
  unfold sendAccepted
  dsimp only
  split
  case h_1 | h_2 | h_3 => simp
  case h_4 | h_5 | h_6 => split <;> simp

/-! ### Retries (R28) -/

/-- A line of R28's table takes note of a retry that waits for the reply of ordering `d`. -/
def awaitReply (p : Packet) (d x : Dup) : Dup := if x.master == d.master && x.seq == d.seq then { x with waiters := x.waiters ++ [p] } else x

@[simp] theorem awaitReply_line (p : Packet) (d x : Dup) : (awaitReply p d x).master = x.master ∧ (awaitReply p d x).seq = x.seq := by
  unfold awaitReply
  split <;> exact ⟨rfl, rfl⟩

theorem mem_waiters_awaitReply (p : Packet) {d x : Dup} (hm : x.master = d.master) (hs : x.seq = d.seq) : p ∈ (awaitReply p d x).waiters := by
  simp [awaitReply, hm, hs]

/-- The first ordering is released: its reply goes out again, on the path and under the tag of the retry. -/
theorem repeatReply_released {d : Dup} {r : Reply} (hd : d.released = true) (hr : d.reply = some r) (p : Packet) (s : State) :
    repeatReply p d s = sendReply { r with path := p.path, flags := p.flags % 4, tag := p.tag, silent := p.noReply } (markAnswered p.path p.tag (count 0x004 s)) := by
  simp only [repeatReply, hd, hr]

/-- No reply can be sent again yet: the retry is accepted, and waits. -/
theorem repeatReply_waits {d : Dup} (h : d.released = false ∨ d.reply = none) (p : Packet) (s : State) :
    repeatReply p d s = sendAccepted p false { count 0x004 s with clerk := { s.clerk with dups := s.clerk.dups.map (awaitReply p d) } } := by
  unfold repeatReply
  split
  case h_1 r hd hr => simp [hd, hr] at h
  case h_2 => rfl

/-- A retry reaches neither the open waybill nor what the waybill orders. -/
theorem repeatReply_leaves (p : Packet) (d : Dup) (s : State) : (repeatReply p d s).clerk.open_ = s.clerk.open_ ∧ (repeatReply p d s).ord = s.ord := by
  by_cases h : d.released = false ∨ d.reply = none
  · simp [repeatReply_waits h]
  · obtain ⟨hd, hr⟩ := not_or.mp h
    obtain ⟨r, hr⟩ := Option.ne_none_iff_exists'.mp hr
    simp [repeatReply_released (by simpa using hd) hr]

/-- While the first ordering awaits its release, every line of R28's table that stands for it holds the retry. -/
theorem mem_waiters_repeatReply {d : Dup} (hd : d.released = false) (p : Packet) (s : State) {y : Dup} (hy : y ∈ (repeatReply p d s).clerk.dups)
    (hm : y.master = d.master) (hs : y.seq = d.seq) : p ∈ y.waiters := by
  rw [repeatReply_waits (.inl hd), (sendAccepted_leaves ..).1] at hy
  obtain ⟨x, -, rfl⟩ := List.mem_map.mp hy
  rw [(awaitReply_line ..).1] at hm
  rw [(awaitReply_line ..).2] at hs
  exact mem_waiters_awaitReply p hm hs

/-- A packet that its path hands on with nothing ahead of it stands at the head of its master's stile, where the clerk takes it. -/
theorem submit_taken {op : Nat} {p : Packet} {s : State} (h : Taken op p s) (f : Packet → State → State × Ans) :
    submit op f p s = acceptHead (runNow f) 1 (masterOf s p.path) (enqueue p s) := by
  have hp : { p with opcode := op } = p := by rw [← h.opcode]
  simp only [submit, hp, h.served, h.passes, h.alone, if_true, Bool.false_eq_true, if_false]

/-- A command that R28's table knows is answered as a retry, whatever room its master's quota has. -/
theorem submitW_retry {op : Nat} {p : Packet} {s : State} {d : Dup} (h : Taken op p s) (enters : ∃ i, opInfo op = some i ∧ i.w = true) (hl : s.mode.lifecycle ≠ 4)
    (ho : orderingClosed s = false) (hd : dupOf s (masterOf s p.path) p.seq = some d) : submitW op p s = repeatReply p d (takeTag p s) := by
  obtain ⟨i, hi, hw⟩ := enters
  have known : dupOf (takeTag p s) (masterOf s p.path) p.seq = some d := hd
  rw [submitW, submit_taken h, acceptHead_enqueue h _ i hi, hw]
  simp [hl, ho, hd, orderCommand, known]

/-- The line that a command meets is one of its master and sequence number, at most 2,399 ticks old. -/
theorem dupOf_eq_some {s : State} {m q : Nat} {d : Dup} (h : dupOf s m q = some d) : d ∈ s.clerk.dups ∧ d.master = m ∧ d.seq = q ∧ s.clerk.tick < d.tick + 2400 := by
  have meets := List.find?_some h
  simp only [Bool.and_eq_true, beq_iff_eq, decide_eq_true_eq] at meets
  obtain ⟨⟨hm, hq⟩, ht⟩ := meets
  exact ⟨List.mem_of_find?_eq_some h, hm, hq, ht⟩

/-- Any such line is enough for a command to count as a retry. -/
theorem dupOf_isSome {s : State} {d : Dup} (h : d ∈ s.clerk.dups) (ht : s.clerk.tick < d.tick + 2400) : (dupOf s d.master d.seq).isSome = true :=
  List.find?_isSome.mpr ⟨d, h, by simpa using ht⟩

/-- Settles O34: a retry goes to `repeatReply`, which leaves the waybill alone; and `dupOf` finds the lines of the last 2,400 ticks and no others. -/
theorem retriesAreNotOrderedAgain : Obligations.RetriesAreNotOrderedAgain := by
  refine ⟨fun x hx p s d h hl ho hd => ?_, fun s m q d h hm hq ht => ?_, fun s m q d h => dupOf_eq_some h⟩
  · have retry := submitW_retry h (orderedRow_enters hx) hl ho hd
    obtain ⟨opened, ordered⟩ := repeatReply_leaves p d (takeTag p s)
    exact ⟨repeatReply p d (takeTag p s), by rw [exec_orderedRow x hx, retry], opened, ordered,
      fun r hd hr => repeatReply_released hd hr p _, fun hd y hy hm hs => mem_waiters_repeatReply hd p _ hy hm hs⟩
  · subst hm hq
    exact dupOf_isSome h ht

/-! ### Reads of the host window: what reaches the clerk (R39) -/

/-- What has risen to an enabled interrupt is signalled without a trace in the clerk or in the value read. -/
@[simp] theorem signal_leaves (s : State) : (signal s).clerk = s.clerk ∧ (signal s).host.readValue = s.host.readValue := by
  unfold signal
  dsimp only
  split <;> simp

@[simp] theorem loadSel_clerk (seq : Nat) (s : State) : (loadSel seq s).clerk = s.clerk := by
  unfold loadSel readRec
  dsimp only
  split
  · split <;> simp
  · simp

@[simp] theorem readCntVal_clerk (off : Nat) (s : State) : (readCntVal off s).2.clerk = s.clerk := by
  unfold readCntVal
  dsimp only
  split
  · simp
  · split
    · split <;> simp
    · rfl

@[simp] theorem readAperture_clerk (off size : Nat) (s : State) : (readAperture off size s).2.clerk = s.clerk := by
  unfold readAperture
  dsimp only
  split
  · rfl
  · simp [mbxViolation]

theorem rtcRead_clerk (reg : Nat) (s : State) : (rtcRead reg s).2.clerk = s.clerk := rfl

/-! One equation per register of R39. -/

theorem readShadowed_tickLo (s : State) :
    readShadowed 0x2800 s = (tickNow s % 2 ^ 32, { s with clerk := { s.clerk with tickShadow := some (tickNow s / 2 ^ 32 % 2 ^ 32) } }) := by
  simp [readShadowed, readWbl, bits, modClerk]

theorem readShadowed_tickHi (s : State) :
    readShadowed 0x2804 s = (s.clerk.tickShadow.getD (tickNow s / 2 ^ 32 % 2 ^ 32), { s with clerk := { s.clerk with tickShadow := none } }) := by
  simp [readShadowed, readWbl, bits, modClerk]

theorem readShadowed_digestLo (s : State) :
    readShadowed 0x2820 s = (s.clerk.lastD.toNat % 2 ^ 32, { s with clerk := { s.clerk with digestShadow := some (s.clerk.lastD, s.clerk.lastTick) } }) := by
  simp [readShadowed, readWbl, bits, modClerk]

theorem readShadowed_lastTick (s : State) :
    readShadowed 0x2840 s = ((s.clerk.digestShadow.getD (s.clerk.lastD, s.clerk.lastTick)).2 % 2 ^ 32, { s with clerk := { s.clerk with digestShadow := none } }) := by
  simp [readShadowed, bits, modClerk]

section elsewhere

/-! Every offset but the four whose reads load or release a shadow of the tick number or of the digest. -/

variable {off : Nat} (h1 : off ≠ 0x2800) (h2 : off ≠ 0x2804) (h3 : off ≠ 0x2820) (h4 : off ≠ 0x2840)
include h1 h2 h3 h4

/-- The words of the digest between its first and the tick number hold the shadow as it is. -/
theorem readShadowed_digestWord (s : State) :
    readShadowed off s = (bits (s.clerk.digestShadow.getD (s.clerk.lastD, s.clerk.lastTick)).1.toNat (8 * (off - 0x2820)) 32, s) := by
  simp [readShadowed, h1, h2, h3, h4]

/-- A read of any other register leaves the clerk as it was. -/
theorem readReg_clerk (s : State) : (readReg off s).2.clerk = s.clerk := by
  unfold readReg
  split
  · exact rtcRead_clerk _ s
  split
  · simp only [apply_ite State.clerk, loadSel_clerk, ite_self]
  split
  · exact readCntVal_clerk off s
  split
  · rw [readShadowed_digestWord h1 h2 h3 h4]
  · rfl

/-- A host read at any other offset, well-formed or not, leaves the clerk as it was. -/
theorem registerShadowRead_elsewhere (size : Nat) (s : State) :
    ∃ t, exec (.registerShadowRead off size) s = .next t ∧ t.clerk = s.clerk := by
  have unfolded : exec (.registerShadowRead off size) s = execRegisterShadowRead off size s := rfl
  rw [unfolded, execRegisterShadowRead]
  split
  · exact ⟨s, rfl, rfl⟩
  split
  · exact ⟨_, rfl, by simp [badAccess]⟩
  · refine ⟨_, rfl, ?_⟩
    simp only [signal_leaves, modHost_leaves]
    split
    · exact readAperture_clerk off size s
    · exact readReg_clerk h1 h2 h3 h4 s

end elsewhere

/-- A 32-bit read of a tick or digest register returns what `readShadowed` says, and leaves the clerk as it says. -/
theorem registerShadowRead_shadowed {off : Nat} {s : State} (hs : s.boot.stage ≠ 0) (h : off = 0x2800 ∨ off = 0x2804 ∨ (0x2820 ≤ off ∧ off ≤ 0x2840)) (h4 : off % 4 = 0) :
    ∃ t, exec (.registerShadowRead off 4) s = .next t ∧ t.host.readValue = (readShadowed off s).1 ∧ t.clerk = (readShadowed off s).2.clerk := by
  have inWindow : off < 0x10000 := by omega
  have pastCalendar : ¬ off ≤ 0x2020 := by omega
  have pastGuestbook : off ≠ 0x217C := by omega
  have pastCounters : ¬ off < 0x2400 := by omega
  have pastApertures : ¬ off < 0x1600 := by omega
  have listed : (off == 0x2800 || off == 0x2804 || (0x2820 ≤ off && off ≤ 0x2840)) = true := by simpa [or_assoc] using h
  have good : goodAccess s off 4 = true := by simp [goodAccess, inWindow, h4]
  have reg : inAperture off = false := by simp [inAperture, pastApertures]
  have shadowed : readReg off s = readShadowed off s := by simp [readReg, listed, pastCalendar, pastGuestbook, pastCounters]
  have unfolded : exec (.registerShadowRead off 4) s = execRegisterShadowRead off 4 s := rfl
  refine ⟨signal (modHost (fun h => { h with readValue := (readShadowed off s).1 }) (readShadowed off s).2), ?_, by simp [modHost], by simp⟩
  simp [unfolded, execRegisterShadowRead, hs, good, reg, shadowed, signalled]

/-- Settles O44: each shadowed register's read is `readShadowed` at its offset; every other read leaves the clerk alone. -/
theorem shadowedReads : Obligations.ShadowedReads := by
  intro s hs
  refine ⟨?tickLo, ?tickHiHeld, ?tickHiLive, ?digestLo, fun d n held => ⟨fun k hk hk' => ?digestWord, ?lastTick⟩, fun off h1 h2 h3 h4 => ?elsewhere, ⟨_, rfl, rfl⟩, ⟨_, rfl, rfl⟩⟩
  case tickLo =>
    obtain ⟨t, hx, hv, hc⟩ := registerShadowRead_shadowed hs (off := 0x2800) (by simp) rfl
    rw [readShadowed_tickLo] at hv hc
    exact ⟨t, hx, hv, by rw [hc]⟩
  case tickHiHeld =>
    intro h held
    obtain ⟨t, hx, hv, hc⟩ := registerShadowRead_shadowed hs (off := 0x2804) (by simp) rfl
    rw [readShadowed_tickHi, held] at hv hc
    exact ⟨t, hx, hv, by rw [hc]⟩
  case tickHiLive =>
    intro held
    obtain ⟨t, hx, hv, -⟩ := registerShadowRead_shadowed hs (off := 0x2804) (by simp) rfl
    rw [readShadowed_tickHi, held] at hv
    exact ⟨t, hx, hv⟩
  case digestLo =>
    obtain ⟨t, hx, hv, hc⟩ := registerShadowRead_shadowed hs (off := 0x2820) (by simp) rfl
    rw [readShadowed_digestLo] at hv hc
    exact ⟨t, hx, hv, by rw [hc]⟩
  case digestWord =>
    have word : 8 * (0x2820 + 4 * k - 0x2820) = 32 * k := by omega
    obtain ⟨t, hx, hv, hc⟩ := registerShadowRead_shadowed hs (off := 0x2820 + 4 * k) (by omega) (by omega)
    rw [readShadowed_digestWord (by omega) (by omega) (by omega) (by omega), held, word] at hv hc
    exact ⟨t, hx, hv, by rw [hc]; exact held⟩
  case lastTick =>
    obtain ⟨t, hx, hv, hc⟩ := registerShadowRead_shadowed hs (off := 0x2840) (by simp) rfl
    rw [readShadowed_lastTick, held] at hv hc
    exact ⟨t, hx, hv, by rw [hc]⟩
  case elsewhere =>
    obtain ⟨t, hx, hc⟩ := registerShadowRead_elsewhere h1 h2 h3 h4 4 s
    exact ⟨t, hx, by rw [hc], by rw [hc]⟩

end Sys2Proof.Machine

namespace Sys2Proof.Machine

/-!
Proofs of chapter 3: the checks on a handle (O35); and what reset leaves (O58).
-/

/-! ### Checks 1 and 2 of R45: the handle, and what the opcode takes -/

/-- A handle that no channel and no device command can bear (R45 Table 3, check 1): type 0 or 10 to 14, type 15 but not the device
pseudo-handle, or generation 0 of a channel's type. -/
def Malformed (h : Handle) : Prop := hType h = 0 ∨ (10 ≤ hType h ∧ hType h ≤ 14) ∨ (hType h = 15 ∧ h ≠ deviceHandle) ∨ (hGen h = 0 ∧ hType h ≠ 15)

section
variable {h : Handle} (o : Ordered)

theorem handleCheck_malformed (k : HandleKind) (bad : Malformed h) : handleCheck o k h = some .badHandle := by
  unfold Malformed at bad
  simp [handleCheck, or_assoc, bad]

variable (good : ¬ Malformed h)
include good

/-! One equation per kind of handle that a command takes. -/

theorem handleCheck_device : handleCheck o .device h = if h = deviceHandle then none else some .badHandle := by
  unfold Malformed at good
  simp [handleCheck, or_assoc, good]

theorem handleCheck_channel (ty : Nat) : handleCheck o (.channel ty) h = if h = deviceHandle then some .badHandle else channelCheck o ty h := by
  unfold Malformed at good
  simp [handleCheck, or_assoc, good]

theorem handleCheck_deviceOr (ty : Nat) : handleCheck o (.deviceOr ty) h = if h = deviceHandle then none else channelCheck o ty h := by
  unfold Malformed at good
  simp [handleCheck, or_assoc, good]

/-- The device's handle where a channel is meant, or a channel's where the device is. -/
theorem handleCheck_wrongKind {k : HandleKind} (wrong : k = .device ∧ h ≠ deviceHandle ∨ (∃ ty, k = .channel ty) ∧ h = deviceHandle) :
    handleCheck o k h = some .badHandle := by
  obtain ⟨rfl, hd⟩ | ⟨⟨ty, rfl⟩, hd⟩ := wrong
  · rw [handleCheck_device o good, if_neg hd]
  · rw [handleCheck_channel o good, if_pos hd]

theorem handleCheck_ofDevice {k : HandleKind} (takes : k = .device ∨ ∃ ty, k = .deviceOr ty) (hd : h = deviceHandle) : handleCheck o k h = none := by
  obtain rfl | ⟨ty, rfl⟩ := takes
  · rw [handleCheck_device o good, if_pos hd]
  · rw [handleCheck_deviceOr o good, if_pos hd]

/-- A channel's handle where a channel is taken goes on to the checks on the channel. -/
theorem handleCheck_ofChannel {k : HandleKind} {ty : Nat} (takes : k = .channel ty ∨ k = .deviceOr ty) (hd : h ≠ deviceHandle) :
    handleCheck o k h = channelCheck o ty h := by
  obtain rfl | rfl := takes
  · rw [handleCheck_channel o good, if_neg hd]
  · rw [handleCheck_deviceOr o good, if_neg hd]

end

/-! ### Checks 3 and 4 of R45: the channel in the handle's slot -/

section
variable {o : Ordered} {h : Handle} {c : Channel} {ty : Nat}

theorem channelCheck_freeSlot (free : chanAt o (hSlot h) = none) : channelCheck o ty h = some .staleHandle := by
  simp [channelCheck, free]

theorem channelCheck_otherGeneration (live : chanAt o (hSlot h) = some c) (gen : hGen c.handle ≠ hGen h) : channelCheck o ty h = some .staleHandle := by
  simp [channelCheck, live, gen]

theorem channelCheck_otherType (live : chanAt o (hSlot h) = some c) (gen : hGen c.handle = hGen h) (other : hType c.handle ≠ hType h ∨ (ty ≠ 0 ∧ ty ≠ hType h)) :
    channelCheck o ty h = some .badHandle := by
  simp [channelCheck, live, gen, other]

theorem channelCheck_passes (live : chanAt o (hSlot h) = some c) (gen : hGen c.handle = hGen h) (type : hType c.handle = hType h) (taken : ty = 0 ∨ ty = hType h) :
    channelCheck o ty h = none := by
  obtain rfl | rfl := taken <;> simp [channelCheck, live, gen, type]

end

/-! ### Commands that do not enter the waybill (R40) -/

/-- Each of these rows submits its packet under its own opcode, with the function of that opcode to be run at once. -/
theorem exec_immediateRow : ∀ x ∈ immediateRows, ∃ f, commandOf x.2 = some f ∧ ∀ (p : Packet) (s : State), exec (x.1 p) s = .next (submit x.2 f p s) := by
  unfold immediateRows
  simp only [List.cons_append, List.nil_append, List.forall_mem_cons, List.not_mem_nil, false_implies, implies_true, and_true]
  and_intros <;> exact ⟨_, rfl, fun _ _ => rfl⟩

set_option maxRecDepth 20000 in
/-- The opcode table says of each of these rows that it does not enter the waybill. -/
theorem immediateRow_runsNow {x : (Packet → Instr) × Nat} (hx : x ∈ immediateRows) {i : OpInfo} (hi : opInfo x.2 = some i) : i.w = false := by
  have h : immediateRows.all (fun x => (opInfo x.2).all (!·.w)) = true := by decide
  simpa [hi] using List.all_eq_true.mp h x hx

/-- A command taken at once that no re-run and no RETIRED module holds back is refused by the handle check that fails (R45). -/
theorem runNow_badHandle {p : Packet} {s : State} {i : OpInfo} {st : Status} (hi : opInfo p.opcode = some i) (running : s.boot.stage = 2 → readsState p.opcode = false)
    (lifecycle : s.mode.lifecycle = 4 → changes p = false) (bad : handleCheck s.ord i.handle p.handle = some st) (f : Packet → State → State × Ans) :
    runNow f p s = answer p { status := st } s := by
  have notBusy : ¬ (s.boot.stage = 2 ∧ readsState p.opcode = true) := fun ⟨hs, hr⟩ => by simp [running hs] at hr
  have notRetired : ¬ (s.mode.lifecycle = 4 ∧ changes p = true) := fun ⟨hl, hc⟩ => by simp [lifecycle hl] at hc
  simp [runNow, hi, bad, notBusy, notRetired]

/-- What its path hands on runs at once when it does not enter the waybill. -/
theorem submit_runsNow {op : Nat} {p : Packet} {s : State} {i : OpInfo} (h : Taken op p s) (hi : opInfo op = some i) (hw : i.w = false) (f : Packet → State → State × Ans) :
    submit op f p s = runNow f p (takeTag p s) := by
  rw [submit_taken h, acceptHead_enqueue h _ i hi, hw, if_neg Bool.false_ne_true]

/-! ### Commands that enter the waybill (R103) -/

/-- Each of the 48 rows has its handler, at whatever place of the waybill it stands. -/
theorem handlerOf_orderedRow : ∀ x ∈ orderedRows, ∀ n : Nat, ∃ f, handlerOf x.2 n = some f := by
  unfold orderedRows
  simp only [List.cons_append, List.nil_append, List.forall_mem_cons, List.not_mem_nil, false_implies, implies_true, and_true]
  and_intros <;> exact fun _ => ⟨_, rfl⟩

/-- An ordered command that has lost to no other is refused, in the computation of its tick, by the handle check that fails. -/
theorem Calc.command_badHandle {losers : List (Contender × Contender)} {n : Nat} {p : Packet} {c : Calc} {i : OpInfo} {f : Handler} {st : Status}
    (won : ∀ l ∈ losers, l.1.entry ≠ n) (hi : opInfo p.opcode = some i) (hf : handlerOf p.opcode n = some f) (bad : handleCheck c.ord i.handle p.handle = some st) (e : Entry) :
    c.command losers n e p = c.reply { entry := n, tick := c.tick, held := e.held, master := e.index, packet := p, status := st.code, payload := [], handle := none } := by
  have unbeaten : losers.find? (fun x => x.1.entry == n) = none := by simpa using won
  simp only [Calc.command, unbeaten, hi, hf, bad]

/-- Settles O35: the checks in the order of R45's table, then the two places where a command meets them. -/
theorem handleChecks : Obligations.HandleChecks := by
  refine ⟨fun o k h => ⟨handleCheck_malformed o k, fun good => ⟨handleCheck_wrongKind o good, handleCheck_ofDevice o good, fun ty takes hd => ?channel⟩⟩, ?atOnce, ?inItsTick⟩
  case channel =>
    rw [handleCheck_ofChannel o good takes hd]
    exact ⟨channelCheck_freeSlot, fun c live => ⟨channelCheck_otherGeneration live, channelCheck_otherType live, channelCheck_passes live⟩⟩
  case atOnce =>
    intro x hx p s i st taken hi running lifecycle bad
    obtain ⟨f, -, runs⟩ := exec_immediateRow x hx
    have refused : runNow f p (takeTag p s) = answer p { status := st } (takeTag p s) :=
      runNow_badHandle (s := takeTag p s) (by rw [taken.opcode]; exact hi) (by rw [taken.opcode]; exact running) lifecycle bad f
    rw [runs, submit_runsNow taken hi (immediateRow_runsNow hx hi), refused]
  case inItsTick =>
    intro x hx losers n e p c i st hop hi won bad
    obtain ⟨f, hf⟩ := handlerOf_orderedRow x hx n
    rw [← hop] at hi hf
    exact Calc.command_badHandle won hi hf bad e

/-! ### What reset leaves -/

set_option maxRecDepth 20000 in
/-- Settles O58: each register of the tables is read from the state of reset; the other clauses are fields of that state. -/
theorem resetState : Obligations.ResetState := by
  refine ⟨?registers, ?queue, ?channels, ?calendar, ?oscStop, ?lifecycle, fun k _ => ?generation⟩
  case registers => decide
  case queue | channels | calendar | oscStop | lifecycle | generation => rfl

end Sys2Proof.Machine

namespace Sys2Proof.Machine

/-!
Proofs of chapter 4: setting a ring up and stopping it (O45).
-/

/-! ### What signalling an interrupt leaves of the link and its rings -/

@[simp] theorem signal_leaves_link (s : State) :
    (signal s).host.rings = s.host.rings ∧ (signal s).host.hostsel = s.host.hostsel ∧ (signal s).paths = s.paths ∧ (signal s).boot = s.boot := by
  unfold signal
  dsimp only
  split <;> simp

@[simp] theorem pcie_signal (s : State) : pcie (signal s) = pcie s := by simp [pcie]

@[simp] theorem ringOf_signal (s : State) (r : Nat) : ringOf (signal s) r = ringOf s r := by simp [ringOf]

@[simp] theorem ringActive_signal (s : State) (r : Nat) : ringActive (signal s) r = ringActive s r := by
  simp [ringActive, ringTags]

/-! ### Reading a ring, and whether it is active (R82) -/

theorem ringOf_modRing_same {s : State} {r : Nat} (h : r < s.host.rings.length) (f : Ring → Ring) : ringOf (modRing r f s) r = f (ringOf s r) := by
  simp [ringOf, modRing, modHost, modAt, h]

/-- A ring is active while fetching is enabled, a tag is in flight, or a completion waits to be written. -/
theorem ringActive_iff (s : State) (r : Nat) :
    ringActive s r = true ↔ (ringOf s r).enable = true ∨ ringTags s r ≠ 0 ∨ ∃ y ∈ s.paths.outgoing, onRing r y.path = true := by
  simp [ringActive, or_assoc]

/-! ### RING_CTL: one equation for an active ring, one each for stopping and starting an inactive one -/

section
variable {s : State} {r v : Nat}

theorem writeRingCtl_active (active : ringActive s r = true) :
    writeRingCtl r v s = modRing r (fun x => { x with irqEn := bit v 1, enable := bit v 0 }) s := by
  simp [writeRingCtl, active]

theorem writeRingCtl_stop (inactive : ringActive s r = false) (stop : bit v 0 = false) :
    writeRingCtl r v s = modRing r (fun x => { x with modCount := bits v 8 8, modUs := bits v 16 16, irqEn := bit v 1, enable := false }) s := by
  simp [writeRingCtl, inactive, stop]

theorem writeRingCtl_start (inactive : ringActive s r = false) (start : bit v 0 = true) :
    writeRingCtl r v s = modRing r (fun x => { x with
      modCount := bits v 8 8, modUs := bits v 16 16, irqEn := bit v 1, enable := true,
      cmdHead := 0, cmdTail := 0, cmpHead := 0, cmpTail := 0, phase := true, unsignalled := 0, held := 0 }) s := by
  simp [writeRingCtl, inactive, start]

@[simp] theorem writeRingCtl_paths : (writeRingCtl r v s).paths = s.paths := by simp [writeRingCtl]

/-- Clearing ENABLE disables the ring, active or not. -/
theorem writeRingCtl_disables (listed : r < s.host.rings.length) (stop : bit v 0 = false) : (ringOf (writeRingCtl r v s) r).enable = false := by
  cases active : ringActive s r with
  | true => rw [writeRingCtl_active active, ringOf_modRing_same listed]; exact stop
  | false => rw [writeRingCtl_stop active stop, ringOf_modRing_same listed]

/-- With ENABLE clear, what is in flight or waits to be written keeps the ring active. -/
theorem writeRingCtl_active_iff (listed : r < s.host.rings.length) (stop : bit v 0 = false) :
    ringActive (writeRingCtl r v s) r = true ↔ ringTags s r ≠ 0 ∨ ∃ y ∈ s.paths.outgoing, onRing r y.path = true := by
  simp [ringActive_iff, writeRingCtl_disables listed stop, ringTags]

end

theorem bit_clearedEnable (v : Nat) : bit (v / 2 * 2) 0 = false := by simp [bit]

theorem bit_setEnable (v : Nat) : bit (v ||| 1) 0 = true := by simp [bit]

/-! ### A host write to a register of a ring (R72, R82) -/

theorem writeRing_ctl (r v : Nat) (s : State) : writeRing r 0x00 v s = writeRingCtl r v s := rfl

/-- The base registers of an active ring ignore the write. -/
theorem writeRing_base_active {s : State} {r reg : Nat} (active : ringActive s r = true) (base : reg = 0x04 ∨ reg = 0x08 ∨ reg = 0x0C ∨ reg = 0x10) (v : Nat) :
    writeRing r reg v s = s := by
  obtain rfl | rfl | rfl | rfl := base <;> simp [writeRing, active]

section
variable {s : State} {r v : Nat} (inactive : ringActive s r = false)
include inactive

theorem writeRing_cmdLo : writeRing r 0x04 v s = modRing r (fun x => { x with cmdLo := v % 2 ^ 32 / 2048 * 2048 }) s := by
  simp [writeRing, inactive, bits]

theorem writeRing_cmdHi : writeRing r 0x08 v s = modRing r (fun x => { x with cmdHi := v % 2 ^ 32 }) s := by
  simp [writeRing, inactive, bits]

theorem writeRing_cmpLo : writeRing r 0x0C v s = modRing r (fun x => { x with cmpLo := v % 2 ^ 32 / 2048 * 2048 }) s := by
  simp [writeRing, inactive, bits]

theorem writeRing_cmpHi : writeRing r 0x10 v s = modRing r (fun x => { x with cmpHi := v % 2 ^ 32 }) s := by
  simp [writeRing, inactive, bits]

end

/-- Over PCI Express the window maps 0x100 bytes to each of the four rings, from 0x400 on. -/
theorem writeReg_ring {s : State} {r reg : Nat} (link : pcie s = true) (hr : r < 4) (hreg : reg < 0x100) (v : Nat) :
    writeReg (0x400 + 0x100 * r + reg) v s = writeRing r reg v s := by
  obtain ⟨pcieSelected, -⟩ : s.host.hostsel = false ∧ s.boot.stage ≠ 0 := by simpa [pcie] using link
  have pastGlobal : ¬ 0x400 + 0x100 * r + reg < 0x400 := by omega
  have ofRings : 0x400 + 0x100 * r + reg < 0x800 := by omega
  have ringNumber : (0x400 + 0x100 * r + reg - 0x400) / 0x100 = r := by omega
  have register : (0x400 + 0x100 * r + reg) % 0x100 = reg := by omega
  rw [writeReg, if_neg pastGlobal, if_pos ofRings, ringNumber, register, pcieSelected, if_neg Bool.false_ne_true]

/-- A 32-bit write of a ring's register does what `writeRing` says, between what rose before it and what rises with it. -/
theorem registerWrite_ring {s : State} {r reg off : Nat} (running : s.boot.stage ≠ 0) (link : pcie s = true) (hr : r < 4) (hreg : reg < 0x100) (aligned : reg % 4 = 0)
    (offset : off = 0x400 + 0x100 * r + reg) (v : Nat) : exec (.registerWrite off v 4) s = .next (signal (writeRing r reg v (signal s))) := by
  have inWindow : off < 0x10000 := by omega
  have wordOffset : off % 4 = 0 := by omega
  have belowApertures : ¬ 0x1400 ≤ off := by omega
  have good : goodAccess (signal s) off 4 = true := by simp [goodAccess, inWindow, wordOffset]
  have noAperture : inAperture off = false := by simp [inAperture, belowApertures]
  have unfolded : exec (.registerWrite off v 4) s = execRegisterWrite off v 4 s := rfl
  rw [← writeReg_ring (by rwa [pcie_signal]) hr hreg, ← offset]
  simp [unfolded, execRegisterWrite, running, good, noAperture, signalled]

/-! ### The commands of the rings -/

theorem exec_ringCtlEnable {s : State} {r : Nat} (link : pcie s = true) (hr : r < 4) (v : Nat) :
    exec (.ringCtlEnable r v) s = .next (writeRingCtl r (v ||| 1) s) := by
  have unfolded : exec (.ringCtlEnable r v) s = execRingCtlEnable r v s := rfl
  simp [unfolded, execRingCtlEnable, link, hr]

theorem exec_ringCtlDisable {s : State} {r : Nat} (link : pcie s = true) (hr : r < 4) (v : Nat) :
    exec (.ringCtlDisable r v) s = .next (writeRingCtl r (v / 2 * 2) s) := by
  have unfolded : exec (.ringCtlDisable r v) s = execRingCtlDisable r v s := rfl
  simp [unfolded, execRingCtlDisable, link, hr]

/-- A ring that is not enabled fetches nothing. -/
theorem exec_descriptorFetch_disabled {s : State} {r : Nat} (disabled : (ringOf s r).enable = false) (d : List Byte) (b : Option (List Byte)) :
    exec (.descriptorFetch r d b) s = .next s := by
  have unfolded : exec (.descriptorFetch r d b) s = execDescriptorFetch r d b s := rfl
  simp [unfolded, execDescriptorFetch, disabled]

/-- Settles O45: a register write reaches `writeRing` at its ring, whose base registers and RING_CTL ask whether that ring is active; the commands that set and
clear ENABLE are writes of RING_CTL. -/
theorem ringSetupAndStop : Obligations.RingSetupAndStop := by
  intro r v s x running link hr hx four
  have listed : r < s.host.rings.length := by omega
  have write {reg off : Nat} (hreg : reg < 0x100) (aligned : reg % 4 = 0) (offset : off = 0x400 + 0x100 * r + reg) :
      exec (.registerWrite off v 4) s = .next (signal (writeRing r reg v (signal s))) :=
    registerWrite_ring running link hr hreg aligned offset v
  refine ⟨fun active reg base => ?basesHeld, fun active => ?moderationHeld, fun inactive => ⟨?cmdLo, ?cmdHi, ?cmpLo, ?cmpHi, fun stop => ?moderation⟩,
    fun disabled => ?noFetch, ?disable, fun inactive => ?afresh⟩
  case basesHeld =>
    rw [write (reg := reg) (by omega) (by omega) rfl, writeRing_base_active (by rwa [ringActive_signal]) base]
  case moderationHeld =>
    have held := writeRingCtl_active (v := v) (by rwa [ringActive_signal] : ringActive (signal s) r = true)
    refine ⟨_, write (reg := 0x00) (by decide) rfl rfl, ?_⟩
    rw [writeRing_ctl, held, ringOf_signal, ringOf_modRing_same (by simpa using listed), ringOf_signal, hx]
    exact ⟨rfl, rfl⟩
  case cmdLo => rw [write (reg := 0x04) (by decide) rfl (by omega), writeRing_cmdLo (by rwa [ringActive_signal])]
  case cmdHi => rw [write (reg := 0x08) (by decide) rfl (by omega), writeRing_cmdHi (by rwa [ringActive_signal])]
  case cmpLo => rw [write (reg := 0x0C) (by decide) rfl (by omega), writeRing_cmpLo (by rwa [ringActive_signal])]
  case cmpHi => rw [write (reg := 0x10) (by decide) rfl (by omega), writeRing_cmpHi (by rwa [ringActive_signal])]
  case moderation =>
    rw [write (reg := 0x00) (off := 0x400 + 0x100 * r) (by decide) rfl rfl, writeRing_ctl, writeRingCtl_stop (by rwa [ringActive_signal]) stop]
  case noFetch => exact exec_descriptorFetch_disabled (by rwa [hx])
  case disable =>
    have stop := bit_clearedEnable v
    exact ⟨_, exec_ringCtlDisable link hr v, writeRingCtl_disables listed stop, writeRingCtl_paths, writeRingCtl_active_iff listed stop⟩
  case afresh =>
    refine ⟨_, _, exec_ringCtlEnable link hr v, rfl, ?_⟩
    rw [writeRingCtl_start inactive (bit_setEnable v), ringOf_modRing_same listed]
    exact ⟨rfl, rfl, rfl, rfl, rfl, rfl⟩

end Sys2Proof.Machine

namespace Sys2Proof.Machine

/-!
Proofs of chapter 5: the contradictory commands of one waybill (O37).
-/

/-! ### A list with one more element at its end -/

theorem mem_append_singleton {α : Type} {x y : α} {l : List α} : y ∈ l ++ [x] ↔ y ∈ l ∨ y = x := by simp

theorem pairwise_append_singleton {α : Type} {r : α → α → Prop} {x : α} {l : List α} :
    (l ++ [x]).Pairwise r ↔ l.Pairwise r ∧ ∀ y ∈ l, r y x := by simp [List.pairwise_append]

/-! ### Sorting by a key -/

section
variable {α : Type} {f : α → Nat}

theorem mem_insertBy {x y : α} {l : List α} : y ∈ insertBy f x l ↔ y = x ∨ y ∈ l := by
  induction l with
  | nil => simp [insertBy]
  | cons z zs ih =>
    unfold insertBy
    split
    · simp
    · simp [ih, or_left_comm]

theorem insertBy_keepsSorted {x : α} {l : List α} (sorted : l.Pairwise (fun a b => f a ≤ f b)) :
    (insertBy f x l).Pairwise (fun a b => f a ≤ f b) := by
  induction l with
  | nil => simp [insertBy]
  | cons z zs ih =>
    obtain ⟨first, rest⟩ := List.pairwise_cons.1 sorted
    unfold insertBy
    split
    next before =>
      refine List.pairwise_cons.2 ⟨fun y hy => ?_, sorted⟩
      obtain rfl | later := List.mem_cons.1 hy
      · exact Nat.le_of_lt before
      · exact Nat.le_trans (Nat.le_of_lt before) (first y later)
    next notBefore =>
      refine List.pairwise_cons.2 ⟨fun y hy => ?_, ih rest⟩
      obtain rfl | later := mem_insertBy.1 hy
      · exact Nat.le_of_not_lt notBefore
      · exact first y later

theorem mem_foldl_insertBy {y : α} {l sorted : List α} : y ∈ l.foldl (fun acc x => insertBy f x acc) sorted ↔ y ∈ sorted ∨ y ∈ l := by
  induction l generalizing sorted with
  | nil => simp only [List.foldl_nil, List.not_mem_nil, or_false]
  | cons x l ih => rw [List.foldl_cons, ih, mem_insertBy, List.mem_cons, or_comm (a := y = x), or_assoc]

theorem mem_sortBy {y : α} {l : List α} : y ∈ sortBy f l ↔ y ∈ l := by
  rw [sortBy, mem_foldl_insertBy, List.mem_nil_iff, false_or]

theorem foldl_insertBy_sorted {l acc : List α} (sorted : acc.Pairwise (fun a b => f a ≤ f b)) :
    (l.foldl (fun acc x => insertBy f x acc) acc).Pairwise (fun a b => f a ≤ f b) := by
  induction l generalizing acc with
  | nil => exact sorted
  | cons x l ih => exact ih (insertBy_keepsSorted sorted)

theorem sortBy_sorted (f : α → Nat) (l : List α) : (sortBy f l).Pairwise (fun a b => f a ≤ f b) :=
  foldl_insertBy_sorted .nil

end

/-! ### Settling commands in order of precedence (R106) -/

/-- The winners so far, and the losers each with the winner that beats it, after one more command. -/
def settleNext (acc : List Contender × List (Contender × Contender)) (x : Contender) : List Contender × List (Contender × Contender) :=
  match acc.1.find? (fun w => contradicts w.packet x.packet) with
  | some w => (acc.1, acc.2 ++ [(x, w)])
  | none => (acc.1 ++ [x], acc.2)

theorem settle_eq_foldl (rank : List Nat) (xs : List Contender) : settle rank xs = (sortBy (precedence rank) xs).foldl settleNext ([], []) := rfl

section
variable {rank : List Nat} {seen : List Contender} {acc : List Contender × List (Contender × Contender)} {x w : Contender}

theorem settleNext_loses (beaten : acc.1.find? (fun w => contradicts w.packet x.packet) = some w) : settleNext acc x = (acc.1, acc.2 ++ [(x, w)]) := by
  simp [settleNext, beaten]

theorem settleNext_wins (free : acc.1.find? (fun w => contradicts w.packet x.packet) = none) : settleNext acc x = (acc.1 ++ [x], acc.2) := by
  simp [settleNext, free]

/-- What holds of the winners and losers once the commands of `seen` are settled. -/
structure Settled (rank : List Nat) (seen : List Contender) (acc : List Contender × List (Contender × Contender)) : Prop where
  seenWinner : ∀ w ∈ acc.1, w ∈ seen
  agree : acc.1.Pairwise (fun a b => contradicts a.packet b.packet = false)
  beaten : ∀ l ∈ acc.2, l.2 ∈ acc.1 ∧ contradicts l.2.packet l.1.packet = true ∧ precedence rank l.2 ≤ precedence rank l.1
  decided : ∀ x ∈ seen, x ∈ acc.1 ∨ ∃ w, (x, w) ∈ acc.2

theorem settled_nil (rank : List Nat) : Settled rank [] ([], []) := ⟨by simp, .nil, by simp, by simp⟩

/-- A command whose precedence is no higher than theirs, settled after the commands of `seen`. -/
theorem Settled.next (settled : Settled rank seen acc) (last : ∀ y ∈ seen, precedence rank y ≤ precedence rank x) :
    Settled rank (seen ++ [x]) (settleNext acc x) := by
  obtain ⟨seenWinner, agree, beaten, decided⟩ := settled
  cases found : acc.1.find? (fun w => contradicts w.packet x.packet) with
  | some w =>
    have winner : w ∈ acc.1 := List.mem_of_find?_eq_some found
    have against : contradicts w.packet x.packet = true := by simpa using List.find?_some found
    rw [settleNext_loses found]
    refine ⟨fun y hy => List.mem_append_left _ (seenWinner y hy), agree, fun l hl => ?_, fun y hy => ?_⟩
    · obtain earlier | rfl := mem_append_singleton.1 hl
      · exact beaten l earlier
      · exact ⟨winner, against, last w (seenWinner w winner)⟩
    · obtain earlier | rfl := mem_append_singleton.1 hy
      · exact (decided y earlier).imp_right (fun ⟨v, hv⟩ => ⟨v, List.mem_append_left _ hv⟩)
      · exact .inr ⟨w, List.mem_concat_self⟩
  | none =>
    have free : ∀ w ∈ acc.1, contradicts w.packet x.packet = false := by simpa using found
    rw [settleNext_wins found]
    refine ⟨fun y hy => ?_, ?_, fun l hl => ?_, fun y hy => ?_⟩
    · exact mem_append_singleton.2 ((mem_append_singleton.1 hy).imp_left (seenWinner y))
    · exact pairwise_append_singleton.2 ⟨agree, free⟩
    · obtain ⟨winner, rest⟩ := beaten l hl
      exact ⟨List.mem_append_left _ winner, rest⟩
    · obtain earlier | rfl := mem_append_singleton.1 hy
      · exact (decided y earlier).imp_left (List.mem_append_left _)
      · exact .inl List.mem_concat_self

end

/-- The commands of `l`, none of higher precedence than one before it or one of `seen`, settled after the commands of `seen`. -/
theorem Settled.foldl {rank : List Nat} {seen l : List Contender} {acc : List Contender × List (Contender × Contender)} (settled : Settled rank seen acc)
    (sorted : (seen ++ l).Pairwise (fun a b => precedence rank a ≤ precedence rank b)) : Settled rank (seen ++ l) (l.foldl settleNext acc) := by
  induction l generalizing seen acc with
  | nil => rw [List.append_nil]; exact settled
  | cons x l ih =>
    obtain ⟨-, -, across⟩ := List.pairwise_append.1 sorted
    have last : ∀ y ∈ seen, precedence rank y ≤ precedence rank x := fun y hy => across y hy x List.mem_cons_self
    rw [List.append_cons] at sorted ⊢
    exact ih (settled.next last) sorted

theorem settle_settled (rank : List Nat) (xs : List Contender) : Settled rank (sortBy (precedence rank) xs) (settle rank xs) := by
  rw [settle_eq_foldl]
  exact (settled_nil rank).foldl (sortBy_sorted _ xs)

/-! ### The order of precedence (R106, R107) -/

section
variable {rank : List Nat} {a b : Contender}

/-- A rank below 16 and the entry number stay below the bit that EMERGENCY clears. -/
theorem precedence_lt_of_emergency (ranked : rankOf rank a.master < 16) (urgent : a.packet.emergency = true) (ordinary : b.packet.emergency = false) :
    precedence rank a < precedence rank b := by
  simp only [precedence, urgent, ordinary, if_true, Bool.false_eq_true, if_false]
  omega

theorem precedence_lt_of_rank (same : a.packet.emergency = b.packet.emergency) (higher : rankOf rank a.master < rankOf rank b.master) :
    precedence rank a < precedence rank b := by
  simp only [precedence, same]
  omega

theorem precedence_lt_of_later (same : a.packet.emergency = b.packet.emergency) (sameRank : rankOf rank a.master = rankOf rank b.master)
    (entered : a.entry < 65536) (later : b.entry < a.entry) : precedence rank a < precedence rank b := by
  simp only [precedence, same, sameRank]
  omega

end

theorem rankOf_internal (rank : List Nat) {m : Nat} (internal : 5 ≤ m) : rankOf rank m = m := if_neg (by omega)

theorem rankOf_listed {rank : List Nat} {m : Nat} (listed : m ∈ rank) (external : m < 5) : rankOf rank m < rank.length := by
  rw [rankOf, if_pos external]
  exact List.idxOf_lt_length_of_mem listed

/-- Settles O37: each command, taken in order of precedence, keeps `Settled`; the fields of a precedence number do not overlap. -/
theorem contradictionsAreSettled : Obligations.ContradictionsAreSettled := by
  refine ⟨fun rank xs win lose result => ?settled, fun rank a b enteredA _ rankedA _ => ⟨?emergency, ?rank, ?later⟩, ?defaultRank, fun rank m => ?internal, fun rank m external listed five => ?listed⟩
  case settled =>
    obtain ⟨-, agree, beaten, decided⟩ := result ▸ settle_settled rank xs
    exact ⟨agree, beaten, fun x hx => decided x (mem_sortBy.2 hx)⟩
  case emergency => exact precedence_lt_of_emergency rankedA
  case rank => exact precedence_lt_of_rank
  case later => exact fun same sameRank => precedence_lt_of_later same sameRank enteredA
  case defaultRank => rfl
  case internal => exact rankOf_internal rank
  case listed => exact five ▸ rankOf_listed listed external

end Sys2Proof.Machine

namespace Sys2Proof.Machine

/-!
Proofs of chapter 8: the allotments of ESCORT channels (O49).
-/

/-! ### The escort of a handle after a change of its channel -/

/-- A change that leaves the handle of the channel alone is found where the channel was. -/
theorem chanOf_modChan {h : Handle} {f : Channel → Channel} (handle : ∀ ch, (f ch).handle = ch.handle) (o : Ordered) :
    chanOf (o.modChan h f) h = (chanOf o h).map f := by
  have sameHandle : ((fun ch => ch.handle == h) ∘ fun ch : Channel => if ch.handle == h then f ch else ch) = fun ch => ch.handle == h := by
    funext ch
    simp only [Function.comp_apply]
    split <;> simp [handle]
  rw [chanOf, chanOf, Ordered.modChan, List.find?_map, sameHandle]
  cases found : o.channels.find? (fun ch => ch.handle == h) with
  | none => rfl
  | some ch =>
    have ofHandle : (ch.handle == h) = true := List.find?_some (p := fun ch : Channel => ch.handle == h) found
    simp only [Option.map_some, ofHandle, if_true]

theorem escortOf_eq_some {o : Ordered} {h : Handle} {e : Escort} : escortOf o h = some e ↔ ∃ ch, chanOf o h = some ch ∧ ch.body = .escort e := by
  unfold escortOf
  split
  next ch found => simp [found]
  next other =>
    refine iff_of_false nofun ?_
    rintro ⟨ch, found, body⟩
    cases ch
    cases body
    exact other _ _ _ _ _ _ _ _ _ _ found

theorem escortOf_modEscort {c : Calc} {h : Handle} {e : Escort} (live : escortOf c.ord h = some e) (f : Escort → Escort) :
    escortOf (c.modEscort h f).ord h = some (f e) := by
  obtain ⟨ch, found, body⟩ := escortOf_eq_some.1 live
  refine escortOf_eq_some.2 ⟨{ ch with body := .escort (f e) }, ?_, rfl⟩
  rw [Calc.modEscort, Calc.modChan, chanOf_modChan (fun ch => by split <;> rfl), found, Option.map_some, body]

@[simp] theorem Channel.complete_leaves (tick : Nat) (ch : Channel) : (ch.complete tick).handle = ch.handle ∧ (ch.complete tick).body = ch.body := by
  unfold Channel.complete
  split
  next => exact ⟨rfl, rfl⟩
  next => split <;> exact ⟨rfl, rfl⟩
  next => exact ⟨rfl, rfl⟩

/-- A channel whose mandatory set is complete holds the escort it held. -/
theorem escortOf_complete {c : Calc} {h : Handle} {e : Escort} (live : escortOf c.ord h = some e) : escortOf (c.complete h).ord h = some e := by
  obtain ⟨ch, found, body⟩ := escortOf_eq_some.1 live
  refine escortOf_eq_some.2 ⟨ch.complete c.tick, ?_, ?_⟩
  · rw [Calc.complete, Calc.modChan, chanOf_modChan (fun ch => (Channel.complete_leaves c.tick ch).1), found, Option.map_some]
  · rw [(Channel.complete_leaves ..).2, body]

/-! ### Counting and ending travellers (R172) -/

namespace EscCalc

@[simp] theorem count_leaves (src n : Nat) (x : EscCalc) : (x.count src n).e = x.e ∧ (x.count src n).c.ord = x.c.ord := by
  unfold count
  split <;> exact ⟨rfl, rfl⟩

@[simp] theorem endTraveller_travellers (t : Traveller) (cause : Nat) (x : EscCalc) :
    (x.endTraveller t cause).e.travellers = x.e.travellers.filter (fun u => u.num != t.num) := by simp [endTraveller]

@[simp] theorem endTraveller_ended (t : Traveller) (cause : Nat) (x : EscCalc) : (x.endTraveller t cause).e.ended = x.e.ended ++ [(t, cause)] := by
  simp [endTraveller]

@[simp] theorem endTraveller_leaves (t : Traveller) (cause : Nat) (x : EscCalc) :
    (x.endTraveller t cause).e.allot = x.e.allot ∧ (x.endTraveller t cause).c.ord = x.c.ord := by simp [endTraveller]

/-- The travellers of a list end with one cause, in order. -/
def endAll (ts : List Traveller) (cause : Nat) (x : EscCalc) : EscCalc := ts.foldl (fun x t => x.endTraveller t cause) x

theorem endAll_cons (t : Traveller) (ts : List Traveller) (cause : Nat) (x : EscCalc) : x.endAll (t :: ts) cause = (x.endTraveller t cause).endAll ts cause := rfl

/-- The travellers that remain are those that share a number with none that ended. -/
theorem mem_travellers_endAll {ts : List Traveller} {cause : Nat} {x : EscCalc} {u : Traveller} :
    u ∈ (x.endAll ts cause).e.travellers ↔ u ∈ x.e.travellers ∧ ∀ t ∈ ts, u.num ≠ t.num := by
  induction ts generalizing x with
  | nil => simp [endAll]
  | cons t ts ih => simp [endAll_cons, ih, and_assoc]

theorem endAll_ended (ts : List Traveller) (cause : Nat) (x : EscCalc) : (x.endAll ts cause).e.ended = x.e.ended ++ ts.map (·, cause) := by
  induction ts generalizing x with
  | nil => simp [endAll]
  | cons t ts ih => simp [endAll_cons, ih]

theorem endAll_leaves (ts : List Traveller) (cause : Nat) (x : EscCalc) : (x.endAll ts cause).e.allot = x.e.allot ∧ (x.endAll ts cause).c.ord = x.c.ord := by
  induction ts generalizing x with
  | nil => exact ⟨rfl, rfl⟩
  | cons t ts ih => simp [endAll_cons, ih]

end EscCalc

/-! ### What ESCORT_CONFIG sets (R163, Table 6) -/

/-- The links that an ESCORT_CONFIG names. -/
def zoneLinks (b : List Byte) : List Nat := (List.range (fld b 12 2)).map (fun i => fld b (16 + 2 * i) 2)

/-- The fields of an ESCORT_CONFIG are within the ranges of Table 6, with no link listed twice. -/
structure InZoneRanges (b : List Byte) : Prop where
  horizon : 3000 ≤ fld b 0 2 ∧ fld b 0 2 ≤ 12000
  cycle : 250 ≤ fld b 2 2 ∧ fld b 2 2 ≤ 4000
  cycleInHorizon : fld b 2 2 + 1000 ≤ fld b 0 2
  allotment : 1 ≤ fld b 4 2 ∧ fld b 4 2 ≤ 1024
  slack : 100 ≤ fld b 6 2 ∧ fld b 6 2 ≤ 5000
  threshold : 32 ≤ fld b 8 2 ∧ fld b 8 2 ≤ 32768
  flags : fld b 10 1 ≤ 3
  linkCount : 1 ≤ fld b 12 2 ∧ fld b 12 2 ≤ 1024
  links : ∀ l ∈ zoneLinks b, l ≤ 4095
  distinct : (zoneLinks b).eraseDups = zoneLinks b

namespace Escort

/-- The travellers of a zone with their paths cut before the links it leaves, and how many of each were cut (R179). -/
def cutTo (links : List Nat) (e : Escort) : List (Traveller × Nat) := e.travellers.map (cutPaths (fun l => links.contains l || !e.links.contains l))

/-- The travellers of a zone that is given other links: a traveller whose anchor link leaves the zone is gone. -/
def relinked (links : List Nat) (e : Escort) : List Traveller :=
  (e.cutTo links).map (fun t => if e.links.contains t.1.link && !links.contains t.1.link then { t.1 with gone := true } else t.1)

/-- A zone as an ESCORT_CONFIG sets it, before any traveller ends. -/
def configured (b : List Byte) (e : Escort) : Escort :=
  { e with horizon := fld b 0 2, cycle := fld b 2 2, allot := fld b 4 2, slack := fld b 6 2, threshold := fld b 8 2, flags := fld b 10 1, links := zoneLinks b, travellers := e.relinked (zoneLinks b) }

/-- Other links renumber no traveller. -/
theorem relinked_nums (links : List Nat) (e : Escort) : (e.relinked links).map Traveller.num = e.travellers.map Traveller.num := by
  rw [relinked, cutTo, List.map_map, List.map_map]
  refine List.map_congr_left fun t _ => ?_
  simp only [Function.comp_apply]
  split <;> rfl

theorem exists_relinked {e : Escort} {t : Traveller} (present : t ∈ e.travellers) (links : List Nat) : ∃ u ∈ e.relinked links, u.num = t.num := by
  rw [← List.mem_map, relinked_nums]
  exact List.mem_map_of_mem present

/-- The travellers of a zone at or above an allotment. -/
def atOrAbove (allot : Nat) (e : Escort) : List Traveller := e.travellers.filter (fun t => allot ≤ t.num)

end Escort

/-- A zone set by an ESCORT_CONFIG, with the travellers at or above its allotment ended by cause 5 (R163). -/
def zoneSet (b : List Byte) (h : Handle) (e : Escort) (c : Calc) : EscCalc :=
  (EscCalc.count 0x0B0 (sumBy Prod.snd (e.cutTo (zoneLinks b))) { h, e := e.configured b, c }).endAll ((e.configured b).atOrAbove (fld b 4 2)) 5

/-- The computation after an ESCORT_CONFIG that is not refused. -/
def zoneConfigured (m : Nat) (p : Packet) (e : Escort) (c : Calc) : Calc :=
  (((zoneSet p.payload p.handle e c).c.modEscort p.handle (fun _ => (zoneSet p.payload p.handle e c).e)).complete p.handle).derive 0x0901 m
    (le 4 p.handle.toNat ++ le 2 (fld p.payload 12 2) ++ le 2 (fld p.payload 4 2) ++ le 2 (fld p.payload 0 2) ++ le 2 (fld p.payload 2 2))

/-- Within its ranges, an ESCORT_CONFIG for a live zone is refused for its allotment alone. -/
theorem ordEscortConfig_inRanges {p : Packet} {c : Calc} {e : Escort} (ranges : InZoneRanges p.payload) (live : escortOf c.ord p.handle = some e) (m : Nat) :
    ordEscortConfig m p c = if 1024 < otherAllotments c.ord p.handle + fld p.payload 4 2 then (c, { status := .noResource }) else (zoneConfigured m p e c, {}) := by
  obtain ⟨horizon, cycle, cycleInHorizon, allotment, slack, threshold, flags, linkCount, links, distinct⟩ := ranges
  have noFarLink : (zoneLinks p.payload).any (fun l => 4095 < l) = false := by simpa using links
  unfold zoneLinks at noFarLink distinct
  unfold ordEscortConfig
  dsimp only
  rw [if_neg, if_neg (by omega), live]
  · rfl
  · simp only [noFarLink, distinct, Bool.or_eq_true, decide_eq_true_eq, beq_iff_eq, bne_self_eq_false, Bool.false_eq_true, or_false]
    omega

/-! ### What an ESCORT_CONFIG leaves in the zone -/

section
variable {b : List Byte} {h : Handle} {e : Escort} {c : Calc} {t : Traveller}

theorem mem_travellers_zoneSet : t ∈ (zoneSet b h e c).e.travellers ↔ t ∈ e.relinked (zoneLinks b) ∧ t.num < fld b 4 2 := by
  rw [zoneSet, EscCalc.mem_travellers_endAll, (EscCalc.count_leaves ..).1]
  refine and_congr_right fun present => ⟨fun notEnded => ?_, fun below u ended => ?_⟩
  · refine Nat.lt_of_not_le fun above => ?_
    exact notEnded t (List.mem_filter.2 ⟨present, decide_eq_true above⟩) rfl
  · obtain ⟨-, above⟩ := List.mem_filter.1 ended
    simp only [decide_eq_true_eq] at above
    omega

theorem zoneSet_leaves : (zoneSet b h e c).e.allot = fld b 4 2 ∧ (zoneSet b h e c).c.ord = c.ord := by
  simp [zoneSet, EscCalc.endAll_leaves, Escort.configured]

/-- A traveller below the allotment keeps its number in the zone. -/
theorem zoneSet_keeps (present : t ∈ e.travellers) (below : t.num < fld b 4 2) : ∃ x ∈ (zoneSet b h e c).e.travellers, x.num = t.num := by
  obtain ⟨u, relinked, same⟩ := Escort.exists_relinked present (zoneLinks b)
  exact ⟨u, mem_travellers_zoneSet.2 ⟨relinked, same ▸ below⟩, same⟩

/-- A traveller at or above the allotment ends with cause 5. -/
theorem zoneSet_ends (present : t ∈ e.travellers) (above : fld b 4 2 ≤ t.num) : ∃ x ∈ (zoneSet b h e c).e.ended, x.1.num = t.num ∧ x.2 = 5 := by
  obtain ⟨u, relinked, same⟩ := Escort.exists_relinked present (zoneLinks b)
  have ends : u ∈ (e.configured b).atOrAbove (fld b 4 2) := List.mem_filter.2 ⟨relinked, by simpa [same] using above⟩
  refine ⟨(u, 5), ?_, same, rfl⟩
  rw [zoneSet, EscCalc.endAll_ended]
  exact List.mem_append_right _ (List.mem_map_of_mem ends)

end

theorem escortOf_zoneConfigured {p : Packet} {c : Calc} {e : Escort} (live : escortOf c.ord p.handle = some e) (m : Nat) :
    escortOf (zoneConfigured m p e c).ord p.handle = some (zoneSet p.payload p.handle e c).e := by
  have stillLive : escortOf (zoneSet p.payload p.handle e c).c.ord p.handle = some e := by rwa [zoneSet_leaves.2]
  exact escortOf_complete (escortOf_modEscort stillLive _)

/-- Settles O49: within its ranges an ESCORT_CONFIG is refused for the sum of allotments alone; one that is not leaves the zone as `zoneSet`. -/
theorem escortAllotments : Obligations.EscortAllotments := by
  rintro n m p c b h e links rfl rfl live rfl horizonMin horizonMax cycleMin cycleMax cycleInHorizon allotMin allotMax slackMin slackMax thresholdMin thresholdMax flags
    countMin countMax near distinct
  have ranges : InZoneRanges p.payload := ⟨⟨horizonMin, horizonMax⟩, ⟨cycleMin, cycleMax⟩, cycleInHorizon, ⟨allotMin, allotMax⟩, ⟨slackMin, slackMax⟩,
    ⟨thresholdMin, thresholdMax⟩, flags, ⟨countMin, countMax⟩, near, distinct⟩
  have effect := ordEscortConfig_inRanges ranges live m
  refine ⟨fun exceeds => ⟨ordEscortConfig, rfl, ?refused⟩, fun fits => ⟨zoneConfigured m p e c, _, ⟨ordEscortConfig, rfl, ?accepted⟩,
    escortOf_zoneConfigured live m, zoneSet_leaves.1, fun t present => (mem_travellers_zoneSet.1 present).2, fun t => zoneSet_ends, fun t => zoneSet_keeps⟩⟩
  case refused => rw [effect, if_pos exceeds]
  case accepted => rw [effect, if_neg (Nat.not_lt.2 fits)]

end Sys2Proof.Machine

namespace Sys2Proof.Machine

/-!
Proofs of chapter 9: the factor of LX-2 compensation (O46).
-/

/-! ### The factor of R191 -/

section
variable {vref vbus : Int}

theorem lxFactor_low (low : 4 * vbus ≤ vref) : lxFactor vref vbus = (65535, true) := if_pos low

/-- Above VREF ÷ 4 the factor is the rounded quotient, or 1 where that is 0: the upper limit is not reached, for the quotient stays below 65,536. -/
theorem lxFactor_above (nonneg : 0 ≤ vref) (above : vref < 4 * vbus) :
    (lxFactor vref vbus = (1, true) ∧ vref * 16384 < vbus) ∨
      ∃ c : Nat, lxFactor vref vbus = (c, false) ∧ 1 ≤ c ∧ c ≤ 65535 ∧ (c : Int) * vbus ≤ vref * 16384 ∧ vref * 16384 < ((c : Int) + 1) * vbus := by
  have pos : 0 < vbus := by omega
  have lower : (vref * 16384).fdiv vbus * vbus ≤ vref * 16384 := Int.mul_comm .. ▸ Int.mul_fdiv_self_le pos
  have upper := Int.lt_fdiv_add_one_mul_self (vref * 16384) pos
  rw [lxFactor, if_neg (Int.not_le.2 above)]
  obtain ⟨q, quotient⟩ := Int.eq_ofNat_of_zero_le (Int.fdiv_nonneg (by omega : 0 ≤ vref * 16384) (Int.le_of_lt pos))
  rw [quotient] at lower upper ⊢
  have inRange : (q : Int) < 65536 := Int.lt_of_mul_lt_mul_right (by omega : (q : Int) * vbus < 65536 * vbus) (Int.le_of_lt pos)
  by_cases small : (q : Int) < 1
  · obtain rfl : q = 0 := by omega
    exact .inl ⟨rfl, by omega⟩
  · refine .inr ⟨q, ?_, by omega, by omega, lower, upper⟩
    simp only [if_neg small, if_neg (by omega : ¬ 65535 < (q : Int)), Int.toNat_natCast]

end

/-! ### The factor of a sample -/

namespace LoopSlot

theorem takeWrite_of_queue_nil {x : LoopSlot} (queue : x.queue = []) : x.takeWrite = x := by rw [takeWrite, queue]

@[simp] theorem output_factor (x : LoopSlot) : x.output.c = x.c ∧ x.output.limited = x.limited := ⟨rfl, rfl⟩

@[simp] theorem freed_factor (x : LoopSlot) : x.freed.c = x.c ∧ x.freed.limited = x.limited := ⟨rfl, rfl⟩

@[simp] theorem bumpless_factor (x : LoopSlot) : x.bumpless.c = x.c ∧ x.bumpless.limited = x.limited := ⟨rfl, rfl⟩

/-- In mode 2 a sample that takes no write has the factor of its VREF and of its bus voltage: neither the law, a release nor a hold touches it. -/
theorem compute_lxFactor {x : LoopSlot} (env : LoopEnv) (ms : List LoopSlot) (sets : List LoopSet) (mode : x.comp = 2) (queue : x.queue = []) :
    ((x.compute env ms sets).c, (x.compute env ms sets).limited) = lxFactor (x.k 0x0A) (env.vbus (x.bus - 0x28)) := by
  cases release : x.release with
  | none => simp [compute, takeWrite_of_queue_nil queue, mode, release, apply_ite c, apply_ite limited]
  | some r => simp [compute, takeWrite_of_queue_nil queue, mode, queue, release, apply_ite c, apply_ite limited]

end LoopSlot

theorem limited_mem_sampleCounts (before after : List LoopSlot) : (0x0CD, (after.filter (·.limited)).length) ∈ sampleCounts before after := by
  simp [sampleCounts]

/-- Settles O46: a sample in mode 2 has the factor `lxFactor`, whose two cases are those of R191. -/
theorem lxCompensation : Obligations.LxCompensation := by
  rintro env ms sets x y vref vbus mode queue rfl nonneg rfl rfl
  have factor := LoopSlot.compute_lxFactor env ms sets mode queue
  refine ⟨fun low => ?low, fun above => ?above, limited_mem_sampleCounts⟩
  case low => exact Prod.mk.inj (factor.trans (lxFactor_low low))
  case above =>
    obtain ⟨least, tooSmall⟩ | ⟨c, quotient, one, max, lower, upper⟩ := lxFactor_above nonneg above
    · obtain ⟨c, limited⟩ := Prod.mk.inj (factor.trans least)
      simp [c, limited, tooSmall]
    · obtain ⟨rfl, limited⟩ := Prod.mk.inj (factor.trans quotient)
      simp [limited, one, max, lower, upper]

end Sys2Proof.Machine

namespace Sys2Proof.Machine

/-!
Proofs of chapter 10: the derate curve (O47).
-/

/-! ### The line of R211, over all temperatures -/

/-- The line through the knee and the maximum: `derateCurve` is this line clamped to 0 to 65,536 (`derateCurve_eq_clampI`). -/
def derateLine (l : Lum) (t : Int) : Int := ((l.max : Int) * 65536 - t) / ((l.max - l.knee : Nat) : Int)

theorem derateLine_max (l : Lum) : derateLine l ((l.max : Int) * 65536) = 0 := by
  rw [derateLine, Int.sub_self, Int.zero_ediv]

section
variable {l : Lum} {t u : Int} (order : l.knee < l.max)
include order

theorem derateLine_knee : derateLine l ((l.knee : Int) * 65536) = 65536 := by
  have rise : (l.max : Int) * 65536 - (l.knee : Int) * 65536 = 65536 * ((l.max - l.knee : Nat) : Int) := by omega
  rw [derateLine, rise, Int.mul_ediv_cancel _ (by omega)]

theorem derateLine_falls (warmer : t ≤ u) : derateLine l u ≤ derateLine l t :=
  Int.ediv_le_ediv (by omega) (by omega)

/-! ### The curve in its three ranges -/

omit order in
theorem derateCurve_of_le_knee (cool : t ≤ (l.knee : Int) * 65536) : derateCurve l t = 65536 := if_pos cool

theorem derateCurve_of_max_le (hot : (l.max : Int) * 65536 ≤ t) : derateCurve l t = 0 := by
  have pastKnee : ¬ t ≤ (l.knee : Int) * 65536 := by omega
  rw [derateCurve, if_neg pastKnee, if_pos hot]

/-- The factor 65,536 of the rule cancels against the Q16.16 of the knee and the maximum. -/
theorem derateCurve_between (pastKnee : (l.knee : Int) * 65536 < t) (belowMax : t < (l.max : Int) * 65536) : (derateCurve l t : Int) = derateLine l t := by
  have span : (l.max : Int) * 65536 - (l.knee : Int) * 65536 = 65536 * ((l.max - l.knee : Nat) : Int) := by omega
  have nonneg : 0 ≤ derateLine l t := derateLine_max l ▸ derateLine_falls order (Int.le_of_lt belowMax)
  rw [derateCurve, if_neg (Int.not_le.2 pastKnee), if_neg (Int.not_le.2 belowMax), span, Int.mul_ediv_mul_of_pos _ _ (by decide)]
  exact Int.toNat_of_nonneg nonneg

/-! ### The curve as the clamped line -/

theorem derateCurve_eq_clampI : (derateCurve l t : Int) = clampI 0 65536 (derateLine l t) := by
  have atKnee := derateLine_knee order
  have atMax := derateLine_max l
  by_cases cool : t ≤ (l.knee : Int) * 65536
  · have atLeast := derateLine_falls order cool
    rw [derateCurve_of_le_knee cool, clampI]
    omega
  have pastKnee := Int.not_le.1 cool
  by_cases hot : (l.max : Int) * 65536 ≤ t
  · have notPositive := derateLine_falls order hot
    rw [derateCurve_of_max_le order hot, clampI]
    omega
  · have belowMax := Int.not_le.1 hot
    have atMost := derateLine_falls order (Int.le_of_lt pastKnee)
    have nonneg := derateLine_falls order (Int.le_of_lt belowMax)
    rw [derateCurve_between order pastKnee belowMax, clampI]
    omega

theorem derateCurve_falls (warmer : t ≤ u) : derateCurve l u ≤ derateCurve l t := by
  have falls := derateLine_falls order warmer
  have atT := derateCurve_eq_clampI order (t := t)
  have atU := derateCurve_eq_clampI order (t := u)
  rw [clampI] at atT atU
  omega

end

/-- Settles O47: the curve is constant up to the knee and from the maximum on, the rounded-down line between them, and falls as that line clamped. -/
theorem derateCurve_follows_line : Obligations.DerateCurve := by
  intro l t order
  refine ⟨derateCurve_of_le_knee, derateCurve_of_max_le order, fun pastKnee belowMax => ?between, fun u warmer => derateCurve_falls order warmer⟩
  case between =>
    have positive : 0 < ((l.max - l.knee : Nat) : Int) := by omega
    rw [derateCurve_between order pastKnee belowMax]
    exact ⟨Int.ediv_mul_le _ (Int.ne_of_gt positive), Int.lt_ediv_add_one_mul_self _ positive⟩

end Sys2Proof.Machine

namespace Sys2Proof.Machine

/-!
Proofs of chapter 12: where the intervals of a circuit end (O55).
-/

/-! ### The label of a tick on a day without a leap second (R19) -/

theorem utcLabel_of_noLeap {o : Ordered} (no61 : o.leap61 = false) (no59 : o.leap59 = false) (n : Nat) :
    utcLabel o n = unixOfTick n o.utc - 946684800 := by
  simp only [utcLabel, no61, no59, Bool.false_and, Bool.false_eq_true, if_false]

/-- The Unix time of 2000-01-01 is 10,957 whole days: counted from either, a second has the same place in its day. -/
theorem secondsOfDay_since2000 (u : Int) : (u - 946684800) % 86400 = u % 86400 :=
  Int.sub_mul_emod_self_left u 86400 10957

/-! ### The boundaries (R246) -/

theorem intervalBoundary_iff {o : Ordered} {m : Meter} {n : Nat} :
    intervalBoundary o m n = true ↔
      n % 4 = 0 ∧ (utcLabel o n % 86400 + 60 * m.align) % (60 * (m.length : Int)) = 0 ∧
        ¬ (o.leap61 = true ∧ unixOfTick n o.utc - 946684800 = o.leapEnd) := by
  simp only [intervalBoundary, Bool.and_eq_true, Bool.not_eq_true', ← Bool.not_eq_true, beq_iff_eq, Int.natCast_mul, Int.cast_ofNat_Int, and_assoc]

/-- Settles O55: the condition of `intervalBoundary_iff`, read on a day without a leap second, on any day, and inside an inserted second. -/
theorem intervalBoundaries : Obligations.IntervalBoundaries := by
  intro o m n _
  refine ⟨?ordinaryDay, ?anyDay, ?leapSecond, rfl, rfl⟩
  case ordinaryDay =>
    rintro label no61 no59 rfl
    simp only [intervalBoundary_iff, utcLabel_of_noLeap no61 no59, secondsOfDay_since2000, no61, Bool.false_eq_true, false_and, not_false_eq_true, and_true]
  case anyDay =>
    intro boundary
    obtain ⟨wholeSecond, aligned, -⟩ := intervalBoundary_iff.1 boundary
    exact ⟨wholeSecond, aligned⟩
  case leapSecond =>
    intro inserted inside
    rw [Bool.eq_false_iff, Ne, intervalBoundary_iff]
    rintro ⟨-, -, outside⟩
    exact outside ⟨inserted, inside⟩

end Sys2Proof.Machine

namespace Sys2Proof.Machine

/-!
Proofs of chapter 16: the calendar and the end of its range (O48); and the invariant of the whole block, of which the calendar is a
part (O60).
-/

/-! ### Leap years and single counts of the calendar (R336, R337) -/

theorem isLeap_iff (y : Nat) : isLeap y = true ↔ y % 4 = 0 ∧ (y % 100 ≠ 0 ∨ y % 400 = 0) := by
  simp only [isLeap, Bool.and_eq_true, Bool.or_eq_true, beq_iff_eq, bne_iff_ne]

/-- The last count of any day but the last of the range is followed by the first count of the next day. -/
theorem DateTime.tick_lastOfDay {t : DateTime} (hour : t.hour = 23) (min : t.min = 59) (sec : t.sec = 59) (sub : t.sub = 32767) :
    t.tick = DateTime.nextDay { t with hour := 0, min := 0, sec := 0, sub := 0 } := by
  simp [tick, hour, min, sec, sub]

/-- The last day of a month, December apart, is followed by the first of the next month. -/
theorem DateTime.nextDay_lastOfMonth {t : DateTime} (lastDay : t.day = monthDays t.year t.month) (month : t.month < 12) :
    t.nextDay = { t with day := 1, month := t.month + 1 } := by
  rw [nextDay, if_neg (Nat.not_lt.2 (Nat.le_of_eq lastDay.symm)), if_pos month]

theorem rtcCount_of_atEnd {s : State} (atEnd : s.rtc.now.atEnd = true) : rtcCount s = rangeEnd s := if_pos atEnd

/-- Within the range a count takes the time on, and the weekday with the date. -/
theorem rtcCount_inRange {s : State} (inRange : s.rtc.now.atEnd = false) :
    (rtcCount s).rtc.now = s.rtc.now.tick ∧
      (rtcCount s).rtc.weekday = if s.rtc.now.tick.day = s.rtc.now.day then s.rtc.weekday else (s.rtc.weekday + 1) % 7 := by
  simp [rtcCount, inRange]

/-- A stop of the oscillator is marked with its cause, and leaves the time as it stands. -/
theorem setOscStop_rtc (cause : Nat) (s : State) :
    (setOscStop cause s).rtc.now = s.rtc.now ∧ (setOscStop cause s).rtc.weekday = s.rtc.weekday ∧ (setOscStop cause s).rtc.oscStop = true ∧
      (setOscStop cause s).rtc.cause = cause := by
  unfold setOscStop
  dsimp only
  split
  · simp
  · split <;> simp

/-- The range ends at its beginning, a Saturday, with the oscillator marked as stopped. -/
theorem rangeEnd_rtc (s : State) :
    (rangeEnd s).rtc.now = {} ∧ (rangeEnd s).rtc.weekday = 6 ∧ (rangeEnd s).rtc.oscStop = true ∧ (rangeEnd s).rtc.cause = 3 :=
  setOscStop_rtc 3 _

theorem tick_endOfFebruary2100 :
    DateTime.tick { year := 2100, month := 2, day := 28, hour := 23, min := 59, sec := 59, sub := 32767 } =
      { year := 2100, month := 3, day := 1, hour := 0, min := 0, sec := 0, sub := 0 } := by
  rw [DateTime.tick_lastOfDay rfl rfl rfl rfl, DateTime.nextDay_lastOfMonth (by decide) (by decide)]

/-- Settles O48: within the range a count is a `tick`, which at the end of February 2100 finds the month's last day; the last count is followed by `rangeEnd`. -/
theorem leapYearsAndTheRangeEnd : Obligations.LeapYearsAndTheRangeEnd := by
  refine ⟨isLeap_iff, rfl, rfl, fun s w now weekday => ?february, fun s now => ?rangeEnd⟩
  case february =>
    have inRange : s.rtc.now.atEnd = false := by rw [now]; rfl
    obtain ⟨next, nextWeekday⟩ := rtcCount_inRange inRange
    rw [now, tick_endOfFebruary2100] at next nextWeekday
    exact ⟨next, weekday ▸ nextWeekday⟩
  case rangeEnd =>
    have atEnd : s.rtc.now.atEnd = true := by rw [now]; rfl
    rw [rtcCount_of_atEnd atEnd]
    exact rangeEnd_rtc s

/-! ### The invariant of the block -/

/-- Whatever the command, its row keeps the queue behind it and the invariant: each arm of `exec` has its law of `Keeps`. -/
theorem exec_keeps {a s : State} (h : Keeps a s) (c : Instr) : KeepsAll a (exec c s) :=
  match c with
  | .deviceInfo p => execDeviceInfo_keeps h p
  | .echo p => execEcho_keeps h p
  | .rankGet p => execRankGet_keeps h p
  | .rankSet p => execRankSet_keeps h p
  | .mailboxBindGet p => execMailboxBindGet_keeps h p
  | .mailboxBindSet p => execMailboxBindSet_keeps h p
  | .remoteCfgGet p => execRemoteCfgGet_keeps h p
  | .remoteCfgSet p => execRemoteCfgSet_keeps h p
  | .streamConfig p => execStreamConfig_keeps h p
  | .streamCredit p => execStreamCredit_keeps h p
  | .streamRead p => execStreamRead_keeps h p
  | .streamStatus p => execStreamStatus_keeps h p
  | .resetDevice p => execResetDevice_keeps h p
  | .domainRestart p => execDomainRestart_keeps h p
  | .bootReport p => execBootReport_keeps h p
  | .recoveryStatus p => execRecoveryStatus_keeps h p
  | .channelCreate p => execChannelCreate_keeps h p
  | .channelStart p => execChannelStart_keeps h p
  | .channelHold p => execChannelHold_keeps h p
  | .channelRelease p => execChannelRelease_keeps h p
  | .channelDestroy p => execChannelDestroy_keeps h p
  | .channelReset p => execChannelReset_keeps h p
  | .channelInfo p => execChannelInfo_keeps h p
  | .channelList p => execChannelList_keeps h p
  | .lodgingGet p => execLodgingGet_keeps h p
  | .placementHint p => execPlacementHint_keeps h p
  | .channelPin p => execChannelPin_keeps h p
  | .engineStatus p => execEngineStatus_keeps h p
  | .quotaGet p => execQuotaGet_keeps h p
  | .quotaSet p => execQuotaSet_keeps h p
  | .waybillRead p => execWaybillRead_keeps h p
  | .digestRead p => execDigestRead_keeps h p
  | .checkpointList p => execCheckpointList_keeps h p
  | .replay p => execReplay_keeps h p
  | .replayStatus p => execReplayStatus_keeps h p
  | .replayAbort p => execReplayAbort_keeps h p
  | .planBegin p => execPlanBegin_keeps h p
  | .planLoad p => execPlanLoad_keeps h p
  | .planCommit p => execPlanCommit_keeps h p
  | .planAbort p => execPlanAbort_keeps h p
  | .planStatus p => execPlanStatus_keeps h p
  | .registryGet p => execRegistryGet_keeps h p
  | .registryExport p => execRegistryExport_keeps h p
  | .registryFind p => execRegistryFind_keeps h p
  | .groupConfig p => execGroupConfig_keeps h p
  | .groupMembers p => execGroupMembers_keeps h p
  | .groupStatus p => execGroupStatus_keeps h p
  | .lanternLevelGet p => execLanternLevelGet_keeps h p
  | .scheduleConfig p => execScheduleConfig_keeps h p
  | .holidaySet p => execHolidaySet_keeps h p
  | .solarGet p => execSolarGet_keeps h p
  | .override p => execOverride_keeps h p
  | .overrideCancel p => execOverrideCancel_keeps h p
  | .curfewSet p => execCurfewSet_keeps h p
  | .fallbackSet p => execFallbackSet_keeps h p
  | .escortConfig p => execEscortConfig_keeps h p
  | .escortProfile p => execEscortProfile_keeps h p
  | .chainageSet p => execChainageSet_keeps h p
  | .trafficHint p => execTrafficHint_keeps h p
  | .escortStatus p => execEscortStatus_keeps h p
  | .trackList p => execTrackList_keeps h p
  | .loopConfig p => execLoopConfig_keeps h p
  | .loopCoeff p => execLoopCoeff_keeps h p
  | .loopCompTable p => execLoopCompTable_keeps h p
  | .loopHold p => execLoopHold_keeps h p
  | .loopRelease p => execLoopRelease_keeps h p
  | .loopStatus p => execLoopStatus_keeps h p
  | .contentionSet p => execContentionSet_keeps h p
  | .oscConfig p => execOscConfig_keeps h p
  | .traceConfig p => execTraceConfig_keeps h p
  | .traceArm p => execTraceArm_keeps h p
  | .traceRead p => execTraceRead_keeps h p
  | .luminaireConfig p => execLuminaireConfig_keeps h p
  | .stringConfig p => execStringConfig_keeps h p
  | .colourTable p => execColourTable_keeps h p
  | .derateSet p => execDerateSet_keeps h p
  | .driveStatus p => execDriveStatus_keeps h p
  | .stringFaultClear p => execStringFaultClear_keeps h p
  | .circuitConfig p => execCircuitConfig_keeps h p
  | .meterInputConfig p => execMeterInputConfig_keeps h p
  | .calStart p => execCalStart_keeps h p
  | .calStatus p => execCalStatus_keeps h p
  | .calCommit p => execCalCommit_keeps h p
  | .meterRead p => execMeterRead_keeps h p
  | .harmonicsRead p => execHarmonicsRead_keeps h p
  | .energyRead p => execEnergyRead_keeps h p
  | .intervalConfig p => execIntervalConfig_keeps h p
  | .intervalRead p => execIntervalRead_keeps h p
  | .pulseOutConfig p => execPulseOutConfig_keeps h p
  | .pulseInConfig p => execPulseInConfig_keeps h p
  | .balanceRead p => execBalanceRead_keeps h p
  | .holdupResidueRead p => execHoldupResidueRead_keeps h p
  | .radioConfig p => execRadioConfig_keeps h p
  | .slotPlanSet p => execSlotPlanSet_keeps h p
  | .hopSet p => execHopSet_keeps h p
  | .radioStatus p => execRadioStatus_keeps h p
  | .regulatoryStatus p => execRegulatoryStatus_keeps h p
  | .txPowerSet p => execTxPowerSet_keeps h p
  | .partnerStatus p => execPartnerStatus_keeps h p
  | .partnerSlotAssign p => execPartnerSlotAssign_keeps h p
  | .faultList p => execFaultList_keeps h p
  | .faultAck p => execFaultAck_keeps h p
  | .sessionConfig p => execSessionConfig_keeps h p
  | .sessionImageLoad p => execSessionImageLoad_keeps h p
  | .sessionStatus p => execSessionStatus_keeps h p
  | .sessionAbort p => execSessionAbort_keeps h p
  | .timeConfig p => execTimeConfig_keeps h p
  | .timeStatus p => execTimeStatus_keeps h p
  | .timeSelect p => execTimeSelect_keeps h p
  | .ptpPortConfig p => execPtpPortConfig_keeps h p
  | .ppsConfig p => execPpsConfig_keeps h p
  | .rtcSet p => execRtcSet_keeps h p
  | .rtcGet p => execRtcGet_keeps h p
  | .rtcTrim p => execRtcTrim_keeps h p
  | .wakeSet p => execWakeSet_keeps h p
  | .storeStatus p => execStoreStatus_keeps h p
  | .regionList p => execRegionList_keeps h p
  | .prunerConfig p => execPrunerConfig_keeps h p
  | .regionRetire p => execRegionRetire_keeps h p
  | .keyGenerate p => execKeyGenerate_keeps h p
  | .keyImport p => execKeyImport_keeps h p
  | .keyInfo p => execKeyInfo_keeps h p
  | .keyDestroy p => execKeyDestroy_keeps h p
  | .attest p => execAttest_keeps h p
  | .lifecycleSet p => execLifecycleSet_keeps h p
  | .debugUnlock p => execDebugUnlock_keeps h p
  | .gbkRead p => execGbkRead_keeps h p
  | .gbkClear p => execGbkClear_keeps h p
  | .gbkStatus p => execGbkStatus_keeps h p
  | .twinConfig p => execTwinConfig_keeps h p
  | .twinStatus p => execTwinStatus_keeps h p
  | .twinSwitch p => execTwinSwitch_keeps h p
  | .pathStatus p => execPathStatus_keeps h p
  | .imageBegin p => execImageBegin_keeps h p
  | .imageData p => execImageData_keeps h p
  | .imageEnd p => execImageEnd_keeps h p
  | .imageStatus p => execImageStatus_keeps h p
  | .imageAbort p => execImageAbort_keeps h p
  | .fwsetInfo p => execFwsetInfo_keeps h p
  | .counterConfig p => execCounterConfig_keeps h p
  | .counterSnapshot p => execCounterSnapshot_keeps h p
  | .tmuxUnlock p => execTmuxUnlock_keeps h p
  | .supplyStatus p => execSupplyStatus_keeps h p
  | .thermalConfig p => execThermalConfig_keeps h p
  | .powerReport p => execPowerReport_keeps h p
  | .registerWrite offset value size => execRegisterWrite_keeps h offset value size
  | .registerShadowRead offset size => execRegisterShadowRead_keeps h offset size
  | .shadowTimeout offset => execShadowTimeout_keeps h offset
  | .spiLinkStatus instruction => execSpiLinkStatus_keeps h instruction
  | .hostLinkReset => execHostLinkReset_keeps h
  | .hostLinkState up speed msi aer => execHostLinkState_keeps h up speed msi aer
  | .ringCtlEnable ring value => execRingCtlEnable_keeps h ring value
  | .ringCtlDisable ring value => execRingCtlDisable_keeps h ring value
  | .cmdTailDoorbell ring value => execCmdTailDoorbell_keeps h ring value
  | .descriptorFetch ring desc packet => execDescriptorFetch_keeps h ring desc packet
  | .completionWrite ring => execCompletionWrite_keeps h ring
  | .cmpHeadAdvance ring value => execCmpHeadAdvance_keeps h ring value
  | .ringModerationTimeout ring => execRingModerationTimeout_keeps h ring
  | .intakeTimeout path tag => execIntakeTimeout_keeps h path tag
  | .mbxPost mailbox value => execMbxPost_keeps h mailbox value
  | .mbxDiscard mailbox value => execMbxDiscard_keeps h mailbox value
  | .mbxIack mailbox => execMbxIack_keeps h mailbox
  | .mbxOutboundPost mailbox => execMbxOutboundPost_keeps h mailbox
  | .mbxOack mailbox value => execMbxOack_keeps h mailbox value
  | .mbxAged mailbox => execMbxAged_keeps h mailbox
  | .remoteDatagram port addr udp dest b => execRemoteDatagram_keeps h port addr udp dest b
  | .serviceConnectionOpen => execServiceConnectionOpen_keeps h
  | .servicePacket b => execServicePacket_keeps h b
  | .serviceConnectionClose => execServiceConnectionClose_keeps h
  | .clerkAccept cls index offset => execClerkAccept_keeps h cls index offset
  | .tickBoundary events => execTickBoundary_keeps h events
  | .channelFaultDetect channel cause => execChannelFaultDetect_keeps h channel cause
  | .issueStep => execIssueStep_keeps h
  | .resultRelease => execResultRelease_keeps h
  | .streamMessageSend stream => execStreamMessageSend_keeps h stream
  | .streamResend stream message => execStreamResend_keeps h stream message
  | .replayTick => execReplayTick_keeps h
  | .rebuildStart owner => execRebuildStart_keeps h owner
  | .rebuildComplete owner => execRebuildComplete_keeps h owner
  | .placementReview work moves errors => execPlacementReview_keeps h work moves errors
  | .dataMoveComplete slot damaged => execDataMoveComplete_keeps h slot damaged
  | .stilePacketRead stile words corrected uncorrectable underrun stalls peak reader => execStilePacketRead_keeps h stile words corrected uncorrectable underrun stalls peak reader
  | .stileResend stile => execStileResend_keeps h stile
  | .planSessionIdle => execPlanSessionIdle_keeps h
  | .planCommitRecordValid => execPlanCommitRecordValid_keeps h
  | .overrideExpiry group slot => execOverrideExpiry_keeps h group slot
  | .refreshDue lantern => execRefreshDue_keeps h lantern
  | .travellerTimeout zone traveller => execTravellerTimeout_keeps h zone traveller
  | .occupyExpiry zone link => execOccupyExpiry_keeps h zone link
  | .fastSample sense ntc vbus => execFastSample_keeps h sense ntc vbus
  | .loopReleaseEffect slot => execLoopReleaseEffect_keeps h slot
  | .driveEntryReceive => execDriveEntryReceive_keeps h
  | .driveTickMessage ntc vbus => execDriveTickMessage_keeps h ntc vbus
  | .luminaireFallback luminaire => execLuminaireFallback_keeps h luminaire
  | .dimmingFrameStart => execDimmingFrameStart_keeps h
  | .switchingCycle string subPeriod afterHigh afterLow => execSwitchingCycle_keeps h string subPeriod afterHigh afterLow
  | .comparatorTrip string => execComparatorTrip_keeps h string
  | .meteringSample v i1 i16 vh cross => execMeteringSample_keeps h v i1 i16 vh cross
  | .calJobComplete cause done volts amps freq mean angle => execCalJobComplete_keeps h cause done volts amps freq mean angle
  | .pulseOutEdge output => execPulseOutEdge_keeps h output
  | .pulseOutEnd output => execPulseOutEnd_keeps h output
  | .pulseBacklogAged output => execPulseBacklogAged_keeps h output
  | .pulseInLevelAccept input level heldMs => execPulseInLevelAccept_keeps h input level heldMs
  | .intervalClose circuit => execIntervalClose_keeps h circuit
  | .balanceClose circuit => execBalanceClose_keeps h circuit
  | .metroDomainGate quiet => execMetroDomainGate_keeps h quiet
  | .pfwAccept residue parts us => execPfwAccept_keeps h residue parts us
  | .lastSaveCancel => execLastSaveCancel_keeps h
  | .slotStart radio slot sfdNs => execSlotStart_keeps h radio slot sfdNs
  | .radioAlertExpiry radio => execRadioAlertExpiry_keeps h radio
  | .frameReceive radio slot mini f => execFrameReceive_keeps h radio slot mini f
  | .receiveWindowTimeout radio slot mini => execReceiveWindowTimeout_keeps h radio slot mini
  | .downlinkAgeTimeout radio ref => execDownlinkAgeTimeout_keeps h radio ref
  | .changeInstant radio => execChangeInstant_keeps h radio
  | .radioFail radio cause => execRadioFail_keeps h radio cause
  | .occurrenceMissed partner index => execOccurrenceMissed_keeps h partner index
  | .primaryReturnMove partner => execPrimaryReturnMove_keeps h partner
  | .faultMeterTest record => execFaultMeterTest_keeps h record
  | .sessionDurationExpiry session => execSessionDurationExpiry_keeps h session
  | .ptpMessageReceive port domain m => execPtpMessageReceive_keeps h port domain m
  | .baseHoldover base => execBaseHoldover_keeps h base
  | .tbmEvaluation taiNs => execTbmEvaluation_keeps h taiNs
  | .tbmStep => execTbmStep_keeps h
  | .tbmSwitch => execTbmSwitch_keeps h
  | .tblComparison => execTblComparison_keeps h
  | .ppsInEdge falling offset => execPpsInEdge_keeps h falling offset
  | .ppsInLoss => execPpsInLoss_keeps h
  | .ppsOutPulse second => execPpsOutPulse_keeps h second
  | .rtcCtlCommit => execRtcCtlCommit_keeps h
  | .rtcCtlShadowRel => execRtcCtlShadowRel_keeps h
  | .rtcShadowRead reg => execRtcShadowRead_keeps h reg
  | .rtcShadowTimeout => execRtcShadowTimeout_keeps h
  | .rtcCommit => execRtcCommit_keeps h
  | .rtcTrimRegisterWrite value => execRtcTrimRegisterWrite_keeps h value
  | .rtcWakeWrite value => execRtcWakeWrite_keeps h value
  | .rtcRangeEnd => execRtcRangeEnd_keeps h
  | .oscStopDetect dip => execOscStopDetect_keeps h dip
  | .d0SupplySwitch millivolts => execD0SupplySwitch_keeps h millivolts
  | .vbatMeasure millivolts => execVbatMeasure_keeps h millivolts
  | .wakeFire => execWakeFire_keeps h
  | .wakeNRelease => execWakeNRelease_keeps h
  | .prunerBurst words owner => execPrunerBurst_keeps h words owner
  | .evacuationStart => execEvacuationStart_keeps h
  | .evacuationComplete => execEvacuationComplete_keeps h
  | .regionTestComplete region error => execRegionTestComplete_keeps h region error
  | .prunerOverdue => execPrunerOverdue_keeps h
  | .mramScrub errors => execMramScrub_keeps h errors
  | .vaultRequest => execVaultRequest_keeps h
  | .guestbookRecordEntry kind master detail => execGuestbookRecordEntry_keeps h kind master detail
  | .guestbookDrain => execGuestbookDrain_keeps h
  | .gbkCtlFreeze value => execGbkCtlFreeze_keeps h value
  | .gbkFreezeTimeout ms => execGbkFreezeTimeout_keeps h ms
  | .gbkSelWrite value => execGbkSelWrite_keeps h value
  | .gbkData15Read => execGbkData15Read_keeps h
  | .gbkEraseComplete => execGbkEraseComplete_keeps h
  | .heartbeatSend => execHeartbeatSend_keeps h
  | .heartbeatReceive path b => execHeartbeatReceive_keeps h path b
  | .heartbeatDeadline => execHeartbeatDeadline_keeps h
  | .takeover => execTakeover_keeps h
  | .waybillImport waybill counters windows digestTick digest tainted => execWaybillImport_keeps h waybill counters windows digestTick digest tainted
  | .twinFrameReceive ok frame => execTwinFrameReceive_keeps h ok frame
  | .twinFrameResend => execTwinFrameResend_keeps h
  | .joinTimeout => execJoinTimeout_keeps h
  | .syncComplete cause plan ckpt waybills => execSyncComplete_keeps h cause plan ckpt waybills
  | .syncRetry => execSyncRetry_keeps h
  | .handover => execHandover_keeps h
  | .linkStateChange port speed => execLinkStateChange_keeps h port speed
  | .powerOn hostsel bootsel d0Kept lateMs => execPowerOn_keeps h hostsel bootsel d0Kept lateMs
  | .porstNLow hostsel bootsel => execPorstNLow_keeps h hostsel bootsel
  | .rstNLow us takes => execRstNLow_keeps h us takes
  | .resetDeviceAssert => execResetDeviceAssert_keeps h
  | .boot readErrors refused badKeys damaged failed => execBoot_keeps h readErrors refused badKeys damaged failed
  | .resumeTickOpen tick => execResumeTickOpen_keeps h tick
  | .inkBeat => execInkBeat_keeps h
  | .watchdogExpiry ms => execWatchdogExpiry_keeps h ms
  | .bootRomSilent => execBootRomSilent_keeps h
  | .pwrcycRelease => execPwrcycRelease_keeps h
  | .domainRestartComplete domain ms => execDomainRestartComplete_keeps h domain ms
  | .trialComplete => execTrialComplete_keeps h
  | .imageStagingIdle => execImageStagingIdle_keeps h
  | .supplyMonitorCrossing supply above beyond mv => execSupplyMonitorCrossing_keeps h supply above beyond mv
  | .sequenceFault vcore vio => execSequenceFault_keeps h vcore vio
  | .sequenceFaultClear kept => execSequenceFaultClear_keeps h kept
  | .thermalReading temps mv ma => execThermalReading_keeps h temps mv ma
  | .cntCtlSnap value => execCntCtlSnap_keeps h value
  | .cntCtlSnapClear value => execCntCtlSnapClear_keeps h value
  | .cntCfgWrite counter value => execCntCfgWrite_keeps h counter value
  | .counterClear counter value => execCounterClear_keeps h counter value
  | .tmuxLeaseExpiry => execTmuxLeaseExpiry_keeps h
  | .boundaryScanInstruction code => execBoundaryScanInstruction_keeps h code
  | .driveControlArrival => execDriveControlArrival_keeps h
  | .metroControlArrival => execMetroControlArrival_keeps h
  | .announceReceiptTimeout port inst => execAnnounceReceiptTimeout_keeps h port inst
  | .ptpDelayReqSend port inst stamp => execPtpDelayReqSend_keeps h port inst stamp
  | .twinLinkStateChange up => execTwinLinkStateChange_keeps h up
  | .slotEraseComplete ms ok => execSlotEraseComplete_keeps h ms ok
  | .imageReadBackComplete readError => execImageReadBackComplete_keeps h readError

/-- The invariant does not look at the queue. -/
theorem inv_setPending {s : State} (queue : List Instr) : Inv { s with pending := queue } ↔ Inv s := Iff.rfl

/-- Settles O60: on an empty queue the step is `idle`, which keeps the invariant (`idle_keeps`); otherwise it is the row of the first command
(`exec_keeps`), run on the state without it. -/
theorem invKept : Obligations.InvKept := by
  intro s t inv stepped
  unfold step at stepped
  split at stepped
  case h_1 =>
    obtain rfl := Host.Outcome.next.inj stepped
    exact (idle_keeps (.refl s)).2 inv
  case h_2 c rest _ => exact (exec_keeps (.refl _) c t stepped).2 ((inv_setPending rest).2 inv)

end Sys2Proof.Machine

namespace Sys2Proof.Machine

/-!
Proofs of chapter 20: replies on a remote port without a link, and the changes of a link's state (O53).
-/

/-! ### The flights of a path -/

@[simp] theorem sameLane_self (path : Path) : sameLane path path = true := by
  cases path
  case remote | twin => rfl
  case ring | mailbox | service | internal => exact beq_self_eq_true _

@[simp] theorem takeTag_sent (p : Packet) (s : State) : (takeTag p s).paths.sent = s.paths.sent := rfl
@[simp] theorem freeTag_sent (path : Path) (tag : Nat) (s : State) : (freeTag path tag s).paths.sent = s.paths.sent := rfl
@[simp] theorem markAnswered_sent (path : Path) (tag : Nat) (s : State) : (markAnswered path tag s).paths.sent = s.paths.sent := rfl

/-- A command whose tag has just been taken is in flight, so its answer goes out (R99). -/
theorem answer_takeTag (p : Packet) (s : State) {a : Ans} (now : a.later = false) (notBusy : a.status ≠ .busy) :
    answer p a (takeTag p s) = sendReply { mkReply p a (tickNow s) with silent := p.noReply } (markAnswered p.path p.tag (takeTag p s)) := by
  have inFlight : (takeTag p s).paths.flights.any (fun f => sameLane f.path p.path && f.tag == p.tag && f.opcode == p.opcode) = true := by
    simp [takeTag]
  simp only [answer, now, inFlight, notBusy, Bool.not_true, Bool.or_self, Bool.false_eq_true, if_false]
  rfl

/-! ### Replies dropped for want of a link (R391) -/

/-- From `s` to `t` no datagram is sent, and one reply is counted as dropped. -/
def DropsReply (s t : State) : Prop := t.paths.sent = s.paths.sent ∧ t.cnt = (count 0x1EE s).cnt

/-- What a drop says of the state before it speaks of the datagrams sent and of the counters only. -/
theorem DropsReply.congr {s s' t : State} (sent : s'.paths.sent = s.paths.sent) (cnt : s'.cnt = s.cnt) (h : DropsReply s' t) : DropsReply s t := by
  obtain ⟨hsent, hcnt⟩ := h
  have counted : (count 0x1EE s').cnt = (count 0x1EE s).cnt := by simp only [count, countN, cnt]
  exact ⟨hsent.trans sent, hcnt.trans counted⟩

theorem sendRemote_noLink {s : State} {port : Nat} (noLink : linkUp s port = false) (slot addr udp : Nat) (body : List Byte) :
    DropsReply s (sendRemote port slot addr udp body s) := by
  have unlinked : ∀ c, linkUp { s with paths := { s.paths with ownCounters := c } } port = false := fun _ => noLink
  simp only [sendRemote, unlinked, Bool.false_eq_true, if_false]
  exact ⟨rfl, rfl⟩

/-- Freeing the tag of a final reply changes nothing of the drop. -/
theorem sendReply_noLink {r : Reply} {s : State} {port slot addr udp : Nat} (path : r.path = .remote port slot addr udp) (spoken : r.silent = false)
    (noLink : linkUp s port = false) : DropsReply s (sendReply r s) := by
  have dropped := sendRemote_noLink noLink slot addr udp r.bytes
  simp only [sendReply, path, spoken, Bool.false_eq_true, if_false]
  split
  case isTrue => exact dropped
  case isFalse => exact dropped

/-- The answer of any command executed at once meets the same fate. -/
theorem answer_takeTag_noLink {p : Packet} {s : State} {port slot addr udp : Nat} (path : p.path = .remote port slot addr udp) (spoken : p.noReply = false)
    (noLink : linkUp s port = false) {a : Ans} (now : a.later = false) (notBusy : a.status ≠ .busy) : DropsReply s (answer p a (takeTag p s)) := by
  rw [answer_takeTag p s now notBusy]
  have unlinked : linkUp (markAnswered p.path p.tag (takeTag p s)) port = false := noLink
  exact (sendReply_noLink (r := { mkReply p a (tickNow s) with silent := p.noReply }) path spoken unlinked).congr (by simp) (by simp)

/-! ### Changes of a link (R391) -/

/-- The record of a link's change is stamped alike before and after it. -/
theorem gbk_setLink (kind master : Nat) (detail : List Byte) (links : List Nat) (s : State) :
    (gbk kind master detail { s with bhLink := links }).gbk = (gbk kind master detail s).gbk := rfl

theorem exec_linkStateChange {s : State} {port speed : Nat} (isPort : port < 2) (isSpeed : speed < 3) (change : s.bhLink.getD port 0 ≠ speed) (booted : 2 ≤ s.boot.stage) :
    exec (.linkStateChange port speed) s = .next (gbk 0x1407 0xFF (le 1 port ++ le 1 speed) { s with bhLink := setAt s.bhLink port speed }) := by
  have taken : (port < 2 && speed < 3 && s.bhLink.getD port 0 != speed && 2 ≤ s.boot.stage) = true := by
    simp [isPort, isSpeed, change, booted, -List.getD_eq_getElem?_getD]
  exact congrArg Host.Outcome.next (if_pos taken)

/-- Settles O53: `sendRemote` drops what a port without a link should send, and a command's answer reaches it through `sendReply`; a link's change ends in its
record, whose detail bytes, port and speed, are the packing of log entry 7. -/
theorem repliesWithoutALink : Obligations.RepliesWithoutALink := by
  refine ⟨fun r s port slot addr udp path spoken noLink => sendReply_noLink path spoken noLink,
    fun p s port slot addr udp h path spoken noLink => ?echo, fun s port speed isPort isSpeed change booted => ?change⟩
  case echo =>
    have answered : Answered (.echo p) p s { payload := p.payload } (takeTag p s) := answered_of h (f := cmdEcho) rfl rfl
    exact ⟨_, answered, answer_takeTag_noLink path spoken noLink rfl nofun⟩
  case change => exact ⟨_, exec_linkStateChange isPort isSpeed change booted, by simp, gbk_setLink ..⟩

end Sys2Proof.Machine

namespace Sys2Proof.Machine

/-!
Proofs of chapter 21: what is served between READY and the RESUME tick, and the RESUME tick's opening (O36).
-/

/-! ### Commands that are refused before the RESUME tick (R409) -/

/-- An answer goes out without reaching the clerk or what the waybill orders. -/
@[simp] theorem answer_leaves (p : Packet) (a : Ans) (s : State) : (answer p a s).clerk = s.clerk ∧ (answer p a s).ord = s.ord := by
  unfold answer
  dsimp only
  split
  case isTrue => exact ⟨rfl, rfl⟩
  case isFalse => split <;> simp

theorem orderingClosed_of_not_running {s : State} (stopped : s.clerk.running = false) : orderingClosed s = true := by
  simp [orderingClosed, stopped]

/-- While the module takes no ordered commands, one that its path hands on is refused and leaves the intake. -/
theorem submitW_closed {op : Nat} {p : Packet} {s : State} (h : Taken op p s) (enters : ∃ i, opInfo op = some i ∧ i.w = true) (hl : s.mode.lifecycle ≠ 4)
    (closed : orderingClosed s = true) : submitW op p s = answer p { status := .wrongState } (takeTag p s) := by
  obtain ⟨i, hi, hw⟩ := enters
  rw [submitW, submit_taken h, acceptHead_enqueue h _ i hi, hw]
  simp [hl, closed]

/-- What passes the intake checks (R101) has a row in the opcode table. -/
theorem opInfo_of_passes {p : Packet} {s : State} (passes : intakeCheck s p = none) : ∃ i, opInfo p.opcode = some i := by
  refine Option.ne_none_iff_exists'.mp fun unknown => ?_
  simp only [intakeCheck, unknown] at passes
  split_ifs at passes

/-- While the restore runs, a command that reads what it restores is answered BUSY, before its handle is looked at. -/
theorem runNow_restoring {p : Packet} {s : State} (known : ∃ i, opInfo p.opcode = some i) (restoring : s.boot.stage = 2) (reads : readsState p.opcode = true)
    (f : Packet → State → State × Ans) : runNow f p s = answer p { status := .busy } s := by
  obtain ⟨i, hi⟩ := known
  simp [runNow, hi, restoring, reads]

/-! ### What the opening of the RESUME tick leaves of its pace (R412) -/

/-- Whether ticks run, which tick is open, and how far the start-up has come. -/
def pace (s : State) : Bool × Nat × Nat := (s.clerk.running, s.clerk.tick, s.boot.stage)

theorem pace_eq {s : State} {running : Bool} {tick stage : Nat} :
    pace s = (running, tick, stage) ↔ s.clerk.running = running ∧ s.clerk.tick = tick ∧ s.boot.stage = stage := by
  simp [pace]

/-- A loop keeps the pace when each of its rounds does. -/
theorem pace_foldl {α : Type} {g : State → α → State} (round : ∀ s x, pace (g s x) = pace s) (l : List α) (s : State) : pace (l.foldl g s) = pace s :=
  List.foldlRecOn l g (motive := fun t => pace t = pace s) rfl fun t kept x _ => (round t x).trans kept

@[simp] theorem pace_gbk (kind master : Nat) (detail : List Byte) (s : State) : pace (gbk kind master detail s) = pace s := rfl

@[simp] theorem pace_modSupply (f : Supplies → Supplies) (s : State) : pace (modSupply f s) = pace s := rfl

@[simp] theorem pace_signal (s : State) : pace (signal s) = pace s := by simp [pace]

@[simp] theorem pace_placeEntry (e : Entry) (s : State) : pace (placeEntry e s) = pace s := rfl

@[simp] theorem pace_placeClerk (kind : Nat) (b : List Byte) (s : State) : pace (placeClerk kind b s) = pace s := by
  unfold placeClerk
  dsimp only
  split
  · rfl
  · split <;> rfl

@[simp] theorem pace_placeTime (kind : Nat) (b : List Byte) (s : State) : pace (placeTime kind b s) = pace s := by
  unfold placeTime
  split <;> rfl

@[simp] theorem pace_placeTimeTick (s : State) : pace (placeTimeTick s) = pace s := by
  unfold placeTimeTick
  dsimp only
  rw [pace_placeTime]
  split
  · rfl
  · split <;> rfl

@[simp] theorem pace_metroMsg (tick : Nat) (s : State) (m : MetroMsg) : pace (metroMsg tick s m) = pace s := by
  cases m
  case start h t =>
    simp only [metroMsg]
    split <;> rfl
  case committed j =>
    simp only [metroMsg]
    split <;> rfl
  all_goals rfl

@[simp] theorem pace_restoreMetro (t : Nat) (s : State) : pace (restoreMetro t s) = pace s :=
  pace_foldl (fun s (c : Channel) => pace_metroMsg t s (.start c.handle t)) _ _

@[simp] theorem pace_driveChan (h : Handle) (what tick : Nat) (s : State) : pace (driveChan h what tick s) = pace s := by
  unfold driveChan
  dsimp only
  (repeat' split) <;> rfl

@[simp] theorem pace_clearFault (f : Nat × Nat) (s : State) : pace (clearFault f s) = pace s := by
  unfold clearFault
  dsimp only
  (repeat' split) <;> rfl

@[simp] theorem pace_driveMsg (m : DriveMsg) (s : State) : pace (driveMsg m s) = pace s := by
  cases m
  case chan h what tick => exact pace_driveChan h what tick s
  case clear fs => exact pace_foldl (fun s f => pace_clearFault f s) fs s
  case lum h x =>
    simp only [driveMsg]
    (repeat' split) <;> rfl
  all_goals rfl

@[simp] theorem pace_restoreDrive (t : Nat) (s : State) : pace (restoreDrive t s) = pace s := by
  unfold restoreDrive
  refine (pace_foldl (fun s (c : Channel) => pace_driveChan c.handle 2 t s) _ _).trans (pace_foldl (fun s (c : Channel) => ?_) _ _)
  split <;> simp

@[simp] theorem pace_resumePlan (s : State) : pace (resumePlan s) = pace s := by
  unfold resumePlan
  dsimp only
  split
  · rfl
  · exact pace_placeClerk ..

@[simp] theorem pace_resumeMeters (p t : Nat) (s : State) : pace (resumeMeters p t s) = pace s := by
  unfold resumeMeters
  dsimp only
  split
  case h_1 r i _ =>
    have placed : pace ((restoredCircuits s.ord).foldl (fun s c => placeEntry { kind := 0x0804, cls := 3, index := 0, body := .raw (holdupBytes r c.1 c.2) } s) s) = pace s :=
      pace_foldl (fun s c => pace_placeEntry _ s) _ s
    split <;> exact placed
  case h_2 => exact pace_foldl (fun s c => pace_gbk ..) _ s

/-- The RESUME tick is open, and the start-up has ended. -/
theorem pace_openResume (t : Nat) (s : State) : pace (openResume t s) = (true, t, 4) := by
  unfold openResume
  dsimp only
  rw [pace_placeTimeTick, pace_restoreDrive, pace_restoreMetro, pace_modSupply, pace_gbk, pace_gbk, pace_resumeMeters, pace_resumePlan, pace_placeClerk]
  rfl

theorem exec_resumeTickOpen {s : State} {t : Nat} (restored : s.boot.stage = 3) (normal : s.mode.coppice = false) (stopped : s.clerk.running = false) (notStandby : s.mode.role ≠ 2)
    (timed : s.time.state ≠ 0) (later : s.clerk.lastTick < t) : exec (.resumeTickOpen t) s = .next (signal (openResume t s)) := by
  have opens : ¬ (s.boot.stage != 3 || s.mode.coppice || s.clerk.running || s.mode.role == 2 || s.time.state == 0 || t ≤ s.clerk.lastTick) = true := by
    simp [restored, normal, stopped, notStandby, timed, later]
  exact if_neg opens

/-! ### TICK_PHASE.RUNNING -/

theorem readReg_tickPhase (s : State) : (readReg 0x2808 s).1 = readWbl s 0x2808 := by
  simp [readReg, readPlain]

/-- Bit 20 of TICK_PHASE shows whether ticks run: the offset and the phase stand below it, LONG above. -/
theorem tickPhase_running (s : State) : bit (readReg 0x2808 s).1 20 = s.clerk.running := by
  rw [readReg_tickPhase]
  cases running : s.clerk.running with
  | false => simp [readWbl, running, bit]
  | true =>
    have below : min s.clerk.offset 262143 + 2 ^ 18 * (s.clerk.tick % 4) < 2 ^ 20 := by omega
    simp only [readWbl, running, if_true, bit, Nat.testBit_eq_decide_div_mod_eq, decide_eq_true_eq]
    omega

/-- Settles O36: while no ticks run the clerk orders nothing, and while the restore runs the opcodes of `readsState` (log entry 25) are answered BUSY ahead of
every other check; the opening of the RESUME tick, whose number is the environment's (log entry 74), sets the pace, which the rest of it keeps. -/
theorem beforeTheResumeTick : Obligations.BeforeTheResumeTick := by
  refine ⟨fun x hx p s taken _ stopped lifecycle => ?notOrdered, fun x hx p s taken _ restoring reads => ?busy, fun x hx p s h => ?executed,
    fun s t restored normal stopped notStandby timed later => ?resume⟩
  case notOrdered =>
    have refused := submitW_closed taken (orderedRow_enters hx) lifecycle (orderingClosed_of_not_running stopped)
    refine ⟨_, by rw [exec_orderedRow x hx, refused], rfl, ?_, ?_⟩ <;> simp
  case busy =>
    obtain ⟨f, -, runs⟩ := exec_immediateRow x hx
    obtain ⟨i, hi⟩ := opInfo_of_passes taken.passes
    have busy := runNow_restoring (s := takeTag p s) ⟨i, hi⟩ restoring (by rw [taken.opcode]; exact reads) f
    rw [taken.opcode] at hi
    rw [runs, submit_runsNow taken hi (immediateRow_runsNow hx hi), busy]
  case executed =>
    obtain ⟨f, ofOpcode, runs⟩ := exec_immediateRow x hx
    exact ⟨f, ofOpcode, by rw [runs, submit_executes h]⟩
  case resume =>
    obtain ⟨running, tick, stage⟩ := pace_eq.mp ((pace_signal _).trans (pace_openResume t s))
    exact ⟨by rw [tickPhase_running, stopped], _, exec_resumeTickOpen restored normal stopped notStandby timed later, by rw [tickPhase_running, running], tick, stage⟩

end Sys2Proof.Machine

namespace Sys2Proof.Machine

/-!
Proofs about the queue and the invariant at reset (O56, O57, O59).
-/

/-- Settles O56: the step of a queue with a front is that equation. -/
theorem stepRunsFront : Obligations.StepRunsFront := by
  intro c rest s front
  simp only [step, front]

/-- Settles O57: a command keeps the queue (`exec_keeps`), and so does the cycle of an empty one (`idle_keeps`). -/
theorem queueOnlyConsumed : Obligations.QueueOnlyConsumed := by
  refine ⟨fun c s t h => (exec_keeps (.refl s) c t h).1, fun c rest s t front h => ?_, fun s empty => ?_⟩
  · rw [stepRunsFront c rest s front] at h
    exact (exec_keeps (.refl _) c t h).1
  · exact ⟨idle s, by simp only [step, empty], (idle_keeps (.refl s)).1.trans empty⟩

/-- Settles O59: the counters at reset are 32 at 0, and the other parts are fields of that state. -/
theorem invAtReset : Obligations.InvAtReset := by
  refine ⟨⟨rfl, fun c hc => ?_⟩, ⟨by decide, by decide, by decide⟩, rfl, by decide, by decide⟩
  rw [List.eq_of_mem_replicate hc]
  decide
end Sys2Proof.Machine

namespace Sys2Proof.Machine

/-!
Facts of the encodings and of the answers' lists that the statements about commands share.
-/

/-! ### Lengths of encoded fields -/

@[simp] theorem le_length (n v : Nat) : (le n v).length = n := by
  induction n generalizing v with
  | zero => rfl
  | succ n ih => simp [le, ih]

@[simp] theorem leS_length (n : Nat) (i : Int) : (leS n i).length = n := le_length ..

@[simp] theorem zeros_length (n : Nat) : (zeros n).length = n := by simp [zeros]

@[simp] theorem fit_length (n : Nat) (b : List Byte) : (fit n b).length = n := by simp [fit]

@[simp] theorem digestBytes_length (d : BitVec 256) : (digestBytes d).length = 32 := le_length ..

/-- A list of items of one size. -/
theorem length_flatten_items {α : Type} {f : α → List Byte} {n : Nat} (size : ∀ x, (f x).length = n) (l : List α) : ((l.map f).flatten).length = n * l.length := by
  induction l with
  | nil => rfl
  | cons x l ih => simp [size, ih, Nat.mul_succ, Nat.add_comm]

/-- A query of ordered state answers OK, or TAINTED. -/
theorem taintedOr_ok (b : Bool) : (if b then Status.tainted else .ok) = .ok ∨ (if b then Status.tainted else .ok) = .tainted := by
  cases b <;> simp

end Sys2Proof.Machine

namespace Sys2Proof.Machine

/-!
Proofs of chapters 22, 4 and 5: the chunks of IMAGE_DATA (O52); identity, bindings and the remote path (O1).
-/

/-! ### IMAGE_DATA (R426) -/

section
variable {p : Packet} {s : State} {held data : List Byte} {off : Nat}

/-- The chunk's checksum is right, and an upload is open that the chunk does not exceed. -/
structure GoodChunk (p : Packet) (s : State) (held data : List Byte) (off : Nat) : Prop where
  bytes : held = (fwSlot s s.firmware.slot).bytes
  chunk : data = p.payload.drop 8
  offset : off = fld p.payload 0 4
  crc : fld p.payload 4 4 = (Config.crc32c data).toNat
  uploading : s.firmware.session = 2
  within : off + data.length ≤ s.firmware.total

/-- A chunk at the bytes held is written behind them. -/
theorem cmdImageData_append (h : GoodChunk p s held data off) (atEnd : off = held.length) (some_ : 0 < data.length) :
    cmdImageData p s = (modFw (fun x => { x with last := s.uptime, slots := modAt x.slots s.firmware.slot (fun y => { y with bytes := y.bytes ++ data }) }) s,
      { payload := le 4 (held.length + data.length) ++ zeros 4 }) := by
  obtain ⟨rfl, rfl, rfl, crc, uploading, within⟩ := h
  have beyond : ¬ fld p.payload 0 4 + (p.payload.drop 8).length ≤ (fwSlot s s.firmware.slot).bytes.length := by omega
  have noGap : (fld p.payload 0 4 != (fwSlot s s.firmware.slot).bytes.length) = false := by simpa using atEnd
  simp only [cmdImageData, crc, uploading, Nat.not_lt.mpr within, beyond, noGap, bne_self_eq_false, Bool.false_eq_true, if_false]

/-- A chunk wholly within the bytes held is compared with them. -/
theorem cmdImageData_compare (h : GoodChunk p s held data off) (inside : off + data.length ≤ held.length) :
    cmdImageData p s = if (held.drop off).take data.length = data then ({ s with firmware := { s.firmware with last := s.uptime } }, { payload := le 4 held.length ++ zeros 4 })
      else (s, { status := .badParam }) := by
  obtain ⟨rfl, rfl, rfl, crc, uploading, within⟩ := h
  simp only [cmdImageData, crc, uploading, Nat.not_lt.mpr within, inside, bne_self_eq_false, Bool.false_eq_true, if_false, if_true, beq_iff_eq]

/-- Any other chunk is refused. -/
theorem cmdImageData_refuse (h : GoodChunk p s held data off) (beyond : held.length < off + data.length) (gap : off ≠ held.length) :
    cmdImageData p s = (s, { status := .badParam }) := by
  obtain ⟨rfl, rfl, rfl, crc, uploading, within⟩ := h
  simp only [cmdImageData, crc, uploading, Nat.not_lt.mpr within, Nat.not_le.mpr beyond, gap, bne_self_eq_false, bne_iff_ne, ne_eq, not_false_eq_true, Bool.false_eq_true, if_false, if_true]

end

/-- Settles O52: a good chunk stands at the end of the bytes held, within them, or elsewhere. -/
theorem imageChunks : Obligations.ImageChunks := by
  intro p s held data off h uploading hheld hdata hoff crc within
  have chunk : GoodChunk p (takeTag p s) held data off := ⟨hheld, hdata, hoff, crc, uploading, within⟩
  refine ⟨fun atEnd some_ => ?append, fun inside same => ?same, fun inside differs => ?differs, fun beyond gap => ?other⟩
  case append => exact ⟨_, answered_of h rfl (cmdImageData_append chunk atEnd some_), rfl⟩
  case same => exact ⟨_, answered_of h rfl ((cmdImageData_compare chunk inside).trans (if_pos same)), rfl⟩
  case differs => exact answered_of h rfl ((cmdImageData_compare chunk inside).trans (if_neg differs))
  case other => exact answered_of h rfl (cmdImageData_refuse chunk beyond gap)

/-! ### Identity, bindings, the remote path -/

theorem cmdMailboxBindSet_ok {p : Packet} (good : ∀ m, m < p.payload.length / 2 → fld p.payload (2 * m) 1 ∈ [0, 1, 4] ∧ fld p.payload (2 * m + 1) 1 ∈ [5, 6, 7]) (s : State) :
    cmdMailboxBindSet p s = (gbk 0x0407 (masterOf s p.path) (le 1 (b2n (!p.payload.isEmpty)))
      { s with host := { s.host with bindRecord := if p.payload.isEmpty then none else some p.payload, bindWaiting := !p.payload.isEmpty } }, {}) := by
  have allGood : (List.range (p.payload.length / 2)).any (fun m => !([0, 1, 4].contains (fld p.payload (2 * m) 1)) || !([5, 6, 7].contains (fld p.payload (2 * m + 1) 1))) = false := by
    rw [List.any_eq_false]
    intro m hm
    obtain ⟨a, b⟩ := good m (List.mem_range.mp hm)
    simp [a, b]
  simp only [cmdMailboxBindSet, allGood, Bool.false_eq_true, if_false]
  cases p.payload.isEmpty <;> rfl

theorem cmdRemoteCfgSet_ok {p : Packet} (port : 1024 ≤ fld p.payload 0 2) (enabled : fld p.payload 2 1 ≤ 3) (s : State) :
    cmdRemoteCfgSet p s = (gbk 0x040A (masterOf s p.path) (le 2 (fld p.payload 0 2) ++ le 1 (fld p.payload 2 1) ++ le 1 (masterOf s p.path))
      { s with paths := { s.paths with udpPort := fld p.payload 0 2, portsEnabled := fld p.payload 2 1 } }, {}) := by
  simp only [cmdRemoteCfgSet, Nat.not_lt.mpr port, Nat.not_lt.mpr enabled, if_false]

/-- Settles O1: each row executes its function, whose refusals the premises exclude. The bytes of the records' details are those of log entry 7. -/
theorem hostCommandsComplete : Obligations.HostCommandsComplete := by
  intro p s
  refine ⟨?deviceInfo, ?echo, ?rankGet, ?bindGet, fun h good => ?bindSet, ?remoteGet, fun h port enabled => ?remoteSet⟩
  case deviceInfo | echo | rankGet | bindGet | remoteGet => exact fun h => answered_of h rfl rfl
  case bindSet => exact answered_of h rfl (by rw [cmdMailboxBindSet_ok good, masterOf_takeTag]; rfl)
  case remoteSet => exact answered_of h rfl (by rw [cmdRemoteCfgSet_ok port enabled, masterOf_takeTag])

end Sys2Proof.Machine

namespace Sys2Proof.Machine

/-!
Proofs of chapters 3, 5 and 21: streams (O2), start-up and recovery (O3).
-/

@[simp] theorem StreamRun.acked_waiting (a : Nat) (r : StreamRun) : (r.acked a).waiting = r.waiting := rfl

/-- Settles O2: each row executes its function on the stream that its handle names; a read of an empty or stopped stream is that of log entry 26. -/
theorem streamCommandsComplete : Obligations.StreamCommandsComplete := by
  intro p s cfg ch
  refine ⟨fun h hs conf remote mine sent window => ?credit, fun h hc hs conf notRemote mine r hr acked sent => ?read, fun h r hr => ?status⟩
  case credit =>
    exact answered_of h rfl (by simp [cmdStreamCredit, hs, conf, remote, mine, Nat.not_lt.mpr sent, Nat.not_lt.mpr window])
  case read =>
    subst hr
    refine ⟨fun hr => ?_, fun hr m hm => ?_, fun hr hn hw => ?_, fun hr hn hw => ?_⟩
    · exact answered_of h rfl (by simp [cmdStreamRead, hc, hs, conf, mine ▸ notRemote, mine, Nat.not_lt.mpr sent, Nat.not_lt.mpr acked, hr])
    · exact answered_of h rfl (by simp [cmdStreamRead, hc, hs, conf, mine ▸ notRemote, mine, Nat.not_lt.mpr sent, Nat.not_lt.mpr acked, hr, hm])
    · exact answered_of h rfl (by simp [cmdStreamRead, hc, hs, conf, mine ▸ notRemote, mine, Nat.not_lt.mpr sent, Nat.not_lt.mpr acked, hr, hn, hw])
    · exact answered_of h rfl (by simp [cmdStreamRead, hc, hs, conf, mine ▸ notRemote, mine, Nat.not_lt.mpr sent, Nat.not_lt.mpr acked, hr, hn, hw])
  case status =>
    subst hr
    exact answered_of h rfl rfl

/-- Settles O3: each row executes its function; the masters of DOMAIN_RESTART are those of the domain it names. -/
theorem recoveryCommandsComplete : Obligations.RecoveryCommandsComplete := by
  intro p s
  refine ⟨fun h kind serial service idle => ?reset, fun h allowed powered idle => ?restart, fun h => ?report, fun h => ?status⟩
  case reset =>
    have permitted : ¬ (fld p.payload 0 1 = 1 ∧ masterOf s p.path ≠ 2) := fun ⟨k, m⟩ => m (service k)
    exact answered_of h rfl (by simp [cmdResetDevice, Nat.not_lt.mpr kind, serial, idle, permitted])
  case restart =>
    have masters : ∃ ms, restartMasters (fld p.payload 0 1) = some ms ∧ masterOf s p.path ∈ ms := by
      rcases allowed with ⟨hd, hm⟩ | ⟨hd, hm⟩
      · refine ⟨[5], ?_, by simp [hm]⟩
        simp only [List.mem_cons, List.not_mem_nil, or_false] at hd
        simp [restartMasters, or_assoc, hd]
      · refine ⟨[0, 1, 2, 3, 5], ?_, hm⟩
        simp only [List.mem_cons, List.not_mem_nil, or_false] at hd
        rcases hd with hd | hd | hd | hd <;> simp [restartMasters, hd]
    obtain ⟨ms, hms, permitted⟩ := masters
    have wired : ¬ (fld p.payload 0 1 = 10 ∧ driveGated (takeTag p s) = true) := fun ⟨k, g⟩ => by rw [show driveGated (takeTag p s) = driveGated s from rfl, powered k] at g; cases g
    have free : (s.boot.domains.any fun x => x.1 == fld p.payload 0 1) = false := by
      simpa using idle
    exact next_of h rfl (a := { later := true }) (by simp [cmdDomainRestart, hms, permitted, wired, free]) rfl
  case report => exact answered_of h rfl rfl
  case status => exact answered_of h rfl rfl

end Sys2Proof.Machine

namespace Sys2Proof.Machine

/-!
Proofs of chapter 3: channels and placement (O4).
-/

/-- Settles O4: each row executes its function on the channel that its handle names. -/
theorem placementCommandsComplete : Obligations.PlacementCommandsComplete := by
  intro p s
  refine ⟨fun h ch c hc notCreated notConfigured room notRebuilt notWaiting hk ring => ?reset, fun h ch hc => ?info, fun h first type most => ?list, fun h l hl => ?lodging,
    fun h hint => ?hint, fun h open_ => ⟨fun unpin => ?unpin, fun pin usable => ?pin⟩, fun h => ?engines⟩
  case reset =>
    have rebuilt : s.inn.rebuilds.any (fun r => r.handle == p.handle) = false := by simpa using notRebuilt
    have waits : s.inn.waiting.any (fun r => r.handle == p.handle) = false := by simpa using notWaiting
    have newest : newestCkpt (takeTag p s) = some c := hk
    have held : ringHolds (takeTag p s) c.tick = true := ring
    exact next_of h rfl (a := { later := true }) (by simp [cmdChannelReset, hc, notCreated, notConfigured, Nat.not_le.mpr room, rebuilt, waits, newest, held]) rfl
  case info => exact reports_of h rfl (by simp only [cmdChannelInfo, takeTag_leaves, hc]; rfl) rfl ⟨rfl, rfl⟩
  case list => exact reports_of h rfl (if_neg (by simp [Nat.not_lt.mpr first, Nat.not_lt.mpr type, most])) rfl ⟨rfl, _, _, rfl, rfl⟩
  case lodging => exact reports_of h rfl (by simp only [cmdLodgingGet, takeTag_leaves, hl]; rfl) rfl ⟨rfl, _, rfl⟩
  case hint => exact answered_of h rfl (if_neg (Nat.not_lt.mpr hint))
  case unpin => exact answered_of h rfl (by simp [cmdChannelPin, open_, unpin])
  case pin =>
    have usable : engineUsable (takeTag p s) (fld p.payload 0 1) = true := usable
    exact answered_of h rfl (by simp [cmdChannelPin, open_, pin, usable])
  case engines =>
    refine reports_of h rfl rfl rfl ⟨rfl, ?_⟩
    exact length_flatten_items (n := 16) (fun e => by simp) _
end Sys2Proof.Machine

namespace Sys2Proof.Machine

/-!
Proofs of chapter 2: waybills, checkpoints and replays (O5).
-/

theorem insertBy_length {α : Type} (f : α → Nat) (x : α) (l : List α) : (insertBy f x l).length = l.length + 1 := by
  induction l with
  | nil => rfl
  | cons y l ih =>
    unfold insertBy
    split
    · rfl
    · simp [ih]

theorem sortBy_length {α : Type} (f : α → Nat) (l : List α) : (sortBy f l).length = l.length := by
  have grows : ∀ acc : List α, (l.foldl (fun acc x => insertBy f x acc) acc).length = acc.length + l.length := by
    induction l with
    | nil => simp
    | cons x l ih => intro acc; simp [ih, insertBy_length, Nat.add_assoc, Nat.add_comm 1]
  simpa [sortBy] using grows []

theorem takeWhile_append_stop {α : Type} {q : α → Bool} {xs rest : List α} {x : α} (all : ∀ y ∈ xs, q y = true) (stop : q x = false) : (xs ++ x :: rest).takeWhile q = xs := by
  simp [List.takeWhile_append, List.takeWhile_eq_self_iff.mpr all, stop]

/-- DIGEST_READ answers the records up to the first whose block of the log store fails. -/
theorem cmdDigestRead_readable {p : Packet} {s : State} {run rs : List DigestRec} (some_ : fld p.payload 8 1 ≠ 0) (most : fld p.payload 8 1 ≤ 63)
    (hrun : digestRun s.clerk (fld p.payload 8 1) (fld p.payload 0 8) = run) (hrs : run.takeWhile (fun r => !s.store.logBad.contains (.digest r.tick)) = rs) (more : rs ≠ []) :
    cmdDigestRead p s = (if rs.length < run.length then logReadFails (.digest (fld p.payload 0 8 + rs.length)) s else s,
      { payload := le 8 (fld p.payload 0 8) ++ le 1 rs.length ++ zeros 7 ++ (rs.map (fun r => digestBytes r.d ++ digestBytes r.o)).flatten }) := by
  simp only [cmdDigestRead, hrun, hrs, beq_false_of_ne some_, Nat.not_lt.mpr most, decide_false, Bool.or_self, Bool.false_eq_true, if_false, List.isEmpty_eq_false_iff.mpr more]

theorem cmdReplay_starts {p : Packet} {s : State} {c : Checkpoint} (ordered : fld p.payload 0 8 ≤ fld p.payload 8 8) (mode : fld p.payload 16 1 ≤ 1) (slow : 1 ≤ fld p.payload 17 1)
    (fast : fld p.payload 17 1 ≤ 8) (idle : s.clerk.replay.busy = false) (base : (s.ckpts.filter (fun c => c.tick < fld p.payload 0 8)).getLast? = some c)
    (past : fld p.payload 8 8 < s.clerk.tick) (ring : ∀ k, c.tick < k → k ≤ fld p.payload 8 8 → ringHas s k = true) (plan : s.ord.plan.fromTick ≤ c.tick) (fw : c.fw = fwVector s) :
    cmdReplay p s =
      ({ s with
          clerk := { s.clerk with
            replay := { job := s.clerk.nextJob, state := 1, first := fld p.payload 0 8, last := fld p.payload 8 8, mode := fld p.payload 16 1, speed := fld p.payload 17 1, next := c.tick + 1 }
            nextJob := s.clerk.nextJob + 1 }
          replayOrd := c.ord },
        { payload := le 4 s.clerk.nextJob ++ le 8 c.tick ++ le 4 (((fld p.payload 8 8 - c.tick) * 250 + fld p.payload 17 1 - 1) / fld p.payload 17 1) }) := by
  have held : (List.range (fld p.payload 8 8 - c.tick)).all (fun k => ringHas s (c.tick + 1 + k)) = true :=
    List.all_eq_true.mpr fun k hk => ring _ (by omega) (by have := List.mem_range.mp hk; omega)
  simp only [cmdReplay, Nat.not_lt.mpr ordered, Nat.not_lt.mpr mode, beq_false_of_ne (Nat.ne_of_gt slow), Nat.not_lt.mpr fast, idle, base, Nat.not_le.mpr past, held, Nat.not_lt.mpr plan, fw,
    decide_false, Bool.or_self, Bool.not_true, bne_self_eq_false, Bool.false_eq_true, if_false]

/-- Settles O5: each row executes its function, the reads part by part. Reads that fail, and the detail of their record, are those of log entries 98, 1 and 7. -/
theorem waybillCommandsComplete : Obligations.WaybillCommandsComplete := by
  intro p s
  refine ⟨fun h => ?quota, fun h w hw some_ most off good => ?waybill, fun h some_ most rs hrs more good => ?digest, fun h some_ most rs r rest hrs more good bad => ?digestFails, fun h => ?ckpts,
    fun h c ordered mode slow fast idle hk past ring plan fw => ?replay, fun h r hr => ?status, fun h busy => ?abort⟩
  case quota => exact answered_of h rfl rfl
  case waybill => exact answered_of h rfl (by simp [cmdWaybillRead, hw, some_, Nat.not_lt.mpr most, Nat.not_le.mpr off, good])
  case digest =>
    have all : rs.takeWhile (fun r => !s.store.logBad.contains (.digest r.tick)) = rs := List.takeWhile_eq_self_iff.mpr fun r hr => by rw [good r hr, Bool.not_false]
    exact answered_of h rfl ((cmdDigestRead_readable (s := takeTag p s) some_ most hrs all more).trans (by rw [if_neg (lt_irrefl _)]))
  case digestFails =>
    have cut : (rs ++ r :: rest).takeWhile (fun r => !s.store.logBad.contains (.digest r.tick)) = rs :=
      takeWhile_append_stop (fun r hr => by rw [good r hr, Bool.not_false]) (by rw [bad, Bool.not_true])
    exact answered_of h rfl ((cmdDigestRead_readable (s := takeTag p s) some_ most hrs cut more).trans (by rw [if_pos (by simp)]))
  case ckpts =>
    refine reports_of h rfl rfl rfl ⟨rfl, _, by simp only [sortBy_length, List.length_append, List.length_map, takeTag_leaves]; rfl, ?_⟩
    rw [length_flatten_items (n := 48) (fun x => by simp)]
    simp [sortBy_length]
  case replay => exact answered_of h rfl (cmdReplay_starts (s := takeTag p s) ordered mode slow fast idle hk past ring plan fw)
  case status => subst hr; exact answered_of h rfl rfl
  case abort => exact answered_of h rfl (by simp [cmdReplayAbort, busy, abortReplay])
end Sys2Proof.Machine

namespace Sys2Proof.Machine

/-!
Proofs of chapter 6: plans and the registry (O6).
-/
/-- Settles O6: each row executes its function, by the state of the session. The slot at generation 0 is the model's; reads as of a released tick are those of log entry 45. -/
theorem planCommandsComplete : Obligations.PlanCommandsComplete := by
  intro p s
  refine ⟨fun h idle k hk => ?begin_, fun h sec n hsec hn size some_ one items building mine pl hpl => ?load, fun h open_ owner notSwitched => ?abort, fun h => ?status,
    fun h n pl hn range placed => ?get, fun h ch c r hc hs hr ordered range running selects idle => ?export_, fun h kind most key hkind hmost hkey kinds some_ room links ids groups => ?find⟩
  case begin_ =>
    subst hk
    exact answered_of h rfl (by simp [cmdPlanBegin, idle]; constructor <;> rfl)
  case load =>
    subst hsec hn hpl
    have good : ¬ (planItemSize (fld p.payload 0 1) == 0 || fld p.payload 2 2 == 0 || (fld p.payload 0 1 == 1 && fld p.payload 2 2 != 1) ||
      !(chunks (planItemSize (fld p.payload 0 1)) (fld p.payload 2 2) (p.payload.drop 8)).all (planItemOk (fld p.payload 0 1))) = true := by
      rw [items]; simpa [size, some_] using one
    exact answered_of h rfl ((if_neg good).trans (by simp [building, mine]))
  case abort =>
    have permitted : ¬ (masterOf s p.path ≠ s.plan.owner ∧ masterOf s p.path ≠ 2) := by tauto
    have standing : ¬ (s.plan.state = 2 ∧ s.plan.switched = true) := fun ⟨a, b⟩ => by simp [notSwitched a] at b
    exact answered_of h rfl (by simp [cmdPlanAbort, open_, permitted, standing, abandonPlan])
  case status => exact reports_of h rfl rfl rfl ⟨rfl, _, by simp only [List.append_assoc, takeTag_leaves, beq_iff_eq]; rfl⟩
  case get =>
    subst hn
    exact reports_of h rfl (by simp only [cmdRegistryGet, Nat.not_lt.mpr range, if_false, takeTag_leaves, placed]; rfl) rfl ⟨rfl, rfl⟩
  case export_ =>
    exact answered_of h rfl (by simp [cmdRegistryExport, hc, hs, hr, Nat.not_lt.mpr ordered, Nat.not_lt.mpr range, running, selects, idle])
  case find =>
    refine reports_of h rfl (by
      simp only [cmdRegistryFind, takeTag_leaves, hkind, hmost, hkey]
      exact (if_neg (by
        have linkKey : ¬ (kind = 1 ∧ (4095 < fld key 0 2 ∨ fld key 8 4 < fld key 4 4)) := fun ⟨k, bad⟩ => by have := links k; omega
        have idKey : ¬ (kind = 2 ∧ ((7 < fld key 0 1 ∧ fld key 0 1 ≠ 255) ∨ 3 < fld key 1 1)) := fun ⟨k, bad⟩ => by have := ids k; omega
        simp [Nat.not_lt.mpr kinds, Nat.ne_of_gt some_, Nat.not_lt.mpr room, linkKey, idKey])).trans (if_neg (by simpa using groups))) rfl ⟨rfl, _, _, rfl, rfl⟩
end Sys2Proof.Machine

namespace Sys2Proof.Machine

/-!
Proofs of chapters 7 to 10: the queries of light, the escort, loops and drives (O7).
-/
/-- Settles O7: each query is of the released order (log entry 45), and its channel answers for itself or as tainted. -/
theorem controlQueriesComplete : Obligations.ControlQueriesComplete := by
  intro p s ch
  refine ⟨fun h hc g hg => ?group, fun h n placed => ?lantern, fun h hc x sol hx configured year year' month month' day day' hsol => ?solar, fun h hc => ?escort,
    fun h some_ most first => ?tracks, fun h x hx => ?loop, fun h hc r hr running => ?arm, fun h r hr used some_ most node rows => ?read, fun h hc l hl => ?drive⟩
  case group =>
    refine reports_of h rfl (by simp only [cmdGroupStatus, takeTag_leaves, hc, hg]; rfl) rfl ⟨rfl, ?_, _, by simp only [List.append_assoc]; rfl⟩
    rw [List.length_append, length_flatten_items (n := 16)]
    · simp
    · intro k
      split <;> simp
  case lantern =>
    exact reports_of h rfl ((if_neg (Nat.not_lt.mpr n)).trans (if_neg (by simpa [← Option.isSome_iff_ne_none] using placed))) rfl ⟨taintedOr_ok _, _, by simp only [List.append_assoc]; rfl⟩
  case solar =>
    subst hsol
    exact reports_of h rfl (by simp only [cmdSolarGet, takeTag_leaves, hc, hx]; exact (if_neg (by simp; omega)).trans (if_neg configured)) rfl ⟨rfl, rfl⟩
  case escort => exact reports_of h rfl (by simp only [cmdEscortStatus, takeTag_leaves, hc]; rfl) rfl ⟨rfl, _, by simp only [List.append_assoc]; rfl⟩
  case tracks =>
    refine reports_of h rfl (if_neg ?_) rfl ⟨taintedOr_ok _, _, _, rfl, rfl⟩
    simp only [Bool.or_eq_true, decide_eq_true_eq, beq_iff_eq]
    omega
  case loop =>
    refine reports_of h rfl (by simp only [cmdLoopStatus, takeTag_leaves, hx]; rfl) rfl ⟨taintedOr_ok _, _, by simp only [List.append_assoc, beq_iff_eq]; rfl⟩
  case arm =>
    refine ⟨fun a => ?_, fun a st => ?_, fun a st => ?_⟩
    · exact answered_of h rfl (by simp [cmdTraceArm, hc, hr, running, a])
    · exact answered_of h rfl (by simp [cmdTraceArm, hc, hr, running, a, st]; rfl)
    · exact answered_of h rfl (by simp [cmdTraceArm, hc, hr, running, a, st])
  case read =>
    exact reports_of h rfl (by
      simp only [cmdTraceRead, takeTag_leaves, hr]
      exact (if_neg (by simp; omega)).trans ((if_neg (by simpa using used)).trans (if_neg (by simp; omega)))) rfl ⟨rfl, by simp only [beq_iff_eq]⟩
  case drive => exact reports_of h rfl (by simp only [cmdDriveStatus, takeTag_leaves, hc, hl]; rfl) rfl ⟨rfl, _, by simp only [List.append_assoc]; rfl⟩
end Sys2Proof.Machine

namespace Sys2Proof.Machine

/-!
Proofs of chapters 11 and 12: calibration, and the queries of metering and energy (O8).
-/
/-- Settles O8: each row executes its function; the reads go through the log, where what cannot be read fails as in log entry 98. -/
theorem meteringCommandsComplete : Obligations.MeteringCommandsComplete := by
  intro p s ch
  refine ⟨fun h b hb step input pair path cycles cycles' angle idle j hj volts amps residual => ?cal, fun h j hj => ?calStatus, fun h hc notCreated notConfigured r t b hr last => ?meter,
    fun h c z hc phase phase' quantity hz => ?harmonics, fun h hc notCreated notConfigured c m hcir hm => ?energy,
    fun h k hk device kind some_ most all hall found got hgot part hpart => ?interval, fun h => ?balance, fun h => ?residue⟩
  case cal =>
    subst hb hj
    have inputOk : ¬ (if (CalJob.target { step := fld p.payload 0 1, input := fld p.payload 1 1, path := fld p.payload 3 1 }).1 == 0 then decide (3 < fld p.payload 1 1) else decide (15 < fld p.payload 1 1)) = true := by
      split
      case isTrue voltage => simpa using volts (by simpa using voltage)
      case isFalse => simpa using input
    have pairOk : ¬ (if fld p.payload 0 1 == 4 then decide (2 < fld p.payload 2 1) else fld p.payload 2 1 != 0) = true := by
      split
      case isTrue four => simp at four; simp; omega
      case isFalse other => simp at other; simp; omega
    refine ⟨_, ?_, ?_, ?_, ?_, ?_, answered_of h rfl ((if_neg ?_).trans ((if_neg (by simpa using idle)).trans (if_neg ?_)))⟩
    case refine_6 =>
      simp only [Bool.or_eq_true, not_or]
      exact ⟨⟨⟨⟨⟨⟨by simpa using step, inputOk⟩, pairOk⟩, by simpa using path⟩, by simpa using cycles⟩, by simpa using cycles'⟩, by simpa using angle⟩
    case refine_7 =>
      simp only [Bool.and_eq_true, Bool.or_eq_true, beq_iff_eq]
      rintro ⟨current, ⟨range, set⟩ | ⟨range, set⟩⟩
      · cases set.symm.trans (amps current range)
      · cases set.symm.trans (residual current range)
    all_goals rfl
  case calStatus => subst hj; exact answered_of h rfl rfl
  case meter =>
    exact reports_of h rfl (by simp only [cmdMeterRead, takeTag_leaves, hc, hr, last]; exact if_neg (by simp [notCreated, notConfigured])) rfl ⟨rfl, _, by simp only [List.append_assoc]; rfl⟩
  case harmonics =>
    have bad : ¬ (fld p.payload 0 1 = 0 ∨ c.phases.length < fld p.payload 0 1 ∨ 1 < fld p.payload 1 1) := by omega
    exact answered_of h rfl (by
      simp only [cmdHarmonicsRead, takeTag_leaves, hc, hz]
      exact if_neg (by simp; omega))
  case energy =>
    subst hm
    exact reports_of h rfl (by simp only [cmdEnergyRead, takeTag_leaves, hc, hcir]; exact if_neg (by simp [notCreated, notConfigured])) rfl ⟨taintedOr_ok _, rfl⟩
  case interval =>
    have listed : (all.find? (fun r => r.1 == fld p.payload 4 4)).isNone = false := by
      obtain ⟨r, hr, first⟩ := found
      simpa [Option.isNone_eq_false_iff] using ⟨r.2, first ▸ hr⟩
    have args : ¬ ((p.handle == deviceHandle && decide (7 < fld p.payload 0 1)) || !(fld p.payload 1 1 == 2 || fld p.payload 1 1 == 3) || fld p.payload 2 1 == 0 || decide (30 < fld p.payload 2 1)) = true := by
      simp only [Bool.or_eq_true, Bool.and_eq_true, beq_iff_eq, decide_eq_true_eq, Bool.not_eq_true', Bool.or_eq_false_iff, beq_eq_false_iff_ne]
      rintro (((⟨dev, big⟩ | ⟨not2, not3⟩) | none_) | many)
      · exact absurd (device dev) (Nat.not_le.mpr big)
      all_goals omega
    have read : cmdIntervalRead p (takeTag p s) = (match (got.map (fun r => part r.1)).find? s.store.logBad.contains with
      | some x => (logReadFails x (takeTag p s), { status := .storeError })
      | none => (takeTag p s, { payload := le 1 got.length ++ zeros 7 ++ (got.map (·.2)).flatten })) := by
      refine (if_neg args).trans ?_
      have parts : (fun r : Nat × List Byte => if fld p.payload 1 1 = 2 then LogPart.interval k r.1 else .balance k r.1) = fun r => part r.1 := by
        funext r
        rw [hpart]
        split <;> rfl
      simp only [beq_iff_eq, takeTag_leaves, ← hk, ← hall, ← hgot, listed, parts, Bool.false_eq_true, if_false] <;> rfl
    refine ⟨fun good => ?_, fun x hx => ?_⟩
    · have none_ : (got.map (fun r => part r.1)).find? s.store.logBad.contains = none := by simpa using good
      exact reports_of h rfl (by rw [read, none_]) rfl ⟨rfl, rfl⟩
    · exact answered_of h rfl (by rw [read, hx])
  case balance => exact reports_of h rfl rfl rfl ⟨taintedOr_ok _, _, by simp only [List.append_assoc]; rfl⟩
  case residue => exact reports_of h rfl rfl rfl ⟨rfl, _, rfl⟩
end Sys2Proof.Machine

namespace Sys2Proof.Machine

/-!
Proofs of chapters 13 to 16: the queries of radios, partners and sessions (O9); time bases and the calendar (O10).
-/
/-- Settles O9: each row executes its function; the image load takes the chunk that its offset places (log entry 39). -/
theorem radioCommandsComplete : Obligations.RadioCommandsComplete := by
  intro p s ch
  refine ⟨fun h radio => ?radio, fun h => ?regulatory, fun h n hn range placed => ?partner, fun h some_ most flags => ?faults,
    fun h hc notRunning notHeld x hx least greatest more offset total short => ?image, fun h hc x hx => ?session⟩
  case radio => exact reports_of h rfl (if_neg (Nat.not_lt.mpr radio)) rfl ⟨rfl, _, by simp only [List.append_assoc]; rfl⟩
  case regulatory => exact reports_of h rfl rfl rfl ⟨rfl, _, by simp only [List.append_assoc]; rfl⟩
  case partner =>
    subst hn
    exact reports_of h rfl ((if_neg (Nat.not_lt.mpr range)).trans (if_neg (by simpa [← Option.isSome_iff_ne_none] using placed))) rfl ⟨rfl, rfl⟩
  case faults => exact reports_of h rfl (if_neg (by simp; omega)) rfl ⟨rfl, _, _, _, rfl, rfl⟩
  case image =>
    have same : (if fld p.payload 0 4 == 0 && (streamerOf (takeTag p s) (hSlot p.handle)).placed then { slot := (streamerOf (takeTag p s) (hSlot p.handle)).slot } else streamerOf (takeTag p s) (hSlot p.handle)) = x := by
      rw [hx]; simp only [Bool.and_eq_true, beq_iff_eq]; rfl
    have totals : ¬ (0 < x.bytes.length ∧ fld p.payload 4 4 ≠ x.total) := by
      rintro ⟨begun, differs⟩
      rcases total with none_ | total
      · simp [none_] at begun
      · exact differs total
    exact answered_of h rfl (by
      simp only [cmdSessionImageLoad, takeTag_leaves, hc, same, more]
      exact (if_neg (by simp [bit, -List.length_drop]; omega)).trans ((if_neg (by simp [notRunning, notHeld])).trans (if_pos rfl)))
  case session => exact reports_of h rfl (by simp only [cmdSessionStatus, takeTag_leaves, hc, hx]; rfl) rfl ⟨rfl, _, by simp only [List.append_assoc]; rfl⟩

/-- Settles O10: each row executes its function on the base or the calendar that it names. -/
theorem timeCommandsComplete : Obligations.TimeCommandsComplete := by
  intro p s b hb
  subst hb
  refine ⟨fun h distinct dA dB pA pB mode src bw bw' ab ab' mm mm' noConflict sameA sameB => ?config, fun h => ?status, fun h dest locked idle => ?select,
    fun h i hi port base enable mech transport transport' resp timeout timeout' asym an an' sy sy' de de' noConflict inactive => ?ptp,
    fun h c hc inMode edge cable th th' outOn outBase pol width width' off off' => ?pps, fun h => ?rtcSet, fun h t ht => ?rtcGet, fun h free => ?trim, fun h period => ?wake⟩
  case config =>
    have stay : ((baseAt (takeTag p s).time 0).domain != fld p.payload 0 1) = false ∧ ((baseAt (takeTag p s).time 1).domain != fld p.payload 1 1) = false := by simp [sameA, sameB]
    refine ⟨_, answered_of h rfl ((if_neg (by simp; omega)).trans ((if_neg (by simpa using noConflict)).trans (by rw [stay.1, stay.2]))), ?_⟩
    exact ⟨rfl, rfl, rfl, rfl, by simp; rfl, rfl, rfl, rfl, rfl⟩
  case status => exact reports_of h rfl rfl rfl ⟨rfl, _, by simp only [List.append_assoc, beq_iff_eq]; rfl⟩
  case select =>
    have select : cmdTimeSelect p (takeTag p s) = (if s.time.source == fld p.payload 0 1 then (takeTag p s, { payload := le 8 (tickNow s) })
        else ({ takeTag p s with time := { s.time with pendingSwitch := some (fld p.payload 0 1, 1) } }, { payload := le 8 (tickNow s + 1) })) :=
      (if_neg (by simp; omega)).trans ((if_neg (by simpa using locked)).trans (if_neg (by simp [idle])))
    refine ⟨fun current => ?_, fun other => ?_⟩
    · exact answered_of h rfl (select.trans (if_pos (by simpa using current)))
    · exact answered_of h rfl (select.trans (if_neg (by simpa using other)))
  case ptp =>
    subst hi
    dsimp only at mech transport transport' resp timeout timeout' asym an an' sy sy' de de'
    have idle : ¬ ((instAt (takeTag p s).time (fld p.payload 0 1) (fld p.payload 1 1)).state == 2) = true := by simpa using inactive
    exact answered_of h rfl ((if_neg (by simp; omega)).trans ((if_neg (by simp [noConflict]; omega)).trans (by rw [if_neg idle])))
  case pps =>
    subst hc
    dsimp only at inMode edge cable th th' outBase pol width width' off off'
    exact answered_of h rfl ((if_neg (by simp; omega)).trans (by simp only [beq_iff_eq]; rfl))
  case rtcSet => exact next_of h rfl (a := { later := true }) rfl rfl
  case rtcGet => subst ht; exact answered_of h rfl rfl
  case trim => exact answered_of h rfl ((if_neg (by simpa using free)).trans (by simp [setTrim]))
  case wake => exact answered_of h rfl ((if_neg (Nat.not_lt.mpr period)).trans (by simp [setWake]))
end Sys2Proof.Machine

namespace Sys2Proof.Machine

/-!
Proofs of chapters 19 and 20: the commands of the Guestbook and of the twin (O12).
-/

theorem modTwin_twin (f : Twin → Twin) (s : State) : (modTwin f s).twin = f s.twin := rfl

@[simp] theorem setRole_leaves (new : Nat) (s : State) : (setRole new s).twin.cfg = s.twin.cfg ∧ (setRole new s).ord = s.ord ∧ (setRole new s).clerk = s.clerk := by
  cases same : s.twin.role == new with
  | true => simp only [setRole, same, if_true, and_self]
  | false =>
    cases main : new == 1 <;> simp only [setRole, same, main, if_true, Bool.false_eq_true, if_false] <;> simp [announceShared, modTwin_twin]

/-- Settles O12: each row executes its function, by area, role or path; GBK_CLEAR checks in the order of log entry 60. -/
theorem guestbookAndTwinCommandsComplete : Obligations.GuestbookAndTwinCommandsComplete := by
  intro p s b hb
  subst hb
  refine ⟨fun h some_ most first rs hrs => ?read, fun h thawed idle t token low high => ?clear, fun h => ?gbkStatus, fun h c hc enable sides key udp usable leaves same => ?config, fun h => ?twinStatus,
    fun h n hn => ⟨fun x mode role peer standby heard none_ => ?handover, fun mode role at_ hat => ?takeover⟩, fun h => ?paths⟩
  case read =>
    subst hrs
    exact ⟨_, answered_of h rfl ((if_neg (by simp; omega)).trans (if_neg (Nat.not_lt.mpr first))), rfl, _, _, rfl⟩
  case clear =>
    refine next_of h rfl (a := { later := true }) ?_ rfl
    refine (if_neg (by simp [thawed, idle])).trans ?_
    rw [masterOf_takeTag, token]
    exact if_neg (by simp; omega)
  case gbkStatus => exact reports_of h rfl rfl rfl ⟨rfl, _, by simp only [List.append_assoc]; rfl⟩
  case config =>
    subst hc
    have config : ∃ t, cmdTwinConfig p (takeTag p s) = (t, {}) ∧ t.twin.cfg = parseTwinCfg p.payload ∧ t.ord = s.ord ∧ t.clerk = s.clerk := by
      have args : ¬ (decide (1 < fld p.payload 0 1) || decide (1 < fld p.payload 1 1) || decide (63 < (parseTwinCfg p.payload).key) || decide ((parseTwinCfg p.payload).udp < 1024)) = true := by
        simp; omega
      have allowed : ¬ ((s.twin.cfg.enable && !(parseTwinCfg p.payload).enable && s.twin.role != 0 && s.twin.role != 1) ||
          (((parseTwinCfg p.payload).key != s.twin.cfg.key || (parseTwinCfg p.payload).eui != s.twin.cfg.eui) && s.twin.role != 0)) = true := by
        simp only [Bool.or_eq_true, Bool.and_eq_true, Bool.not_eq_true', bne_iff_ne]
        rintro (⟨⟨⟨on, off⟩, role0⟩, role1⟩ | ⟨changed, role⟩)
        · have := leaves on off; omega
        · rcases same with ⟨sameKey, sameEui⟩ | none_
          · exact changed.elim (· sameKey) (· sameEui)
          · exact role none_
      simp only [cmdTwinConfig, args, takeTag_leaves, usable, allowed, Bool.false_eq_true, if_false]
      split_ifs <;> exact ⟨_, rfl, by simp [modTwin]⟩
    obtain ⟨t, ht, kept⟩ := config
    exact ⟨t, answered_of h rfl ht, kept⟩
  case twinStatus => exact reports_of h rfl rfl rfl ⟨rfl, _, _, by simp only [List.append_assoc]; rfl⟩
  case handover =>
    subst hn
    have ready : (s.twin.heardTw || s.twin.heardUdp || s.twin.gotTw || s.twin.gotUdp) = true := heard
    exact answered_of h rfl (by simp only [cmdTwinSwitch, takeTag_leaves, mode, role, peer, standby, ready, none_]; rfl)
  case takeover =>
    subst hat hn
    have standby : ((s.twin.role != 3) && (s.twin.role != 4)) = false := by rcases role with role | role <;> simp [role]
    exact answered_of h rfl (by simp [cmdTwinSwitch, mode, standby])
  case paths => exact reports_of h rfl rfl rfl ⟨rfl, _, by simp only [List.append_assoc]; rfl⟩
end Sys2Proof.Machine

namespace Sys2Proof.Machine

/-!
Proofs of chapters 22 to 24: images, counters, the test multiplexer and supplies (O13).
-/
@[simp] theorem fwSlot_takeTag (p : Packet) (s : State) (k : Nat) : fwSlot (takeTag p s) k = fwSlot s k := rfl
@[simp] theorem slotIn_takeTag (p : Packet) (s : State) (k : Nat) : slotIn (takeTag p s) k = slotIn s k := rfl
@[simp] theorem stageTarget_takeTag (p : Packet) (s : State) : stageTarget (takeTag p s) = stageTarget s := rfl
@[simp] theorem muxFree_takeTag (p : Packet) (s : State) : muxFree (takeTag p s) = muxFree s := rfl
@[simp] theorem debugOpen_takeTag (p : Packet) (s : State) : debugOpen (takeTag p s) = debugOpen s := rfl

/-- Settles O13: each row executes its function; the images by the state of their session. -/
theorem serviceCommandsComplete : Obligations.ServiceCommandsComplete := by
  intro p s b hb
  subst hb
  refine ⟨fun h noTrial idle => ⟨fun op least greatest => ?stage, fun op k hk epoch => ?revert, fun op prefix_ => ?store⟩, fun h held data hheld hdata crc uploading offset within some_ => ?data,
    fun h uploading => ?end_, fun h => ?status, fun h => ⟨fun uploading served => ?abortUpload, fun reading none_ => ?abortWaits, fun idle k hk => ?abortStaged⟩, fun h => ?info, fun h k src => ?counter,
    fun h t ht => ?snapshot, fun h => ⟨fun free lease => ?muxFree, fun locked open_ least greatest => ?mux⟩, fun h => ?supply, fun h low high lo hi => ?thermal, fun h => ?power⟩
  case stage =>
    exact next_of h rfl (a := { later := true }) (by simp [cmdImageBegin, op, noTrial, idle, Nat.not_lt.mpr least, Nat.not_lt.mpr greatest]) rfl
  case revert =>
    exact answered_of h rfl (by simp [cmdImageBegin, op, noTrial, idle, hk, Nat.not_lt.mpr epoch])
  case store =>
    exact answered_of h rfl (by simp [cmdImageBegin, op, noTrial, idle]; omega)
  case data =>
    have chunk : GoodChunk p (takeTag p s) held data (fld p.payload 0 4) := ⟨hheld, hdata, rfl, crc, uploading, by rw [offset]; exact within⟩
    exact answered_of h rfl (cmdImageData_append chunk offset some_)
  case end_ => exact next_of h rfl (a := { later := true }) (if_neg (by simpa using uploading)) rfl
  case status => exact reports_of h rfl rfl rfl ⟨rfl, _, by simp only [List.append_assoc]; rfl, by simp⟩
  case abortUpload => exact answered_of h rfl (by simp [cmdImageAbort, uploading, served])
  case abortWaits => exact next_of h rfl (a := { later := true }) (by simp [cmdImageAbort, reading, none_]) rfl
  case abortStaged =>
    exact answered_of h rfl (by simp [cmdImageAbort, idle, hk])
  case info => exact answered_of h rfl rfl
  case counter => exact answered_of h rfl (if_neg (by simp; omega))
  case snapshot =>
    subst ht
    exact answered_of h rfl (Prod.ext rfl (congrArg (fun b : List Byte => ({ payload := b } : Ans)) (by simp [takeSnapshot, modCnt, tickNow, Function.comp_def])))
  case muxFree => exact answered_of h rfl ((if_neg (by simp; omega)).trans (if_pos free))
  case mux => exact answered_of h rfl ((if_neg (by simp; omega)).trans (by simp [locked, open_]; omega))
  case supply =>
    refine ⟨_, answered_of h rfl rfl, rfl, ?_⟩
    simp only [List.length_append, le_length]
    rw [length_flatten_items (n := 8) (fun k => by simp)]
    rfl
  case thermal => exact answered_of h rfl ((if_neg (by simp; omega)).trans (by simp))
  case power => exact reports_of h rfl rfl rfl ⟨rfl, _, by simp only [List.append_assoc]; rfl⟩
end Sys2Proof.Machine

namespace Sys2Proof.Machine

/-!
Proofs of chapters 2, 3, 5 and 6: what rank, quotas, plans, streams and a channel's life do in their tick (O38).
-/

/-! ### The table of generations -/

/-- What has been put under a key is found there. -/
theorem look_put_self {α : Type} (k : Nat) (v : α) (l : List (Nat × α)) : look k (put k v l) = some v := by
  induction l with
  | nil => simp [put, look]
  | cons x l ih =>
    obtain ⟨k', v'⟩ := x
    unfold put
    split
    · simp [look]
    split
    · simp [look]
    · rename_i other
      simpa [look, List.find?_cons, show (k' == k) = false by simpa using Ne.symm other] using ih

theorem lookD_put_self {α : Type} (k : Nat) (v d : α) (l : List (Nat × α)) : lookD k d (put k v l) = v := by
  simp [lookD, look_put_self]

/-! ### The channels, and the slots and generations of handles, in a computation -/

/-- The live channels, the slots freed in this tick, and the generations of the slots. -/
def roster (c : Calc) : List Channel × List Nat × List (Nat × Nat) := (c.ord.channels, c.ord.freed, c.ord.gens)

theorem roster_foldl {α : Type} {g : Calc → α → Calc} (round : ∀ c x, roster (g c x) = roster c) (l : List α) (c : Calc) : roster (l.foldl g c) = roster c :=
  List.foldlRecOn l g (motive := fun d => roster d = roster c) rfl fun d kept x _ => (round d x).trans kept

@[simp] theorem roster_answerLater (p : Packet) (status : Nat) (b : List Byte) (c : Calc) : roster (c.answerLater p status b) = roster c := by
  unfold Calc.answerLater
  split <;> rfl

@[simp] theorem roster_freeLoops (h : Handle) (c : Calc) : roster (c.freeLoops h) = roster c := by
  unfold Calc.freeLoops
  exact (roster_foldl (fun c a => roster_answerLater ..) _ _).trans (roster_foldl (g := fun c (x : LoopSlot) => c.toDrive (.free x.slot)) (fun _ _ => rfl) _ _)

@[simp] theorem roster_count (src n : Nat) (c : Calc) : roster (c.count src n) = roster c := rfl
@[simp] theorem roster_toMetro (x : MetroMsg) (c : Calc) : roster (c.toMetro x) = roster c := rfl
@[simp] theorem roster_toDrive (x : DriveMsg) (c : Calc) : roster (c.toDrive x) = roster c := rfl
@[simp] theorem roster_stream (sel key : Nat) (b : List Byte) (c : Calc) : roster (c.stream sel key b) = roster c := rfl
@[simp] theorem roster_modMeter (k : Nat) (f : Meter → Meter) (c : Calc) : roster (c.modMeter k f) = roster c := rfl
@[simp] theorem roster_meterItem (tainted : Bool) (k kind : Nat) (body : List Byte) (c : Calc) : roster (meterItem tainted k kind body c) = roster c := rfl

@[simp] theorem roster_closeInterval (tainted : Bool) (k : Nat) (short : Bool) (c : Calc) : roster (c.closeInterval tainted k short) = roster c := by
  simp only [Calc.closeInterval, roster_meterItem, apply_ite roster, roster_count, roster_stream, roster_modMeter, ite_self]

/-- CHANNEL_DESTROY of a channel that nothing refers to ends what the channel runs, and then takes it off the roster (R46). -/
theorem ordChannelDestroy_free {m : Nat} {p : Packet} {c : Calc} {ch : Channel} (hc : chanOf c.ord p.handle = some ch) (free : referrer c ch = none) :
    ∃ d, roster d = roster c ∧ ordChannelDestroy m p c =
      ((({ d with ord := { d.ord with
          channels := d.ord.channels.filter (fun x => x.handle != p.handle)
          freed := d.ord.freed ++ [hSlot p.handle]
          gens := put (hSlot p.handle) (nextGen (lookD (hSlot p.handle) 1 d.ord.gens)) d.ord.gens } } : Calc).derive 0x0602 m (le 4 p.handle.toNat)).count 0x028 1, {}) := by
  refine ⟨_, ?_, by simp only [ordChannelDestroy, hc, free]; rfl⟩
  have quiet : roster (if hType p.handle == 5 || hType p.handle == 6 || hType p.handle == 9 then (c.freeLoops p.handle).toDrive (.chan p.handle 4 (c.freeLoops p.handle).tick) else c.freeLoops p.handle) = roster c := by
    rw [apply_ite roster, roster_toDrive, roster_freeLoops, ite_self]
  split
  · split
    · rw [roster_toMetro, apply_ite roster, roster_closeInterval, ite_self, quiet]
    · exact quiet
  · exact quiet

/-- Settles O38. Each clause follows its handler through the refusals, which its premises exclude one after the other. -/
theorem channelCommandsTakeEffect : Obligations.ChannelCommandsTakeEffect := by
  intro n m p c b h hb hh
  subst hb hh
  refine ⟨fun all => ?rank, fun qs new hqs hnew some_ most ranges sums => ?quota, fun building mine gen good => ?plan,
    fun ch sels cfg hc notRunning master some_ most hsels known least greatest spill room hcfg => ?stream, fun t slot new ht t1 t9 hint hs limit loops store hnew => ?create,
    fun ch hc st => ?start, fun ch hc st => ?hold, fun ch hc st => ?release, fun ch hc => ⟨fun st => ?notStart, fun st => ?notHold, fun st => ?notRelease⟩, fun ch hc free => ?destroy, fun ch r hc referred => ?refers⟩
  case rank =>
    refine ⟨ordRankSet, rfl, if_neg ?_⟩
    simp only [Bool.not_eq_true', Bool.not_eq_false, List.all_eq_true, List.mem_range, List.contains_iff_mem, List.mem_map]
    simpa using all
  case quota =>
    subst hqs hnew
    refine ⟨_, ⟨ordQuotaSet, rfl, (if_neg ?args).trans (if_neg ?ranges)⟩, ?_⟩
    case args =>
      simp only [Bool.or_eq_true, List.isEmpty_iff, decide_eq_true_eq, List.any_eq_true]
      rintro ((none_ | many) | ⟨q, hq, unknown⟩)
      · exact some_ none_
      · omega
      · obtain ⟨e, k, range, -⟩ := ranges q hq
        simp [range] at unknown
    case ranges =>
      simp only [Bool.or_eq_true, Bool.not_eq_true', List.any_eq_true]
      rintro (⟨q, hq, out⟩ | exceeds)
      · obtain ⟨e, k, range, within⟩ := ranges q hq
        simp [range] at out
        omega
      · exact absurd (sums.symm.trans exceeds) (by simp)
    exact List.foldlRecOn (quotaItems p.payload) _ (motive := fun d : Calc => d.ord = _) rfl fun d kept q _ => kept
  case plan =>
    refine ⟨(ordPlanCommit m p c).1, (ordPlanCommit m p c).2, ⟨ordPlanCommit, rfl, rfl⟩, ?_⟩
    simp only [ordPlanCommit, building, mine, gen, good, bne_self_eq_false, Bool.false_eq_true, if_false, Bool.and_false]
    exact ⟨trivial, rfl, rfl, trivial⟩
  case stream =>
    subst hcfg hsels
    refine ⟨ordStreamConfig, rfl, ?_⟩
    have unknown : ¬ (decide (3 < fld p.payload 0 1) || ((List.range (fld p.payload 1 1)).map (fun i => (⟨fld p.payload (32 + 8 * i) 2, fld p.payload (36 + 8 * i) 4⟩ : Selector))).any (fun x => !selectorKnown x.code)) = true := by
      simp only [Bool.or_eq_true, decide_eq_true_eq, List.any_eq_true, not_or, not_exists, Bool.not_eq_true']
      exact ⟨by omega, fun x hx => by simp [(known x hx.1).1] at hx⟩
    have filters : ((List.range (fld p.payload 1 1)).map (fun i => (⟨fld p.payload (32 + 8 * i) 2, fld p.payload (36 + 8 * i) 4⟩ : Selector))).any (fun x => x.code == 0x0301 && x.filter != 0) = false := by
      rw [List.any_eq_false]
      intro x hx both
      simp only [Bool.and_eq_true, beq_iff_eq, bne_iff_ne] at both
      exact both.2 ((known x hx).2 both.1)
    simp only [ordStreamConfig, hc]
    exact (if_neg unknown).trans ((if_neg (by rw [filters]; simp; omega)).trans ((if_neg (Nat.not_lt.mpr room)).trans ((if_neg (by simpa using notRunning)).trans (by
      simp [Nat.ne_of_lt master]))))
  case create =>
    subst ht hnew
    have args : ¬ (fld p.payload 0 1 == 0 || decide (9 < fld p.payload 0 1) || decide (3 < fld p.payload 1 1)) = true := by simp; omega
    have full : ¬ (decide (typeLimit (fld p.payload 0 1) ≤ (liveOf c.ord (fld p.payload 0 1)).length) ||
        decide ((freeSlots c.ord (loopNeed (fld p.payload 0 1))).length < loopNeed (fld p.payload 0 1)) || c.storeFull) = true := by simp [store]; omega
    refine ⟨_, ⟨ordChannelCreate, rfl, by simp only [ordChannelCreate, args, hs, full]; rfl⟩, ?_⟩
    have sent : ∀ (xs : List LoopSlot) (d : Calc), roster (if fld p.payload 0 1 == 5 then xs.foldl (fun (c : Calc) x => c.toDrive (.slot x)) d else d) = roster d := fun xs d => by
      rw [apply_ite roster, roster_foldl fun _ _ => roster_toDrive .., ite_self]
    have kept := sent (loopSlotsFor (fld p.payload 0 1) (mkHandle (fld p.payload 0 1) (lookD slot 1 c.ord.gens) slot) (freeSlots c.ord (loopNeed (fld p.payload 0 1))))
    simp only [roster, Prod.mk.injEq] at kept
    exact ⟨(kept _).1, (kept _).2.2⟩
  case start => exact ⟨ordChannelStart, rfl, by simp only [ordChannelStart, hc, st, if_true]⟩
  case hold => exact ⟨ordChannelHold, rfl, by simp only [ordChannelHold, hc, st, if_true]⟩
  case release => exact ⟨ordChannelRelease, rfl, by simp only [ordChannelRelease, hc, st, if_true]⟩
  case notStart => exact ⟨ordChannelStart, rfl, by simp only [ordChannelStart, hc, st, if_false]⟩
  case notHold => exact ⟨ordChannelHold, rfl, by simp only [ordChannelHold, hc, st, if_false]⟩
  case notRelease => exact ⟨ordChannelRelease, rfl, by simp only [ordChannelRelease, hc, st, if_false]⟩
  case destroy =>
    obtain ⟨d, kept, ends⟩ := ordChannelDestroy_free (m := m) hc free
    simp only [roster, Prod.mk.injEq] at kept
    obtain ⟨-, freed, gens⟩ := kept
    refine ⟨_, ⟨ordChannelDestroy, rfl, ends⟩, fun x hx => ?_, ?_, ?_⟩
    · simpa using (List.mem_filter.mp hx).2
    · rw [← freed]; rfl
    · rw [← gens]; exact lookD_put_self ..
  case refers => exact ⟨ordChannelDestroy, rfl, by simp only [ordChannelDestroy, hc, referred]⟩

end Sys2Proof.Machine

namespace Sys2Proof.Machine

/-!
Proofs of chapter 7: an override at its expiry, and OVERRIDE_CANCEL (O39).
-/

/-- A group whose override slot 0 holds an emergency override that ended with tick 4. -/
def expiredGroup : Group := { overrides := [(0, { emergency := true, master := 0, code := 0, level := 500, first := 0xFFFF, last := 0xFFFF, expiry := 4, tick := 0, entry := 0 })] }

/-- The computation of tick 4 over the one running channel of `expiredGroup`. -/
def expiredCalc : Calc :=
  { tick := 4, ord := { channels := [{ handle := mkHandle 1 1 0, state := .running, body := .group expiredGroup }] }, plan := {}, res := { tick := 4 } }

/-- OVERRIDE_CANCEL of slot 0 of that group, without the emergency flag. -/
def cancelExpired : Packet := { path := .mailbox 0, opcode := 0x0421, handle := mkHandle 1 1 0, payload := zeros 4 }

theorem ordOverrideCancel_expired : (ordOverrideCancel 0 cancelExpired expiredCalc).2.status = .wrongState := by decide

/-- Refutes O39: an override stays in its slot of the group until the computation at its expiry drops it, and OVERRIDE_CANCEL drops it before it looks at the
slot. In `expiredCalc` the slot holds an emergency override whose expiry is the tick itself; the statement has the command refused as not permitted, and the
handler answers that nothing runs in the slot. -/
theorem not_lightCommandsTakeEffect : ¬ Obligations.LightCommandsTakeEffect := by
  unfold Obligations.LightCommandsTakeEffect
  intro claim
  obtain ⟨-, -, -, -, -, emergencyKept, -⟩ := claim 0 0 cancelExpired expiredCalc (zeros 4) (mkHandle 1 1 0) rfl rfl
  obtain ⟨⟨f, handler, refused⟩, -⟩ := emergencyKept _ expiredGroup 0 _ rfl rfl (by decide) (by decide) (by decide) (by decide) rfl rfl rfl
  cases handler
  have status := ordOverrideCancel_expired
  rw [refused] at status
  cases status

end Sys2Proof.Machine

namespace Sys2Proof.Machine

/-!
Proofs of chapters 8 and 9: what the commands of the escort and of loops do in their tick (O40).
-/

/-- Settles O40. Each clause follows its handler through the refusals, which its premises exclude one after the other. -/
theorem escortAndLoopCommandsTakeEffect : Obligations.EscortAndLoopCommandsTakeEffect := by
  intro n m p c b h hb hh
  subst hb hh
  refine ⟨fun e links he hl h1 h2 c1 c2 apart a1 a2 s1 s2 t1 t2 fl n1 n2 known once room idle => ?config, fun e f he hf k level lead trail rise v1 v2 v3 faster => ?profile,
    fun e link fs he hl l1 member hfs => ⟨fun op small => ?chainage, fun op kept => ?unchain⟩, fun e link he hl l1 allowed member kind k dur some_ => ?hint,
    fun e he off l1 kind k dur => ?noHint, fun x items q hx slow n1 n2 hi hq ok writes room => ?coeff, fun x hx room => ?table,
    fun x hx slow going => ⟨fun free fast => ?hold, fun held none_ mode => ?release⟩, fun x hx slow act k1 k2 a w1 w2 => ?osc, fun ch hc range set none_ judged => ?contention,
    fun ch f hc hf one trig kind dec d1 d2 d3 pre mask slot node tap has hasNode idle => ?trace, fun ch hc out range => ?outside,
    fun ch new load hc range mem judged unused w1 w2 slow comp dv src sp pos bus free hnew coefs classes hload within => ?loop⟩
  case config =>
    subst hl
    have valid : ((List.range (fld p.payload 12 2)).map (fun i => fld p.payload (16 + 2 * i) 2)).any (fun l => decide (4095 < l)) = false :=
      List.any_eq_false.mpr fun l hl => by simpa using known l hl
    refine ⟨_, ⟨ordEscortConfig, rfl, by
      simp only [ordEscortConfig, he, idle, List.map_nil, List.filter_nil, List.foldl_nil]
      exact (if_neg (by rw [once, valid]; simp; omega)).trans ((if_neg (by omega)).trans (if_neg (by omega)))⟩, ?_⟩
    rw [← idle]
    rfl
  case profile =>
    subst hf
    refine ⟨ordEscortProfile, rfl, ?_⟩
    simp only [ordEscortProfile, he]
    dsimp only at level lead trail rise v1 v2 v3
    exact (if_neg (by simp; omega)).trans (if_neg (by omega))
  case chainage =>
    subst hl hfs
    refine ⟨ordChainageSet, rfl, ?_⟩
    simp only [ordChainageSet, he, op, show bit 0 0 = false by decide]
    exact (if_neg (by simp; exact ⟨l1, by simpa using small⟩)).trans ((if_neg (by rw [member]; simp)).trans (by simp))
  case unchain =>
    subst hl hfs
    refine ⟨ordChainageSet, rfl, ?_⟩
    simp only [ordChainageSet, he, op, show bit 1 0 = true by decide]
    exact (if_neg (by simp; exact l1)).trans ((if_neg (by rw [member]; simp)).trans ((if_neg (by simp [Option.ne_none_iff_isSome, kept])).trans (by simp)))
  case hint =>
    subst hl
    refine ⟨ordTrafficHint n, rfl, ?_⟩
    simp only [ordTrafficHint, he, kind]
    exact (if_neg (by simp; omega)).trans ((if_neg (by simp [allowed])).trans ((if_neg (by rw [member]; simp)).trans (by simp [some_])))
  case noHint =>
    refine ⟨ordTrafficHint n, rfl, ?_⟩
    simp only [ordTrafficHint, he, kind]
    exact (if_neg (by simp; omega)).trans (if_pos (by simp [off]))
  case coeff =>
    subst hi hq
    refine ⟨ordLoopCoeff, rfl, ?_⟩
    simp only [ordLoopCoeff, hx, slow, beq_iff_eq]
    refine (if_neg ?_).trans (if_neg (Nat.not_lt.mpr room))
    simp only [Bool.or_eq_true, beq_iff_eq, decide_eq_true_eq, Bool.not_eq_true', not_or, Bool.not_eq_false, List.all_eq_true]
    exact ⟨⟨⟨by omega, by omega⟩, ok⟩, writes⟩
  case table =>
    refine ⟨ordLoopCompTable, rfl, ?_⟩
    simp only [ordLoopCompTable, hx]
    exact if_neg (by omega)
  case hold =>
    refine ⟨ordLoopHold, rfl, ?_⟩
    simp [ordLoopHold, hx, free, fast, going, slow]
  case release =>
    refine ⟨ordLoopRelease, rfl, ?_⟩
    simp only [ordLoopRelease, hx]
    exact (if_neg (by omega)).trans ((if_neg (by simp [held, none_, going])).trans (by simp [slow]))
  case osc =>
    refine ⟨ordOscConfig, rfl, ?_⟩
    simp only [ordOscConfig, hx]
    exact (if_neg (by simp; omega)).trans (by simp [slow])
  case contention =>
    have empty : (List.range 16).filter (fun k => bit 0 k) = [] := by decide
    refine ⟨_, ⟨ordContentionSet, rfl, by
      simp only [ordContentionSet, hc, none_, empty]
      exact (if_neg (by simpa using range)).trans ((if_neg (by simp; omega)).trans ((if_neg (by simp)).trans ((if_neg (by simp)).trans
        (if_neg (by rcases judged with h | h <;> simp [h])))))⟩, ?_⟩
    simp only [Calc.toDrive, List.isEmpty_nil, if_true, List.append_nil]
  case trace =>
    subst hf
    refine ⟨ordTraceConfig, rfl, ?_⟩
    dsimp only at kind dec d1 d2 d3 pre mask slot has
    simp only [ordTraceConfig, hc, one, trig, List.range_one, List.map_cons, List.map_nil, Nat.mul_zero, Nat.add_zero]
    refine (if_neg ?_).trans ((if_neg ?_).trans (if_neg ?_))
    · simp; omega
    · simp only [List.any_cons, List.any_nil, Bool.or_false, Bool.or_eq_true, Bool.not_eq_true', List.any_eq_false, beq_iff_eq]
      rintro (none_ | none_)
      · obtain ⟨x, hx, same⟩ := has; exact none_ x hx same
      · obtain ⟨x, hx, same⟩ := hasNode; exact none_ x hx same
    · simpa using idle
  case outside =>
    refine ⟨ordLoopConfig, rfl, ?_⟩
    simp only [ordLoopConfig, hc]
    exact (if_neg (by simpa using range)).trans (if_pos out)
  case loop =>
    generalize new.slot = slot at *
    subst hnew hload
    refine ⟨_, ⟨ordLoopConfig, rfl, by
      simp only [ordLoopConfig, hc, unused, free, Option.getD_some, Option.map_none, Option.getD_none, slow, dv, sp, bus]
      exact (if_neg (by simpa using range)).trans ((if_neg (by omega)).trans ((if_neg (by
        rw [src, coefs, classes]
        simp
        omega)).trans ((if_neg (by rcases judged with h | h <;> simp [h])).trans (if_neg (Nat.not_lt.mpr within)))))⟩, ?_⟩
    simp only [Calc.derive]
    exact (apply_ite (fun c : Calc => c.ord.loops) ..).trans (ite_self _)

end Sys2Proof.Machine

namespace Sys2Proof.Machine

/-!
Proofs of chapters 10 and 13: STRING_FAULT_CLEAR over two channels of one handle (O41), SLOT_PLAN_SET and the assignments sent ahead (O42).
-/

/-- A luminaire whose first two strings show latched faults. -/
def faultyLum : Lum := { num := some 0, latched := [1, 1, 0, 0] }

/-- A computation with two channels of one handle: the luminaire of the first has a fault of its first string latched, the second has two strings latched. -/
def twinnedCalc : Calc :=
  { tick := 4, plan := {}, res := { tick := 4 }
    ord := { channels := [{ handle := mkHandle 5 1 0, body := .luminaire { faultyLum with latched := [1, 0, 0, 0] } }, { handle := mkHandle 5 1 0, body := .luminaire faultyLum }] } }

/-- STRING_FAULT_CLEAR of the first string of that handle. -/
def clearFirst : Packet := { path := .mailbox 0, opcode := 0x0706, handle := mkHandle 5 1 0, payload := le 1 1 ++ zeros 7 }

/-- The faults a channel has latched. -/
def latchedOf (ch : Channel) : List Nat := match ch.body with | .luminaire l => l.latched | _ => []

theorem ordStringFaultClear_latched : (ordStringFaultClear 0 clearFirst twinnedCalc).1.ord.channels.map latchedOf = [[0, 0, 0, 0], [0, 1, 0, 0]] := by decide

/-- Refutes O41: STRING_FAULT_CLEAR clears the latched bits of each channel of the handle in what that channel has latched; the statement puts what the first
one has left into all of them. Nothing in the statement keeps two channels from having one handle, as in `twinnedCalc`, where the second loses a fault
the mask does not name. -/
theorem not_driveAndMeteringCommandsTakeEffect : ¬ Obligations.DriveAndMeteringCommandsTakeEffect := by
  unfold Obligations.DriveAndMeteringCommandsTakeEffect
  intro claim
  obtain ⟨-, -, -, -, clear, -⟩ := claim 0 0 clearFirst twinnedCalc _ _ rfl rfl
  obtain ⟨f, handler, cleared⟩ := clear _ 0 rfl rfl (by decide) (by decide)
  cases handler
  have latched := ordStringFaultClear_latched
  rw [cleared] at latched
  exact absurd latched (by decide)

/-- Eight channels within the band, the radios two apart. -/
def eightChannels : HopPlan :=
  { f0 := if Config.isN1 then 910000 else 868000, spacing := 400, phases := [0, 2, 4, 6], limit := 10000, window := 10, channels := List.range 8 }

/-- Four radios that are off, with slots of kind 3 alone. -/
def silentRadios : List RadioOrd := List.replicate 4 { cfg := some defaultCfg, plan := some ⟨1, List.replicate 60 3⟩ }

/-- A computation of tick 4: partner 0 has an assignment on radio 0 that was sent ahead of tick 8. -/
def aheadCalc : Calc :=
  { tick := 4, plan := {}, res := { tick := 4 }
    ord := { air := { radios := silentRadios, hop := some eightChannels, partners := [(0, { next := some (8, [{ index := 0, role := 1, radio := 0, slot := 3, mini := 0xFF, period := 4, phase := 0, start := 8 }]) })] } } }

/-- SLOT_PLAN_SET of radio 0, with 60 slots of kind 3. -/
def planRadio0 : Packet := { path := .mailbox 0, opcode := 0x0902, handle := deviceHandle, payload := [0, 1, 0, 0] ++ List.replicate 60 3 }

/-- The instant at which that plan changes. -/
def planInstant : Nat := changeInstant 4 (pendingAt aheadCalc.ord 4 [0] [] true)

set_option maxRecDepth 10000 in
theorem planRadio0_admissible : airConfigOk (hopAt aheadCalc.ord planInstant) (cfgsAt aheadCalc.ord planInstant) ((plansAt aheadCalc.ord planInstant).set 0 ⟨1, List.replicate 60 3⟩) = true := by
  change airConfigOk eightChannels (List.replicate 4 defaultCfg) (List.replicate 4 ⟨1, List.replicate 60 3⟩) = true
  unfold airConfigOk hopOk admissible accountLimit eightChannels
  generalize Config.isN1 = american
  cases american <;> decide

set_option maxRecDepth 10000 in
theorem ordSlotPlanSet_ahead : (ordSlotPlanSet 0 planRadio0 aheadCalc).1.ord.air.partners.map (·.2.next) = [none] := by
  have admitted : ¬ (!airConfigOk (hopAt aheadCalc.ord planInstant) (cfgsAt aheadCalc.ord planInstant) ((plansAt aheadCalc.ord planInstant).set 0 ⟨1, List.replicate 60 3⟩)) = true := by
    rw [planRadio0_admissible]
    decide
  unfold ordSlotPlanSet
  rw [if_neg (by decide)]
  exact congrArg (fun r : Calc × Ans => r.1.ord.air.partners.map (·.2.next)) (if_neg admitted)

/-- Refutes O42: SLOT_PLAN_SET also drops the assignments that were sent ahead of a change on its radio and are still to come (R305); the statement has it leave
every partner as it was. In `aheadCalc` partner 0 has one. -/
theorem not_radioAndPartnerCommandsTakeEffect : ¬ Obligations.RadioAndPartnerCommandsTakeEffect := by
  unfold Obligations.RadioAndPartnerCommandsTakeEffect
  intro claim
  obtain ⟨-, plan, -⟩ := claim 0 0 planRadio0 aheadCalc _ _ rfl rfl
  obtain ⟨d, a, ⟨f, handler, set⟩, -, kept⟩ := plan 0 ⟨1, List.replicate 60 3⟩ planInstant (by decide) (by decide) (by decide) (by decide) (by decide) rfl planRadio0_admissible
  cases handler
  have ahead := ordSlotPlanSet_ahead
  rw [set, kept] at ahead
  exact absurd ahead (by decide)

end Sys2Proof.Machine

namespace Sys2Proof.Machine

/-!
Proofs of chapter 4: the accesses of the host window (O14).
-/

/-! ### A mailbox that is changed where it stands -/

/-- Two changes that agree on the item in the place are one change. -/
theorem modAt_congr {α : Type} {l : List α} {i : Nat} {f g : α → α} (agree : ∀ x, l[i]? = some x → f x = g x) : modAt l i f = modAt l i g := by
  refine List.ext_getElem? fun k => ?_
  rw [modAt, modAt, List.getElem?_modify, List.getElem?_modify]
  split
  next here => subst here; exact Option.map_congr fun x hx => agree x hx
  next => rfl

/-- A change that asks whether a message is posted takes the branch of the mailbox it changes. -/
theorem modMbx_congr {s : State} {m : Nat} {f g : Mailbox → Mailbox} (agree : f (mbxOf s m) = g (mbxOf s m)) : modMbx m f s = modMbx m g s := by
  have same : modAt s.host.mailboxes m f = modAt s.host.mailboxes m g := modAt_congr fun b hb => by rwa [mbxOf, hb] at agree
  simp only [modMbx, modHost, same]

/-! ### What signalling leaves of the mailboxes -/

@[simp] theorem signal_leaves_mailboxes (s : State) :
    (signal s).host.mailboxes = s.host.mailboxes ∧ (signal s).host.mbxWin = s.host.mbxWin ∧ (signal s).mode = s.mode := by
  unfold signal
  dsimp only
  split <;> simp

@[simp] theorem mbxOf_signal (s : State) (m : Nat) : mbxOf (signal s) m = mbxOf s m := by
  rw [mbxOf, signal_leaves_mailboxes s |>.1, mbxOf]

@[simp] theorem mbxOpen_signal (s : State) (m : Nat) : mbxOpen (signal s) m = mbxOpen s m := by simp [mbxOpen, hostMaster]

@[simp] theorem goodAccess_signal (s : State) (off size : Nat) : goodAccess (signal s) off size = goodAccess s off size := by simp [goodAccess]

/-! ### Accesses of the window -/

section access
variable {off v size : Nat} {s : State} (served : s.boot.stage ≠ 0) (good : goodAccess s off size = true)
include served good

theorem exec_registerWrite : exec (.registerWrite off v size) s = .next (signal (if inAperture off then writeAperture off size v (signal s) else writeReg off v (signal s))) :=
  (if_neg (by simpa using served)).trans (if_neg (by simp [good]))

theorem exec_registerShadowRead : exec (.registerShadowRead off size) s =
    .next (signal (modHost (fun h => { h with readValue := (if inAperture off then readAperture off size s else readReg off s).1 }) (if inAperture off then readAperture off size s else readReg off s).2)) :=
  (if_neg (by simpa using served)).trans (if_neg (by simp [good]))

end access

/-- Settles O14: a good access goes to its register or its aperture, and the end of a shadow drops what it held. -/
theorem windowAccessesComplete : Obligations.WindowAccessesComplete := by
  intro off v size m s served
  refine ⟨fun good reg => ?write, fun good ap hm mine inbound free => ?aperture, ?scratch, fun good reg => ?read, ?tick, fun good ap hm mine => ?apertureRead, rfl, rfl,
    fun k h hk held => ?value, fun selected => ?link⟩
  case write => rw [exec_registerWrite served good, reg]; rfl
  case aperture =>
    rw [exec_registerWrite served good, ap, if_pos rfl]
    subst hm
    have taken : writeAperture off size v (signal s) = _ := (if_neg (by simp [mine])).trans (if_neg (by omega))
    rw [taken, signal_leaves_mailboxes s |>.2.1]
    exact congrArg (Host.Outcome.next ∘ signal) (modMbx_congr (by rw [mbxOf_signal, free]; rfl))
  case scratch => exact exec_registerWrite served (by simp [goodAccess])
  case read => rw [exec_registerShadowRead served good, reg]; rfl
  case tick => exact exec_registerShadowRead served (by simp [goodAccess])
  case apertureRead =>
    subst hm
    rw [exec_registerShadowRead served good, ap, if_pos rfl, readAperture, if_pos mine]
    rfl
  case value =>
    refine (if_neg (by simp; omega)).trans ((if_neg (by simp; omega)).trans ((if_pos (by simp; omega)).trans ?_))
    simp [modCnt, held]
  case link => exact (if_neg (by simp [selected, served])).trans (if_pos rfl)

end Sys2Proof.Machine

namespace Sys2Proof.Machine

/-!
Proofs of chapter 16: the events of the calendar clock (O28).
-/

/-! ### What the effects of the calendar clock do -/

theorem setTrim_word (v master : Nat) (s : State) : setTrim (v % 65536) master s =
    gbk 0x1004 master (le 2 s.rtc.trim ++ le 2 (v % 65536) ++ le 1 master) { s with rtc := { s.rtc with trim := v % 65536 } } := by
  rw [setTrim, Nat.mod_mod]

/-- A commit from the staging registers has no command to answer. -/
theorem takeCommit_staging_valid {t : DateTime} {s : State} (free : s.rtc.disciplined = false) (valid : t.valid = true) :
    takeCommit .staging t s = gbk 0x1002 (commitMaster s .staging) (le 1 (commitMaster s .staging) ++ s.rtc.now.stampBytes ++ t.stampBytes)
      { s with rtc := { s.rtc with now := t, weekday := weekdayOf t, trimAcc := 0, dateErr := false, oscStop := false } } :=
  (if_neg (by simp [free])).trans (if_neg (by simp [valid]))

theorem takeCommit_staging_invalid {t : DateTime} {s : State} (free : s.rtc.disciplined = false) (invalid : t.valid = false) :
    takeCommit .staging t s = gbk 0x1003 (commitMaster s .staging) (le 1 (commitMaster s .staging) ++ t.bytes) { s with rtc := { s.rtc with dateErr := true } } :=
  (if_neg (by simp [free])).trans (if_pos (by simp [invalid]))

theorem exec_rtcCommit {src : CommitSource} {t : DateTime} {rest : List (CommitSource × DateTime)} {s : State} (first : s.rtc.commits = (src, t) :: rest) :
    exec .rtcCommit s = .next (takeCommit src t { s with rtc := { s.rtc with commits := rest } }) := by
  change execRtcCommit s = _
  rw [execRtcCommit, first]

/-- Settles O28: each event takes the branch that its premises name, of the calendar's registers or of its supply. -/
theorem calendarEventsComplete : Obligations.CalendarEventsComplete := by
  intro s v
  refine ⟨fun idle => ?commit, rfl, fun reg sh hsh => ?shadow, rfl, fun t rest first free valid => ?valid, fun t rest first free invalid => ?invalid, fun free => ?trim,
    fun range => ?wake, ?rangeEnd, fun dip going ready => ?stop, fun low main => ?toBattery, fun high battery => ?toMain, fun good => ?charged, fun low => ?flat, fun set => ?fire, rfl⟩
  case commit => exact congrArg Host.Outcome.next (if_neg (by simp [idle]))
  case shadow =>
    subst hsh
    refine (if_pos reg).trans ?_
    simp only [rtcRead, beq_iff_eq]
  case valid => exact ⟨_, (exec_rtcCommit first).trans (congrArg _ (takeCommit_staging_valid free valid)), rfl, rfl, rfl⟩
  case invalid => exact ⟨_, (exec_rtcCommit first).trans (congrArg _ (takeCommit_staging_invalid free invalid)), rfl⟩
  case trim => exact congrArg Host.Outcome.next ((if_neg (by simp [free])).trans (setTrim_word ..))
  case wake => exact if_pos range
  case rangeEnd => exact ⟨_, rfl, by simp [rangeEnd_rtc]⟩
  case stop => exact congrArg Host.Outcome.next ((if_neg (by simp [going])).trans (if_pos ready))
  case toBattery => exact if_pos (by simp [low, main])
  case toMain => exact (if_neg (by simp [battery])).trans (if_pos (by simp [high, battery]))
  case charged => exact congrArg Host.Outcome.next ((if_neg (by omega)).trans (if_pos good))
  case flat => exact congrArg Host.Outcome.next (if_pos low)
  case fire => exact if_neg (by simpa using set)

end Sys2Proof.Machine

namespace Sys2Proof.Machine

/-!
Proofs of chapter 19: the events of the Guestbook (O23).
-/

/-! ### The drain and the window of the Guestbook -/

theorem drainOne_repeats {s : State} {n last : Nat} {rest : List GbkPlace} (free : s.gbk.held = false) (front : s.gbk.front = .repeats n last :: rest) :
    drainOne s = { s with gbk := { s.gbk with stored := repeatStored n last s.gbk.stored, front := rest, beforeLoss := s.gbk.beforeLoss - 1 } } := by
  simp [drainOne, free, front, modGbk]

/-- In the permanent area a record displaces none. -/
theorem storeRec_permanent {r : GbkRec} {s : State} (permanent : s.gbk.next < 4097) :
    storeRec r s = { s with gbk := { s.gbk with stored := s.gbk.stored ++ [{ r with seq := s.gbk.next, damage := 0, found := false }], next := s.gbk.next + 1 } } := by
  have circulates : ¬ (4096 < s.gbk.next - 16384) := by omega
  simp [storeRec, Nat.ne_of_lt permanent, modGbk, Guestbook.append, circulates]

theorem drainOne_record {s : State} {r : GbkRec} {rest : List GbkPlace} (free : s.gbk.held = false) (front : s.gbk.front = .record r :: rest) (urgent : s.gbk.urgent = [])
    (loss : s.gbk.loss = none) : drainOne s = storeRec r (modGbk (fun g => { g with front := rest, beforeLoss := g.beforeLoss - 1 }) s) := by
  simp [drainOne, free, front, urgent, loss, modGbk]

theorem loadSel_absent {seq : Nat} {s : State} (absent : s.gbk.stored.find? (fun x => x.seq == seq) = none) :
    loadSel seq s = { s with gbk := { s.gbk with sel := seq, loaded := false, absent := true, data := [] } } := by
  simp only [loadSel, modGbk, absent]

/-- An undamaged record is read without a trace in the alerts. -/
theorem loadSel_found {seq : Nat} {s : State} {r : GbkRec} (found : s.gbk.stored.find? (fun x => x.seq == seq) = some r) (good : r.damage = 0) :
    loadSel seq s = { s with gbk := { s.gbk with sel := seq, loaded := true, absent := false, data := r.bytes } } := by
  simp only [loadSel, modGbk, found]
  exact if_pos (by simp [good])

/-! ### The end of an erase -/

/-- What a clear has told of itself: no erase under way, how far it has come, how often it was done. -/
def clearing (s : State) : Bool × Nat × Nat := (s.gbk.erasing.isSome, s.gbk.clearedTo, s.gbk.clearings)

theorem append_leaves (r : GbkRec) (g : Guestbook) :
    (g.append r).erasing = g.erasing ∧ (g.append r).clearedTo = g.clearedTo ∧ (g.append r).clearings = g.clearings := by
  obtain ⟨rs, appended⟩ : ∃ rs, g.append r = { g with stored := rs, next := g.next + 1 } := ⟨_, rfl⟩
  rw [appended]
  exact ⟨rfl, rfl, rfl⟩

@[simp] theorem clearing_storeRec (r : GbkRec) (s : State) : clearing (storeRec r s) = clearing s := by
  have append : ∀ (r : GbkRec) (s : State), clearing (modGbk (Guestbook.append r) s) = clearing s := fun _ _ => by
    simp only [clearing, modGbk, append_leaves]
  rw [storeRec, append]
  split
  · exact append ..
  · rfl

theorem repeatsFirst_leaves (g : Guestbook) : g.repeatsFirst.clearedTo = g.clearedTo ∧ g.repeatsFirst.clearings = g.clearings := by
  unfold Guestbook.repeatsFirst
  split <;> simp

/-- Settles O23: each event takes the branch of the freeze, the drain, the window or the erase that its premises name. -/
theorem guestbookEventsComplete : Obligations.GuestbookEventsComplete := by
  intro s
  refine ⟨fun kind m d => ?entered, fun n last rest free front => ?repeats, fun r rest free front urgent loss permanent => ?record, fun held => ?held, fun v => rfl,
    fun ms frozen least most => ?timeout, fun v absent => ?absent, fun v r found good => ?found, fun stays => ?stays, fun incs => ?incs, fun last counter m z p erasing _ => ?erased⟩
  case entered =>
    change execGuestbookRecordEntry kind m d s = _
    rw [execGuestbookRecordEntry, gbk]
  case repeats => exact congrArg Host.Outcome.next (drainOne_repeats free front)
  case record => exact congrArg Host.Outcome.next ((drainOne_record free front urgent loss).trans (storeRec_permanent permanent))
  case held => exact congrArg Host.Outcome.next (if_pos held)
  case timeout => exact congrArg Host.Outcome.next (if_pos (by simp [frozen, least, most]))
  case absent => exact congrArg Host.Outcome.next (loadSel_absent absent)
  case found => exact congrArg Host.Outcome.next (loadSel_found found good)
  case stays => exact congrArg Host.Outcome.next (if_neg (by simp [stays]))
  case incs => exact congrArg Host.Outcome.next (if_pos incs)
  case erased =>
    have ends : exec .gbkEraseComplete s = .next (eraseDone last counter m p s) := by
      change execGbkEraseComplete s = _
      rw [execGbkEraseComplete, erasing]
    refine ⟨_, _, _, ends, rfl, rfl, ?_⟩
    have cleared := clearing_storeRec
    simp only [clearing, Prod.mk.injEq] at cleared
    simp only [← Option.not_isSome_iff_eq_none, cleared, modGbk, repeatsFirst_leaves]
    simp

end Sys2Proof.Machine

namespace Sys2Proof.Machine

/-!
Proofs of chapter 22: the events of the firmware sets (O31).
-/

/-- Settles O31: each event takes the branch of the session or of the trial that its premises name. -/
theorem firmwareEventsComplete : Obligations.FirmwareEventsComplete := by
  intro s p
  refine ⟨fun ms f hf erasing packet => ?erase, fun f x hf reading packet abort hx whole crc => ?good, fun f hf reading packet abort => ?bad, fun staging idle => ?idle,
    fun k trial running long good => ?trial⟩
  case erase =>
    subst hf
    have begun : ¬ (s.firmware.session != 1) = true := by simp [erasing]
    exact ⟨(if_neg begun).trans (by rw [if_pos rfl, packet]; rfl), (if_neg begun).trans (by rw [if_neg nofun, packet])⟩
  case good =>
    subst hf hx
    refine (if_neg (by simp [reading])).trans ((if_neg (by simp [whole, crc])).trans ?_)
    rw [packet, crc]
  case bad =>
    subst hf
    refine (if_neg (by simp [reading])).trans ((if_pos rfl).trans ?_)
    rw [packet]
    rfl
  case idle => exact congrArg Host.Outcome.next (if_pos (by simp [staging, idle]))
  case trial =>
    change execTrialComplete s = _
    rw [execTrialComplete, trial]
    exact congrArg Host.Outcome.next (if_pos (by simp [running, long, good]))

end Sys2Proof.Machine

namespace Sys2Proof.Machine

/-!
Proofs of chapters 6 to 8 and 14: the timers an open computation steps ahead (O20, O26).
-/

/-- Settles O20: each timer whose condition holds takes its step in the open computation. -/
theorem planAndTimerEventsComplete : Obligations.PlanAndTimerEventsComplete := by
  intro s h
  refine ⟨fun building => ?idle, fun committing fresh d hd => ?record, fun g k o hg ho ended => ?override, fun n g hg refreshes recorded due => ?refresh, fun e t he ht late => ?traveller,
    fun link => rfl⟩
  case idle => exact if_pos (by simp [building])
  case record =>
    subst hd
    exact if_pos (by simp [committing, fresh])
  case override =>
    change execOverrideExpiry h k s = _
    rw [execOverrideExpiry, hg]
    dsimp only
    rw [ho]
    exact if_pos ended
  case refresh =>
    change execRefreshDue n s = _
    rw [execRefreshDue, hg]
    exact if_pos (by simp [refreshes, recorded, due])
  case traveller =>
    change execTravellerTimeout h t.num s = _
    rw [execTravellerTimeout, he]
    dsimp only
    rw [ht]
    exact if_pos late

/-- Settles O26: likewise for the partners, the faults and the sessions. -/
theorem partnerEventsComplete : Obligations.PartnerEventsComplete := by
  intro s n
  refine ⟨fun a ha later => ?missed, rfl, rfl, fun h ch x hc hx active phase ended => ?session⟩
  case missed =>
    change execOccurrenceMissed n a.index s = _
    rw [execOccurrenceMissed, ha]
    exact congrArg Host.Outcome.next (if_pos later)
  case session =>
    change execSessionDurationExpiry h s = _
    rw [execSessionDurationExpiry, hc, hx]
    exact if_pos ⟨active, phase, ended⟩

end Sys2Proof.Machine

namespace Sys2Proof.Machine

/-- What every round of a fold leaves alone, the fold leaves alone. -/
theorem foldl_leaves {α β γ : Type} {part : α → γ} {g : α → β → α} (round : ∀ s x, part (g s x) = part s) (l : List β) (s : α) : part (l.foldl g s) = part s :=
  List.foldlRecOn l g (motive := fun t => part t = part s) rfl fun t kept x _ => (round t x).trans kept

end Sys2Proof.Machine

namespace Sys2Proof.Machine

/-!
Proofs of chapters 23 and 24: the events of the supplies, the temperature, the counters and the test multiplexer (O32).
-/

/-! ### What a thermal reading leaves of the supplies -/

@[simp] theorem evacuateEngine_supply (e policy : Nat) (others : List Nat) (s : State) : (evacuateEngine e policy others s).supply = s.supply := by
  refine foldl_leaves (part := State.supply) (fun s l => ?_) _ _
  split
  next => rfl
  next => simp [moveLodge]

@[simp] theorem thermalMoves_supply (s : State) : (thermalMoves s).supply = s.supply := by
  have gates : ∀ s : State, ([0, 1, 2].foldl (fun (s : State) w => if bit s.inn.gated w then count 0x024 { s with inn := { s.inn with gated := s.inn.gated - 2 ^ w } } else s) s).supply = s.supply :=
    foldl_leaves (part := State.supply) (fun s w => by split <;> rfl) _
  have evacuated : ∀ s : State, ([0, 1, 2, 3].foldl (fun (s : State) k => evacuateEngine (4 * s.supply.hot + k) 3 (openEngines s) s) s).supply = s.supply :=
    foldl_leaves (part := State.supply) (fun s k => evacuateEngine_supply ..) _
  unfold thermalMoves
  dsimp only
  rw [apply_ite State.supply, evacuated, ite_self, apply_ite State.supply, gates, ite_self]

/-- Whether the derating by temperature is in force. -/
def derates (s : State) : Bool := s.supply.derate

theorem derates_thermalAlerts (temp : Int) (s : State) : derates (thermalAlerts temp s) = derates s := by
  have crossed : ∀ (seen alert : Supplies → Supplies) (c d : Bool) (r q : List Byte) (s : State), (∀ x, (seen x).derate = x.derate) → (∀ x, (alert x).derate = x.derate) →
      derates (if c then gbk 0x1502 0xFF r (modSupply seen s) else if d then gbk 0x1502 0xFF q (modSupply alert s) else s) = derates s := by
    intro seen alert c d r q s hs ha
    split
    · exact hs _
    · split
      · exact ha _
      · rfl
  unfold thermalAlerts
  dsimp only
  split
  · split
    · exact crossed _ _ _ _ _ _ _ (fun _ => rfl) fun _ => rfl
    · exact crossed _ _ _ _ _ _ _ (fun _ => rfl) fun _ => rfl
  · exact crossed _ _ _ _ _ _ _ (fun _ => rfl) fun _ => rfl

theorem derates_stageRecord (stage : Nat) (temp : Int) (hot src : Nat) (s : State) : derates (stageRecord stage temp hot (count src s)) = derates s := rfl

theorem derates_count (src : Nat) (s : State) : derates (count src s) = derates s := rfl

theorem derates_thermalStage (temp : Int) (s : State) : derates (thermalStage temp s) = derates s := by
  unfold thermalStage
  dsimp only
  rw [apply_ite derates, derates_stageRecord, apply_ite derates, derates_count, ite_self]
  exact ite_self _

theorem bits_or_bit10 (v : Nat) : bits (v ||| 2 ^ 10) 0 9 = bits v 0 9 ∧ bit (v ||| 2 ^ 10) 9 = bit v 9 ∧ bit (v ||| 2 ^ 10) 10 = true := by
  refine ⟨?_, ?_, ?_⟩
  · rw [bits, bits, pow_zero, Nat.div_one, Nat.div_one, Nat.or_mod_two_pow, show 2 ^ 10 % 2 ^ 9 = 0 from rfl, Nat.or_zero]
  · rw [bit, bit, Nat.testBit_or, show (2 ^ 10 : Nat).testBit 9 = false by decide, Bool.or_false]
  · rw [bit, Nat.testBit_or, show (2 ^ 10 : Nat).testBit 10 = true by decide, Bool.or_true]

/-- A counter whose source stays keeps its count unless the write clears it. -/
theorem writeCntCfg_sameSource {k v : Nat} {s : State} {c : Counter} (found : s.cnt.counters[k]? = some c) (same : c.source = bits v 0 9) :
    writeCntCfg k v s = { s with cnt := { s.cnt with counters := modAt s.cnt.counters k (fun x => { source := bits v 0 9, en := bit v 9, count := if bit v 10 then 0 else x.count }) } } := by
  simp [writeCntCfg, found, same, modCnt]

theorem writeCntCfg_newSource {k v : Nat} {s : State} {c : Counter} (found : s.cnt.counters[k]? = some c) (other : c.source ≠ bits v 0 9) :
    writeCntCfg k v s = { s with cnt := { s.cnt with
      counters := modAt s.cnt.counters k (fun _ => { source := bits v 0 9, en := bit v 9, count := 0 }), ovf := if bit s.cnt.ovf k then s.cnt.ovf - 2 ^ k else s.cnt.ovf } } := by
  simp [writeCntCfg, found, other, modCnt]

/-- The state once a supply has been found beyond a threshold of its monitor. -/
def crossed (k : Nat) (above : Bool) (mv : Nat) (s : State) : State :=
  let t := count (if above then 0x1F7 else 0x1F3 + k)
    (modSupply (fun x => if above then { x with above := x.above ||| 2 ^ k, flags := x.flags ||| 2 ^ k * 16 } else { x with under := x.under ||| 2 ^ k, flags := x.flags ||| 2 ^ k }) s)
  if s.mode.ready then gbk 0x0102 0xFF (le 1 k ++ le 1 (b2n above) ++ le 2 mv) t else t

@[simp] theorem crossed_leaves (k : Nat) (above : Bool) (mv : Nat) (s : State) :
    (crossed k above mv s).supply = (if above then { s.supply with above := s.supply.above ||| 2 ^ k, flags := s.supply.flags ||| 2 ^ k * 16 }
      else { s.supply with under := s.supply.under ||| 2 ^ k, flags := s.supply.flags ||| 2 ^ k }) ∧
    (crossed k above mv s).cnt = (count (if above then 0x1F7 else 0x1F3 + k) s).cnt := by
  unfold crossed
  dsimp only
  split
  · exact ⟨rfl, rfl⟩
  · exact ⟨rfl, rfl⟩

theorem crossed_gbk {k mv : Nat} {above : Bool} {s : State} (ready : s.mode.ready = true) :
    (crossed k above mv s).gbk = (gbk 0x0102 0xFF (le 1 k ++ le 1 (b2n above) ++ le 2 mv) s).gbk :=
  (congrArg State.gbk (if_pos ready) : (crossed k above mv s).gbk = _).trans rfl

theorem exec_crossing_above {k mv : Nat} {s : State} (known : k ≤ 3) (within : mv ≤ (supplyRatings[k]?).getD 0) :
    exec (.supplyMonitorCrossing k true true mv) s = .next (crossed k true mv s) :=
  (if_neg (by omega)).trans (if_neg (by simpa using within))

theorem exec_crossing_main (mv : Nat) (s : State) : exec (.supplyMonitorCrossing 0 false true mv) s = .next (mainLost (crossed 0 false mv s)) := rfl

/-- Settles O32: each event takes the branch of its rail, counter or lease; what the faults held on the way leave alone is stated above. -/
theorem supplyAndCounterEventsComplete : Obligations.SupplyAndCounterEventsComplete := by
  intro s k v
  refine ⟨fun mv rail rating => ?above, fun mv ready => ?main, fun rail under => ?back, fun unordered free => ?sequence, fun kept latched => ?clear, fun temps mv ma on => ?thermal,
    fun snap => ?snapshot, fun clear => ?snapClear, fun c found hk same keeps => ?config, fun c found hk other => ?newSource, fun c found hk same => ?counter, fun leased => ?lease, rfl⟩
  case above =>
    have within : mv ≤ (supplyRatings[k]?).getD 0 := by rcases rail with rfl | rfl <;> simp [supplyRatings] <;> omega
    exact ⟨_, exec_crossing_above (by omega) within, (crossed_leaves ..).1, (crossed_leaves ..).2, crossed_gbk⟩
  case main => exact ⟨_, exec_crossing_main mv s, (crossed_leaves ..).1, crossed_gbk ready⟩
  case back => exact (if_neg (by omega)).trans ((if_neg nofun).trans (by simp [under, modSupply]))
  case sequence => exact if_pos (by simp [unordered, free])
  case clear => exact if_pos latched
  case thermal =>
    refine ⟨_, _, if_neg (by simpa using on), rfl, ?_⟩
    have kept : ∀ (temp : Int) (s : State), (thermalMoves (thermalStage temp (thermalAlerts temp s))).supply.derate = s.supply.derate := fun temp s =>
      (congrArg Supplies.derate (thermalMoves_supply _)).trans ((derates_thermalStage ..).trans (derates_thermalAlerts ..))
    refine ite_congr rfl (fun _ => rfl) fun _ => ite_congr rfl (fun _ => rfl) fun _ => (kept _ _).trans ?_
    exact (apply_ite derates ..).trans (ite_self _)
  case snapshot => exact congrArg Host.Outcome.next (if_pos snap)
  case snapClear => exact congrArg Host.Outcome.next (if_pos clear)
  case config => exact congrArg Host.Outcome.next ((if_pos hk).trans (by rw [writeCntCfg_sameSource found same, keeps]; simp))
  case newSource => exact congrArg Host.Outcome.next ((if_pos hk).trans (writeCntCfg_newSource found other))
  case counter =>
    obtain ⟨source, enabled, clears⟩ := bits_or_bit10 v
    exact congrArg Host.Outcome.next ((if_pos hk).trans (by rw [writeCntCfg_sameSource found (same.trans source.symm), source, enabled, clears]; simp))
  case lease => exact congrArg Host.Outcome.next (if_pos leased)

end Sys2Proof.Machine

namespace Sys2Proof.Machine

/-!
Proofs of chapter 15: the events of the time bases (O27).
-/

/-! ### TB_M's state and source -/

/-- A change of TB_M's state reaches neither the clerk nor the role, and leaves the source and what is pending. -/
theorem setTbmState_leaves (new : Nat) (s : State) :
    (setTbmState new s).clerk = s.clerk ∧ (setTbmState new s).mode = s.mode ∧ (setTbmState new s).time.source = s.time.source ∧
      (setTbmState new s).time.pendingSwitch = s.time.pendingSwitch ∧ (setTbmState new s).time.state = new := by
  unfold setTbmState
  dsimp only
  split
  next same => exact ⟨rfl, rfl, rfl, rfl, by simpa using same⟩
  next => cases holdover : new == 4 <;> cases disciplines : new == 2 || new == 3 <;> exact ⟨rfl, rfl, rfl, rfl, rfl⟩

/-! ### A message of TB_A's domain at a port where PTP is enabled -/

section ptp
variable {port domain : Nat} {i : PtpInst} {s : State} (known : port ≤ 1) (hd : (baseAt s.time 0).domain = domain) (hi : instAt s.time port 0 = i) (on : i.enable = true)
include known hd hi on

theorem ptpIn_other : ptpIn port domain .other s = count 0x185 s := by
  subst hd hi
  rw [ptpIn, if_pos (beq_self_eq_true _)]
  exact if_neg (by simp [on]; omega)

theorem ptpIn_sync (slave : i.state ≠ 2) (v : Int) : ptpIn port domain (.sync v) s = count 0x180 (modInst port 0 (fun x => { x with sync := v }) s) := by
  subst hd hi
  rw [ptpIn, if_pos (beq_self_eq_true _)]
  exact (if_neg (by simp [on]; omega)).trans (if_neg (by simp [slave]))

theorem ptpIn_delayResp (mech : i.mech = 1) (v : Int) : ptpIn port domain (.delayResp v) s = count 0x182 (modInst port 0 (fun x => { x with delay := (i.sync + v) / 2 }) s) := by
  subst hd hi
  rw [ptpIn, if_pos (beq_self_eq_true _)]
  exact (if_neg (by simp [on]; omega)).trans (if_pos (by simp [mech]))

theorem ptpIn_pdelayResp (mech : i.mech = 2) (v : Int) : ptpIn port domain (.pdelayResp v) s = modInst port 0 (fun x => { x with delay := v }) s := by
  subst hd hi
  rw [ptpIn, if_pos (beq_self_eq_true _)]
  exact (if_neg (by simp [on]; omega)).trans (if_pos (by simp [mech]))

end ptp

theorem ptpIn_unknownDomain {port domain : Nat} {s : State} (notA : (baseAt s.time 0).domain ≠ domain) (notB : (baseAt s.time 1).domain ≠ domain) (m : PtpKind) :
    ptpIn port domain m s = count 0x185 s := by
  rw [ptpIn, if_neg (by simpa using notA), if_neg (by simpa using notB)]

/-! ### An evaluation of TB_M -/

theorem exec_tbmEvaluation {tai : Nat} {s t : State}
    (ht : t = tbmTable tai (mismatchStep (if s.time.state = 0 then s else { s with time := { s.time with bases := advanceOffsets s.time.rate s.time.bases } }))) :
    exec (.tbmEvaluation tai) s = .next (if t.time.state = 2 ∨ t.time.state = 3 then { t with
      time := { t.time with rate := (baseAt t.time (t.time.source - 1)).rate + tbmRho (baseAt t.time (t.time.source - 1)).o t.time.absorb } } else t) := by
  change execTbmEvaluation tai s = _
  unfold execTbmEvaluation
  simp only [beq_iff_eq, ← ht, Bool.or_eq_true]

/-! ### A step of TB_M, and a switch of its source -/

/-- The state in which TB_M steps: locked again, the offsets of its bases moved by the step. -/
theorem exec_tbmStep {ns : Int} {cause : Nat} {s t : State} (pending : s.time.pendingStep = some (ns, cause)) (running : s.clerk.running = true) (active : s.mode.role ≠ 2)
    (ht : t = setTbmState 3 (count 0x189 { s with time := { s.time with pendingStep := none, bases := s.time.bases.map (fun (b : Base) => { b with o := b.o + ns * 65536 }) } })) :
    exec .tbmStep s = .next (placeTime 0x0B03 (leS 8 ns ++ le 1 3 ++ le 1 cause ++ zeros 6) (if 0 ≤ ns then stepForward ns t else modClerk (fun c => { c with offset := max c.offset 243750, long := true }) t)) := by
  subst ht
  change execTbmStep s = _
  rw [execTbmStep, pending]
  exact if_neg (by simp [setTbmState_leaves, running, active])

/-- The offset to UTC is taken from the parent, when there is one. -/
def utcTaken (parent : Option Announce) (s : State) : State := match parent with | some a => takeUtc a s | none => s

theorem utcTaken_leaves (parent : Option Announce) (s : State) : (utcTaken parent s).time.source = s.time.source ∧ (utcTaken parent s).time.pendingSwitch = s.time.pendingSwitch ∧
    (utcTaken parent s).time.state = s.time.state := by
  cases parent <;> exact ⟨rfl, rfl, rfl⟩

/-- The state in which the switch is counted: the new source selected, its offset to UTC taken. -/
def switched (dest : Nat) (s : State) : State :=
  let t := { s with time := { s.time with source := dest, pendingSwitch := none } }
  let u := utcTaken (instAt t.time ((baseAt t.time (dest - 1)).port.getD 0) (dest - 1)).parent t
  if u.time.state ≤ 2 then u else setTbmState 2 u

theorem tbmSwitch_pending {dest cause : Nat} {s : State} (pending : s.time.pendingSwitch = some (dest, cause)) (on : s.time.state ≠ 0) :
    tbmSwitch s = count 0x18A (placeTime 0x0B02 (le 1 s.time.source ++ le 1 dest ++ le 1 cause ++ zeros 5 ++ leS 8 ((baseAt s.time (dest - 1)).o / 65536)) (switched dest s)) := by
  rw [tbmSwitch, pending]
  exact if_neg (by simpa using on)

theorem switched_leaves (dest : Nat) (s : State) :
    (switched dest s).time.source = dest ∧ (switched dest s).time.pendingSwitch = none ∧ (2 ≤ s.time.state → (switched dest s).time.state = 2) := by
  unfold switched
  dsimp only
  rw [(utcTaken_leaves ..).2.2]
  split
  next low =>
    dsimp only at low
    simp only [utcTaken_leaves, true_and]
    omega
  next => simp [setTbmState_leaves, utcTaken_leaves]

/-- Settles O27: each event takes the branch of the base's state that its premises name; what the steps on the way leave alone is stated above. -/
theorem timeEventsComplete : Obligations.TimeEventsComplete := by
  intro s
  refine ⟨fun port i v domain known hd hi on => ⟨fun slave => ?sync, fun mech => ?delay, fun mech => ?pdelay, ?other⟩, fun port domain m notA notB => ?unknown, fun b x hb hx locked rates => ?holdover,
    fun port b hp hb slave => ?announce, fun port b stamp i hp hb hi on slave => ?delayReq, fun tai t ht => ⟨fun locked => ?locked, fun notTwo notThree => ?unlocked⟩,
    fun ns cause t pending running active ht => ⟨fun forward => ?forward, fun back => ?back⟩, fun dest cause pending on => ?switch,
    fun e locked utc he => ⟨fun near going => ?trim, fun far => ?commit⟩, fun falling offset o on edge ho => ⟨fun near => ?edge, fun far t ht => ?edgeFar⟩, fun on had => ?loss, fun sec on runs new => ?pulse⟩
  case sync => exact congrArg Host.Outcome.next (ptpIn_sync known hd hi on slave v)
  case delay => exact congrArg Host.Outcome.next (ptpIn_delayResp known hd hi on mech v)
  case pdelay => exact congrArg Host.Outcome.next (ptpIn_pdelayResp known hd hi on mech v)
  case other => exact congrArg Host.Outcome.next (ptpIn_other known hd hi on)
  case unknown => exact congrArg Host.Outcome.next (ptpIn_unknownDomain notA notB m)
  case holdover =>
    subst hx
    refine (if_pos hb).trans (congrArg Host.Outcome.next ((if_pos (by simpa using locked)).trans ?_))
    simp only [beq_iff_eq, List.length_eq_zero_iff, rates, if_false]
  case announce => exact if_pos (by simp [hp, hb, slave])
  case delayReq =>
    subst hi
    exact if_pos (by simp [hp, hb, on, slave])
  case locked =>
    rw [exec_tbmEvaluation ht, if_pos locked]
  case unlocked => rw [exec_tbmEvaluation ht, if_neg (not_or.mpr ⟨notTwo, notThree⟩)]
  case forward => rw [exec_tbmStep pending running active ht, if_pos forward]
  case back => rw [exec_tbmStep pending running active ht, if_neg (by omega)]; rfl
  case switch => exact ⟨_, congrArg Host.Outcome.next (tbmSwitch_pending pending on), switched_leaves dest s⟩
  case trim =>
    subst he
    exact (if_pos (by simp [locked, utc])).trans (if_neg (by simp [near, going]))
  case commit =>
    subst he
    exact (if_pos (by simp [locked, utc])).trans (if_pos (by simpa using far))
  case edge =>
    subst ho
    refine (if_pos (by simp [on, edge])).trans ?_
    simp [Nat.not_lt.mpr near]
  case edgeFar =>
    subst ho ht
    refine (if_pos (by simp [on, edge])).trans ?_
    cases alert : s.time.ppsAlert && s.time.ppsOffset.isSome <;> simp [far]
  case loss => exact (if_pos (by simp [on])).trans (if_neg (by simp [Option.isNone_iff_eq_none, Option.isSome_iff_ne_none.mp had]))
  case pulse => exact if_pos (by simp [on, runs, new])

end Sys2Proof.Machine

namespace Sys2Proof.Machine

/-!
Proofs of chapters 9 and 10: the events of D10 (O21).
-/

/-! ### The message of a tick -/

theorem lumRun_of_none {s : State} (lums : s.drive.lums = []) (k : Nat) : lumRun s k = none := by simp [lumRun, lums]

/-- Luminaires and strings that owe no entry leave the state as it is. -/
theorem driveTickMessage_quiet {ntc : List Nat} {vbus : List Int} {s : State} (on : driveGated s = false) (lums : s.drive.lums = []) (strs : ∀ x ∈ s.drive.strs, x.due = false) :
    exec (.driveTickMessage ntc vbus) s = .next (driveEntry 0x0701 ((List.replicate 8 (le 4 0x80000000)).flatten ++ leS 4 ((vbus[0]?).getD 0) ++ leS 4 ((vbus[1]?).getD 0))
      { s with drive := { s.drive with tick := s.clerk.tick, vbus := vbus } }) := by
  refine (if_neg (by simp [on])).trans ?_
  rw [lums, List.foldl_nil]
  dsimp only
  rw [List.foldl_fixed' (l := List.range 24), List.foldl_fixed' (l := List.range 8)]
  · simp only [lumRun, lums, List.find?_nil]
    rfl
  · intro k
    rw [lumRun_of_none]
    exact lums
  · intro i
    split
    next x hx => exact if_neg (by simp [strs x (List.mem_of_getElem? hx)])
    next => rfl

/-- Settles O21: each event finds its slot, string or luminaire, and takes the branch that its premises name. -/
theorem driveEventsComplete : Obligations.DriveEventsComplete := by
  intro s
  refine ⟨fun sense ntc vbus on t ht owners due ho hd => ?sample, fun k x y found release idle hy => ?release, fun lead start target code rest t mine first ahead ht hm => ?entry,
    fun ntc vbus on lums strs => driveTickMessage_quiet on lums strs, fun ntc vbus on => ?message, fun k l f found running normal hf => ?fallback, rfl,
    fun i sub l x high low fsw u hx hl hf hu running fitted good period clock => ⟨fun long => ?cycle, fun short => ?shortCycle⟩, fun i x hx few => ?trip, fun i x hx many => ?latch,
    fun k ms rest first => ?control⟩
  case sample =>
    subst ht hd ho
    exact if_neg (by simp [on])
  case release =>
    subst hy
    change execLoopReleaseEffect k s = _
    rw [execLoopReleaseEffect, found]
    dsimp only
    rw [release]
    exact if_pos (by simp [idle])
  case entry =>
    subst ht hm
    change execDriveEntryReceive s = _
    rw [execDriveEntryReceive, first]
    exact congrArg Host.Outcome.next (if_neg (by simpa using ahead))
  case message =>
    refine ⟨_, _, if_neg (by simp [on]), ?_⟩
    rw [List.length_append, List.length_append, leS_length, leS_length, length_flatten_items (n := 4), List.length_range]
    intro k
    split
    next => split <;> simp
    next => simp
  case fallback =>
    subst hf
    change execLuminaireFallback k s = _
    rw [execLuminaireFallback, found]
    exact if_pos (by simp [running, normal])
  case cycle =>
    change execSwitchingCycle i sub high low s = _
    rw [execSwitchingCycle, hx, hl]
    dsimp only
    rw [← hf, ← hu]
    exact (if_neg (by simp [running, fitted, good, period])).trans ((if_neg (by simp [clock]; omega)).trans (by simp [clock]))
  case shortCycle =>
    change execSwitchingCycle i sub high low s = _
    rw [execSwitchingCycle, hx, hl]
    dsimp only
    rw [← hf, ← hu]
    exact (if_neg (by simp [running, fitted, good, period])).trans (if_pos (by simp [clock]; omega))
  case trip =>
    change execComparatorTrip i s = _
    rw [execComparatorTrip, hx]
    exact congrArg Host.Outcome.next (if_neg (by omega))
  case latch =>
    change execComparatorTrip i s = _
    rw [execComparatorTrip, hx]
    exact congrArg Host.Outcome.next (if_pos (by omega))
  case control =>
    change execDriveControlArrival s = _
    rw [execDriveControlArrival, first]

end Sys2Proof.Machine

namespace Sys2Proof.Machine

/-!
Proofs of chapters 17 and 18: the events of the store and the vault (O22).
-/

/-! ### The pruner and the scrub -/

/-- A word that needs nothing is passed over. -/
theorem prunerWord_zero (region word : Nat) (o : StoreOwner) (s : State) : prunerWord region word 0 o s = s := rfl

theorem bit_or_self (k v : Nat) : bit (v ||| 2 ^ k) k = true := by simp [bit]

/-- Settles O22: each event takes the branch of the region or of the request that its premises name. -/
theorem storeEventsComplete : Obligations.StoreEventsComplete := by
  intro s o
  refine ⟨fun within => ?clean, fun code => rfl, fun r cause rest x k idle queue hx found => ?start, fun r k running still => ?complete, fun p r t found ht => ⟨?aborted, ?retired⟩,
    fun lap hl exceeds new => ?overdue, fun e soft => ?corrected, fun e hard => ?hard, fun none_ => ?gate, fun k rest first => ?use⟩
  case clean => exact ⟨_, congrArg Host.Outcome.next (if_pos within), rfl, rfl, rfl, rfl⟩
  case start =>
    refine ⟨_, rfl, ?_⟩
    simp only [idle, queue, found, hx, Option.some_or, beq_iff_eq]
    exact ⟨trivial, trivial, rfl, rfl⟩
  case complete =>
    refine ⟨_, rfl, ?_⟩
    simp only [running, still, Bool.false_eq_true, if_false]
    exact ⟨rfl, rfl, bit_or_self 1 _, rfl, (List.length_modify ..).trans (List.length_modify ..)⟩
  case aborted =>
    subst ht
    change execRegionTestComplete r true s = _
    rw [execRegionTestComplete, found]
    rfl
  case retired =>
    subst ht
    change execRegionTestComplete r false s = _
    rw [execRegionTestComplete, found]
    rfl
  case overdue =>
    subst hl
    exact congrArg Host.Outcome.next (if_pos (by simp [exceeds, new]))
  case corrected => exact congrArg Host.Outcome.next (if_neg (by simp [soft]))
  case hard => exact ⟨_, congrArg Host.Outcome.next (if_pos hard), rfl, rfl⟩
  case gate =>
    change execVaultRequest s = _
    rw [execVaultRequest, none_]
  case use =>
    refine ⟨_, rfl, ?_⟩
    change execVaultRequest s = _
    rw [execVaultRequest, first]

end Sys2Proof.Machine

namespace Sys2Proof.Machine

/-!
Proofs of chapters 11, 12 and 24: the events of D9 and of the power-fail warning (O24).
-/

/-! ### A sample without a crossing, and the edges of a pulse output -/

/-- Without a crossing the marks of the crossings and the periods stand. -/
theorem exec_meteringSample_still {v i1 i16 vh : List Int} {cross : List Bool} {s : State} (on : s.metro.gated = false) (supplied : vanaUnder s = false)
    (still : ∀ k, k < 3 → (cross[k]?).getD false = false) :
    exec (.meteringSample v i1 i16 vh cross) s = .next ((s.metro.runs.filter (fun r => r.from_ ≤ s.clerk.tick)).foldl (circuitSample v i1 i16 vh cross)
      { s with metro := { s.metro with
          samples := s.metro.samples + 1, cross := [(s.metro.cross[0]?).getD none, (s.metro.cross[1]?).getD none, (s.metro.cross[2]?).getD none]
          period := [(s.metro.period[0]?).getD 0, (s.metro.period[1]?).getD 0, (s.metro.period[2]?).getD 0] } }) := by
  refine (if_neg (by simp [on, supplied])).trans ?_
  simp only [still 0 (by omega), still 1 (by omega), still 2 (by omega), Bool.false_eq_true, if_false]

section output
variable {k : Nat} {o : PulseOut} {s : State} (found : s.metro.outs[k]? = some o) (enabled : o.cfg.enable = true) (idle : o.active = false)
include found enabled idle

theorem exec_pulseOutEdge_due (none_ : o.backlog = 0) (due : o.due ≠ []) :
    exec (.pulseOutEdge k) s = .next (count 0x110 (modOut k (fun o => { o with due := o.due.drop 1, active := true }) s)) := by
  change execPulseOutEdge k s = _
  rw [execPulseOutEdge, found]
  exact (if_neg (by simp [enabled])).trans ((if_neg (by simp [idle, none_])).trans (if_neg (by simpa using due)))

theorem exec_pulseOutEdge_backlog (waiting : 0 < o.backlog) (none_ : o.due = []) :
    exec (.pulseOutEdge k) s = .next (count 0x110 (modOut k (fun o => { o with backlog := o.backlog - 1, active := true, aged := o.aged && o.backlog != 1 }) s)) := by
  change execPulseOutEdge k s = _
  rw [execPulseOutEdge, found]
  refine (if_neg (by simp [enabled])).trans ((if_pos (by simp [waiting])).trans ?_)
  simp only [none_, List.isEmpty_nil, if_true]
  exact if_neg (by simp [idle])

end output

/-- A level that an enabled input does not have yet is taken or rejected. -/
theorem exec_pulseInLevelAccept {k ms : Nat} {i : PulseIn} {level : Bool} {s : State} (found : s.metro.ins[k]? = some i) (enabled : i.cfg.enable = true) (new : i.active = !level) :
    exec (.pulseInLevelAccept k level ms) s = .next (if level then modIn k (fun i => { i with active := true }) s
      else if i.cfg.width ≤ ms then count 0x112 (modIn k (fun i => { i with active := false, pulses := i.pulses + 1 }) s)
      else count 0x113 (modIn k (fun i => { i with active := false, rejected := i.rejected + 1 }) s)) := by
  change execPulseInLevelAccept k level ms s = _
  rw [execPulseInLevelAccept, found]
  refine (if_neg (by simp [enabled, new])).trans ?_
  rw [apply_ite Host.Outcome.next, apply_ite Host.Outcome.next]

/-- Settles O24: each event finds its circuit, job or line, and takes the branch that its premises name. -/
theorem meteringEventsComplete : Obligations.MeteringEventsComplete := by
  intro s
  refine ⟨fun v i1 i16 vh cross t c p on supplied still hc hp ht => ?sample, fun done volts amps freq mean angle j busy hj => ⟨fun step within => ?proposed, fun cause least most => ?failed⟩,
    fun k o found enabled idle none_ due => exec_pulseOutEdge_due found enabled idle none_ due, fun k o found enabled idle waiting none_ => exec_pulseOutEdge_backlog found enabled idle waiting none_,
    fun k => rfl, fun k o found waiting fresh => ?aged, fun k i ms found enabled => ⟨fun low => ?rise, fun high long => ?pulse, fun high short => ?reject⟩,
    fun k m hm known opened later boundary => ?interval, fun k known => ?balance, fun on idle => ?gate, fun off => ?ungate, fun k ms rest first => ?control,
    fun residue parts us new => ?accept, fun saving kept => ?cancel⟩
  case sample =>
    subst ht
    rw [exec_meteringSample_still on supplied still, hc 0 (by omega), hc 1 (by omega), hc 2 (by omega), hp 0 (by omega), hp 1 (by omega), hp 2 (by omega)]
  case proposed =>
    subst hj
    refine (if_neg (by simp [busy])).trans ?_
    dsimp only at step within
    rw [step] at within
    simp [step, within]
  case failed =>
    subst hj
    refine (if_neg (by simp [busy])).trans ?_
    simp [Nat.min_eq_left most, show cause ≠ 0 by omega]
  case aged =>
    change execPulseBacklogAged k s = _
    rw [execPulseBacklogAged, found]
    exact if_pos (by simp [waiting, fresh])
  case rise => rw [exec_pulseInLevelAccept (level := true) found enabled low, if_pos rfl]
  case pulse => rw [exec_pulseInLevelAccept (level := false) found enabled high, if_neg nofun, if_pos long]
  case reject => rw [exec_pulseInLevelAccept (level := false) found enabled high, if_neg nofun, if_neg (by omega)]
  case interval =>
    subst hm
    exact if_pos (by simp [known, opened, later, boundary])
  case balance => exact if_pos known
  case gate => exact congrArg Host.Outcome.next ((if_neg (by simp [idle, on])).trans (if_pos (by simp [idle])))
  case ungate => exact congrArg Host.Outcome.next ((if_neg (by simp [off])).trans (if_neg (by simp)))
  case control =>
    change execMetroControlArrival s = _
    rw [execMetroControlArrival, first]
  case accept => exact ⟨_, congrArg Host.Outcome.next (if_neg (by simp [new])), rfl, rfl⟩
  case cancel => exact ⟨_, (if_pos saving).trans (congrArg Host.Outcome.next (if_neg (by simp [kept]))), rfl, rfl⟩

end Sys2Proof.Machine

namespace Sys2Proof.Machine

/-!
Proofs of chapter 13: the events of the radios (O25).
-/

/-! ### The start of a slot -/

section slot
variable {q slot : Nat} {s : State} (known : q ≤ 3) (configured : (cfgAt? s.ord q s.clerk.tick).isSome = true) (running : s.clerk.running = true) (short : s.clerk.long = false)
include known configured running short

/-- A configured radio serves the slots of a tick. -/
theorem slotServed (inFrame : slot ≤ 19) : ¬ (decide (3 < q) || decide (19 < slot) || (cfgAt? s.ord q s.clerk.tick).isNone || !s.clerk.running || s.clerk.long) = true := by
  simp [Option.isSome_iff_ne_none.mp configured, running, short]
  omega

theorem exec_slotStart_gap (sfd : Nat) (listening : radioState s q = 0 ∨ radioState s q = 1) :
    exec (.slotStart q 18 sfd) s = .next (modSeq q (fun y => { y with windows := windowsOf s q 18, awaitAck := none }) s) :=
  (if_neg (slotServed known configured running short (by omega))).trans (if_pos (by simpa using listening))

variable (active : s.mode.role ≠ 2) (on : transmitting s q = true)
include active on

theorem exec_slotStart_field (sfd : Nat) (field : slot = 1 ∨ slot = 2) :
    exec (.slotStart q slot sfd) s = .next (sendField q slot (modSeq q (fun y => { y with windows := [], awaitAck := none }) s)) := by
  have served := slotServed known configured running short (slot := slot) (by omega)
  refine (if_neg served).trans ((if_neg (by simp; omega)).trans ((if_neg (by simpa using active)).trans ((if_neg (by simp [on])).trans ?_)))
  rcases field with rfl | rfl <;> rfl

theorem exec_slotStart_beacon (sfd : Nat) {b : State × Bool} {t : State} (ht : t = modSeq q (fun y => { y with windows := [], awaitAck := none }) s)
    (hb : b = sendFixed q 0 51 (2 + (cfgAt s.ord q s.clerk.tick).key % 2) (seqOf t q).bcast (beaconPayload t q sfd) (radioSource q 0) t) (sent : b.2 = true) (measured : b.1.boot.beaconMs ≠ 0) :
    exec (.slotStart q 0 sfd) s = .next (count 0x187 b.1) := by
  have served := slotServed known configured running short (slot := 0) (by omega)
  refine (if_neg served).trans ((if_neg (by simp)).trans ((if_neg (by simpa using active)).trans ((if_neg (by simp [on])).trans ?_)))
  have before : (if 3 ≤ 0 then windowsOf s q 0 else []) = [] := rfl
  have ord : t.ord = s.ord := by rw [ht]; rfl
  dsimp only
  rw [before, ← ht, ord, ← hb]
  simp [sent, measured]

variable (sfd : Nat) (low : 3 ≤ slot) (high : slot ≤ 17) {t : State} (ht : t = modSeq q (fun y => { y with windows := windowsOf s q slot, awaitAck := none }) s)
include low high ht

/-- The slots between the fixed ones and the gap take their course by the kind that the plan in force gives them. -/
theorem exec_slotStart_planned : exec (.slotStart q slot sfd) s = .next (if slotKind s.ord q s.clerk.tick slot = 1 then (if (occupant s.ord q slot s.clerk.tick 0xFF).isNone then sendDownlink q slot t else t)
    else if slotKind s.ord q s.clerk.tick slot = 3 then sendBulk q slot t else t) := by
  have served := slotServed known configured running short (slot := slot) (by omega)
  refine (if_neg served).trans ((if_neg (by simp; omega)).trans ((if_neg (by simpa using active)).trans ((if_neg (by simp [on])).trans ?_)))
  rw [if_pos low, ← ht]
  have ord : t.ord = s.ord := by rw [ht]; rfl
  split
  case h_1 => omega
  case h_2 => omega
  case h_3 => omega
  case h_4 => omega
  case h_5 => omega
  case h_6 =>
    dsimp only
    rw [ord]
    split
    next kind => rw [kind, if_pos rfl]
    next kind => rw [kind, if_neg (by decide), if_pos rfl]
    next notOne notThree => rw [if_neg notOne, if_neg notThree]

end slot

/-- A radio that is on or at the floor hears frames. -/
theorem frameServed {q : Nat} {s : State} (known : q ≤ 3) (configured : (cfgAt? s.ord q s.clerk.tick).isSome = true) (up : radioState s q ≤ 1) :
    ¬ (decide (3 < q) || (cfgAt? s.ord q s.clerk.tick).isNone || decide (1 < radioState s q)) = true := by
  simp [Option.isSome_iff_ne_none.mp configured]
  omega

/-- Settles O25: each event takes the branch of its radio's state that its premises name. -/
theorem radioEventsComplete : Obligations.RadioEventsComplete := by
  intro q s known configured
  refine ⟨fun running short => ⟨fun sfd listening => exec_slotStart_gap known configured running short sfd listening,
      fun slot sfd active on field => exec_slotStart_field known configured running short active on sfd field,
      fun slot sfd t active on low high ht => ⟨fun kind free => ?downlink, fun kind => ?mini, fun kind => ?bulk⟩,
      fun sfd b t active on ht hb sent measured => exec_slotStart_beacon known configured running short active on sfd ht hb sent measured⟩,
    fun slot mini f t up active idle window ht good version type pan level fits mic partner fresh room => ?frame, fun slot mini f ref x up active waits type good mic ack found => ?ack,
    fun slot mini window => if_pos window, fun slot mini ref other waits => ?missed, fun ref f found old => ?aged, fun t refused later => ?alert,
    fun c next was off => ?off, fun c next was on => ?on, fun cause up first => ?fail⟩
  case downlink => rw [exec_slotStart_planned known configured running short active on sfd low high ht, if_pos kind, if_pos free]
  case mini => rw [exec_slotStart_planned known configured running short active on sfd low high ht, kind, if_neg (by decide), if_neg (by decide)]
  case bulk => rw [exec_slotStart_planned known configured running short active on sfd low high ht, kind, if_neg (by decide), if_pos rfl]
  case frame =>
    subst ht
    refine (if_neg (frameServed known configured up)).trans ((if_neg (by simpa using active)).trans ?_)
    rw [idle]
    refine (if_neg (by simpa using window)).trans ((if_neg (by simp [good, version, type, pan, level])).trans ((if_neg ?_).trans ((if_neg ?_).trans ((if_neg ?_).trans rfl))))
    · simpa [Decidable.imp_iff_not_or] using fits
    · simp [mic, Option.isSome_iff_ne_none.mp partner, modSeq]
      exact decide_eq_false (Nat.not_le.mpr fresh)
    · simpa [rxFull] using room
  case ack =>
    refine (if_neg (frameServed known configured up)).trans ((if_neg (by simpa using active)).trans ?_)
    rw [waits]
    refine (if_neg (by simp [type])).trans ((if_neg (by simp [good, mic])).trans ((if_neg (by simp [ack])).trans ?_))
    rw [found]
  case missed =>
    refine (if_neg (by simpa using other)).trans ?_
    rw [waits]
  case aged =>
    change execDownlinkAgeTimeout q ref s = _
    rw [execDownlinkAgeTimeout, found]
    exact if_pos old
  case alert =>
    change execRadioAlertExpiry q s = _
    rw [execRadioAlertExpiry, refused]
    exact congrArg Host.Outcome.next (if_pos later)
  case off =>
    refine (if_neg (by simp [next]; omega)).trans ?_
    simp [next, was, off, b2n]
  case on =>
    refine (if_neg (by simp [next]; omega)).trans ?_
    simp [next, was, on, b2n]
  case fail =>
    refine (if_neg (by simp [up]; omega)).trans ?_
    simp [first]

end Sys2Proof.Machine

namespace Sys2Proof.Machine

/-!
Proofs of chapter 20: the events of the twin (O29).
-/

/-! ### What a sync leaves of the twin -/

@[simp] theorem gatesLow_twin (k : Nat) (s : State) : (gatesLow k s).twin = s.twin := rfl

@[simp] theorem driveChan_twin (h : Handle) (what tick : Nat) (s : State) : (driveChan h what tick s).twin = s.twin := by
  unfold driveChan
  dsimp only
  (repeat' split) <;> rfl

@[simp] theorem clearFault_twin (f : Nat × Nat) (s : State) : (clearFault f s).twin = s.twin := by
  unfold clearFault
  dsimp only
  (repeat' split) <;> rfl

@[simp] theorem driveMsg_twin (m : DriveMsg) (s : State) : (driveMsg m s).twin = s.twin := by
  cases m
  case chan h what tick => exact driveChan_twin h what tick s
  case clear fs => exact foldl_leaves (part := State.twin) (fun s f => clearFault_twin f s) fs s
  case lum h x =>
    simp only [driveMsg]
    (repeat' split) <;> rfl
  all_goals rfl

@[simp] theorem restoreDrive_twin (t : Nat) (s : State) : (restoreDrive t s).twin = s.twin := by
  unfold restoreDrive
  refine (foldl_leaves (part := State.twin) (fun s (c : Channel) => driveChan_twin c.handle 2 t s) _ _).trans (foldl_leaves (part := State.twin) (fun s (c : Channel) => ?_) _ _)
  split <;> simp

@[simp] theorem metroMsg_twin (tick : Nat) (s : State) (m : MetroMsg) : (metroMsg tick s m).twin = s.twin := by
  cases m
  case start h t =>
    simp only [metroMsg]
    split <;> rfl
  case committed j =>
    simp only [metroMsg]
    split <;> rfl
  all_goals rfl

@[simp] theorem restoreMetro_twin (t : Nat) (s : State) : (restoreMetro t s).twin = s.twin :=
  foldl_leaves (part := State.twin) (fun s (c : Channel) => metroMsg_twin t s (.start c.handle t)) _ _

/-- D9 and D10 are restored without a step of the clerk or of the start-up. -/
theorem restored_leaves (t u : Nat) (s : State) : (restoreDrive t (restoreMetro u s)).clerk.running = s.clerk.running ∧ (restoreDrive t (restoreMetro u s)).boot.stage = s.boot.stage := by
  obtain ⟨running, -, stage⟩ := pace_eq.mp ((pace_restoreDrive t (restoreMetro u s)).trans (pace_restoreMetro u s))
  exact ⟨running, stage⟩

@[simp] theorem takePlan_twin (f : InForce) (s : State) : (takePlan f s).twin = s.twin := by
  unfold takePlan
  split <;> rfl

@[simp] theorem dropLodge_twin (h : Handle) (s : State) : (dropLodge h s).twin = s.twin := rfl

theorem allocRegion_twin (h : Handle) (s : State) : (allocRegion h s).1.twin = s.twin := by
  unfold allocRegion
  (repeat' split) <;> rfl

@[simp] theorem addLodge_twin (h : Handle) (hint : Nat) (near : Handle) (s : State) : (addLodge h hint near s).twin = s.twin := allocRegion_twin h s

@[simp] theorem syncLodges_twin (old new : Ordered) (rs : List CmdResult) (s : State) : (syncLodges old new rs s).twin = s.twin :=
  (foldl_leaves (part := State.twin) (fun _ _ => addLodge_twin ..) _ _).trans (foldl_leaves (part := State.twin) (fun s (c : Channel) => dropLodge_twin c.handle s) _ _)

@[simp] theorem takeCheckpoint_twin (c : Checkpoint) (s : State) : (takeCheckpoint c s).twin = s.twin := by
  unfold takeCheckpoint settleRestore
  exact (foldl_leaves (part := State.twin) (fun _ _ => by rfl) _ _).trans (syncLodges_twin ..)

/-! ### The role a twin takes -/

/-- With no peer heard, the role ACTIVE is entered with the next epoch. -/
theorem setRole_active {s : State} (other : s.twin.role ≠ 1) (alone : s.twin.peer = none) :
    (setRole 1 s).twin.role = 1 ∧ (setRole 1 s).mode.role = 1 ∧ (setRole 1 s).twin.epoch = (s.twin.epoch + 1) % 2 ^ 32 := by
  have new : (s.twin.role == 1) = false := by simpa using other
  have top : topEpoch s = s.twin.epoch := by simp [topEpoch, alone]
  simp only [setRole, new, Bool.false_eq_true, if_false, beq_self_eq_true, if_true, top]
  exact ⟨rfl, rfl, rfl⟩

/-- Settles O29: each event takes the branch of the module's role and of the link, as its premises name them. -/
theorem twinEventsComplete : Obligations.TwinEventsComplete := by
  intro s
  refine ⟨fun twin ready => ?send, fun b twin ready long magic foreign => ?receive, fun active ready tw udp heardTw heardUdp => ?deadline,
    fun standby ready tw udp heardTw heardUdp missed silent idle current => ?silence, fun cause due standby running => ?takeover,
    fun b w cs ws dt standby up some_ hw running next chain => ?import_, fun b p twin up ready hp good room => ?command, fun m v twin up ready hm mine => ?ack, fun f last up => ?resend,
    fun joining ready waited home alone => ?join, fun cause plan ckpt ws syncing asked failed => ?syncFailed, fun plan ckpt syncing asked => ?synced, fun syncing idle => ?retry,
    fun t planned active now running master => ?handOver, fun t planned standby next due => ?enter, fun port speed isPort isSpeed change booted => exec_linkStateChange isPort isSpeed change booted,
    rfl, fun none_ => ?link⟩
  case send => exact if_neg (by simp [twin, ready])
  case receive =>
    refine (if_neg ?_).trans ?_
    · simp [twin, ready, magic, foreign]
      omega
    · simp
  case deadline =>
    refine (if_neg (by simp [active, ready])).trans ?_
    simp [active, tw, udp, heardTw, heardUdp, notePath, modTwin, b2n]
  case silence =>
    have current' : ∀ t : State, t.twin.peer = s.twin.peer → t.clerk = s.clerk → twinCurrent t = true := fun t peer clerk => by rw [← current, twinCurrent, twinCurrent, peer, clerk]
    refine ⟨_, (if_neg (by simp [standby, ready])).trans ((if_neg ?_).trans ((if_neg ?_).trans (if_pos ?_))), ?_⟩
    · simp [standby, tw, udp, heardTw, heardUdp, notePath, modTwin]
    · rw [current' _ (by simp [tw, udp, heardTw, heardUdp, notePath, modTwin]) (by simp [tw, udp, heardTw, heardUdp, notePath])]
      decide
    · simp [silent, idle, tw, udp, heardTw, heardUdp, notePath, modTwin]
      omega
    · simp [tw, udp, heardTw, heardUdp, notePath, modTwin]
  case takeover =>
    change execTakeover s = _
    rw [execTakeover, due]
    exact (if_neg (by rcases standby with h | h <;> simp [h])).trans ((if_neg (by simp [running])).trans (if_neg (by omega)))
  case import_ =>
    subst hw
    refine (if_neg (by rcases standby with h | h <;> simp [h, up])).trans (congrArg (Host.Outcome.next ∘ signal) ?_)
    simp [importRecord, some_, running, next, chain]
  case command =>
    subst hp
    refine (if_neg (by simp [twin, up, ready])).trans ((if_neg (by simp)).trans ?_)
    dsimp only
    rw [good]
    exact if_neg (by simp [room])
  case ack => exact (if_neg (by simp [twin, up, ready])).trans ((if_neg (by simp)).trans (if_pos (by simp [hm, mine])))
  case resend =>
    change execTwinFrameResend s = _
    rw [execTwinFrameResend, last]
    exact congrArg Host.Outcome.next (if_pos up)
  case join =>
    refine ⟨_, congrArg Host.Outcome.next (if_pos ?_), setRole_active (by omega) alone⟩
    simp [joining, ready, home, alone]
    simpa using waited
  case syncFailed => exact (if_neg (by simp [syncing, asked])).trans (if_pos (by simpa using failed))
  case synced =>
    refine ⟨_, (if_neg (by simp [syncing, asked])).trans (if_neg (by simp)), ?_⟩
    simp [restored_leaves, modTwin, modClerk, modBoot]
  case retry => exact congrArg Host.Outcome.next (if_pos (by simp [syncing, idle]))
  case handOver =>
    change execHandover s = _
    rw [execHandover, planned]
    refine (if_pos (by simp [active])).trans ((if_pos (by simp [now])).trans (congrArg (Host.Outcome.next ∘ signal) ?_))
    refine (if_neg (by simp [running])).trans ((if_neg (by simpa using master)).trans ?_)
    rw [active, planned]
    exact if_pos (by simp [now])
  case enter =>
    change execHandover s = _
    rw [execHandover, planned]
    exact (if_neg (by simp [standby])).trans (if_pos (by simp [standby, next, due]))
  case link =>
    refine ⟨_, rfl, ?_⟩
    simp [exportQueue, modTwin, none_]

end Sys2Proof.Machine

namespace Sys2Proof.Machine

/-!
Proofs of chapter 21: the events of resets, the boot and the watchdog (O30).
-/

/-! ### The supplies that a power-on finds sound -/

/-- The two lowest bits of a mask are cleared together. -/
theorem bits_cleared (v : Nat) : bit (v - v % 4) 0 = false ∧ bit (v - v % 4) 1 = false := by
  simp only [bit, Nat.testBit_eq_decide_div_mod_eq, decide_eq_false_iff_not]
  omega

/-- A watchdog that expires alone in its ten minutes asks for a reset of the device, not for a power cycle. -/
theorem exec_watchdogExpiry_alone {ms : Nat} {s t : State} (due : (if s.mode.ready ∨ s.mode.coppice then 1980 else 15000) ≤ ms) (released : heldInReset s = false)
    (alone : ∀ x ∈ s.boot.expiries, x + 600000 < s.uptime + ms)
    (ht : t = dueAtBoot 0x0205 ms { s with uptime := s.uptime + ms, boot := { s.boot with expiries := [s.uptime + ms], watchdogs := satAdd 32 s.boot.watchdogs 1 } }) :
    exec (.watchdogExpiry ms) s = .next (deviceReset 5 t) := by
  have none_ : s.boot.expiries.filter (fun x => s.uptime + ms ≤ x + 600000) = [] := by
    simpa [List.filter_eq_nil_iff] using alone
  subst ht
  refine (if_neg ?_).trans ?_
  · simpa [released] using due
  · dsimp only
    rw [none_]
    exact congrArg Host.Outcome.next (if_neg (by simp))

/-- Settles O30: each event takes the branch of the stage of the start-up that its premises name. -/
theorem resetEventsComplete : Obligations.ResetEventsComplete := by
  intro s
  refine ⟨fun hs bs free up => ?powerOn, fun hs bs => rfl, fun us takes long => ?reset, fun us takes short => ?glitch, fun k pending => ?command, fun e r k d first released => ?boot,
    fun e r k d restoring released => ?restore, fun t stage normal stopped active based later => exec_resumeTickOpen stage normal stopped active based later, fun on between => ?beat,
    fun ms t due released alone ht => exec_watchdogExpiry_alone due released alone ht, fun first warm => ?silent, fun cycling => ?release, fun d ms m six seven found => ?domain⟩
  case powerOn =>
    obtain ⟨first, second⟩ := bits_cleared s.supply.under
    exact ⟨_, (if_neg (by simp [free, up])).trans rfl, rfl, rfl, rfl, first, second⟩
  case reset =>
    refine if_neg ?_
    rcases long with long | ⟨long, takes⟩
    · simp
      omega
    · simp [takes]
      omega
  case glitch => exact if_pos (by simp [short])
  case command =>
    change execResetDeviceAssert s = _
    rw [execResetDeviceAssert, pending]
  case boot => exact (if_neg (by simp [released, first])).trans ((if_neg (by simp)).trans (if_pos (by simp [first])))
  case restore => exact (if_neg (by simp [released, restoring])).trans ((if_neg (by simp)).trans (if_neg (by simp [restoring])))
  case beat => exact (if_neg (Nat.not_lt.mpr on)).trans (congrArg (Host.Outcome.next ∘ signal) (if_neg (by simpa using between)))
  case silent => exact congrArg Host.Outcome.next (if_pos (by simp [first, warm]))
  case release => exact congrArg Host.Outcome.next (if_pos cycling)
  case domain =>
    refine (if_neg (by simp [found])).trans ?_
    simp [found, six, seven]

end Sys2Proof.Machine

namespace Sys2Proof.Machine

/-!
Proofs of chapters 1 and 3: rebuilds, the placement review, moves of data and the stiles (O19).
-/

/-- Settles O19: each event finds its rebuild, lodging or stile, and takes the branch that its premises name. -/
theorem lodgingEventsComplete : Obligations.LodgingEventsComplete := by
  intro s h
  refine ⟨fun b c found few running newest held none_ => ?start, fun b t found later ht holds => ?complete, fun work moves due t ht => ?review, fun work moves errors asked between none_ => ?noReview,
    fun slot l found => ?moved, fun k words stalls peak known => ?packet, fun k words corrected hard peak known lost => ?lost, fun k x found => ⟨fun few => ?resend, fun many => ?restart⟩⟩
  case start =>
    change execRebuildStart h s = _
    rw [execRebuildStart, found]
    refine (if_neg (by simp [running]; omega)).trans (congrArg (Host.Outcome.next ∘ signal) ?_)
    have newest' : newestCkpt (modInn (fun i => { i with waiting := i.waiting.filter (fun x => x.handle != h) }) s) = some c := newest
    have held' : ringHolds (modInn (fun i => { i with waiting := i.waiting.filter (fun x => x.handle != h) }) s) c.tick = true := held
    rw [startRebuild, newest']
    simp only [held', none_, Bool.not_true, Bool.false_eq_true, if_false]
    rfl
  case complete =>
    subst ht
    change execRebuildComplete h s = _
    rw [execRebuildComplete, found]
    exact (if_neg (by omega)).trans (congrArg (Host.Outcome.next ∘ signal) (if_pos holds))
  case review =>
    subst ht
    refine congrArg Host.Outcome.next (if_pos ?_)
    simpa [noteWork] using due
  case noReview =>
    subst none_
    refine congrArg Host.Outcome.next (if_neg ?_)
    simp [noteWork, asked, between]
  case moved =>
    change execDataMoveComplete slot [] s = _
    rw [execDataMoveComplete, found]
    rfl
  case packet => exact (if_neg (by omega)).trans rfl
  case lost => exact (if_neg (by omega)).trans (congrArg (Host.Outcome.next ∘ signal) (if_pos (by simpa using lost)))
  case resend =>
    change execStileResend k s = _
    rw [execStileResend, found]
    exact if_pos few
  case restart =>
    change execStileResend k s = _
    rw [execStileResend, found]
    exact if_neg (by omega)

end Sys2Proof.Machine

namespace Sys2Proof.Machine

/-!
Proofs of chapter 4: the events of the link and the rings (O15).
-/

/-! ### RING_CTL written with ENABLE set and with ENABLE clear -/

theorem bits_setEnable (v n : Nat) {lo : Nat} (above : lo ≠ 0) : bits (v ||| 1) lo n = bits v lo n := by
  have low : 1 / 2 ^ lo = 0 := Nat.div_eq_of_lt (Nat.one_lt_two_pow above)
  rw [bits, Nat.or_div_two_pow, low, Nat.or_zero, bits]

theorem bit_one_setEnable (v : Nat) : bit (v ||| 1) 1 = bit v 1 := by
  have low : Nat.testBit 1 1 = false := rfl
  simp [bit, Nat.testBit_or, low]

theorem bit_one_clearedEnable (v : Nat) : bit (v / 2 * 2) 1 = bit v 1 := by simp [bit, Nat.testBit_succ]

/-! ### Replies that wait for a place -/

theorem any_of_popReply {want : Path → Bool} {l : List Reply} {a : Reply} {rest : List Reply} (popped : popReply want l = some (a, rest)) : l.any (fun r => want r.path) = true := by
  induction l generalizing rest with
  | nil => simp [popReply] at popped
  | cons r l ih =>
    cases wanted : want r.path with
    | true => simp [wanted]
    | false =>
      simp only [popReply, wanted, Bool.false_eq_true, if_false, Option.map_eq_some_iff] at popped
      obtain ⟨⟨b, tail⟩, found, eq⟩ := popped
      obtain ⟨rfl, -⟩ : b = a ∧ r :: tail = rest := by simpa using eq
      simp [ih found]

/-! ### The completion ring -/

/-- The ring and the host's memory after the completion of reply `a` is written, `rest` being what waits behind it. -/
def completed (r : Nat) (a : Reply) (rest : List Reply) (s : State) : State :=
  count 0x064 (modRing r (fun y => { y with cmpTail := (y.cmpTail + 1) % 128, phase := if y.cmpTail = 127 then !y.phase else y.phase })
    { s with paths := { s.paths with outgoing := rest }
             host := { s.host with hostWrites := s.host.hostWrites ++ replyWrites a ++
               [⟨(ringOf s r).cmpHi * 2 ^ 32 + (ringOf s r).cmpLo + 16 * (ringOf s r).cmpTail, completionBytes a (ringOf s r).phase⟩] } })

/-- With a place free, the completion of the oldest reply of the ring is written; a final one gives its tag back and counts towards an interrupt. -/
theorem exec_completionWrite {s : State} {r : Nat} {a : Reply} {rest : List Reply} (hr : r < 4) (popped : popReply (onRing r) s.paths.outgoing = some (a, rest))
    (room : ((ringOf s r).cmpTail + 1) % 128 ≠ (ringOf s r).cmpHead) : exec (.completionWrite r) s = .next (signal
      (if a.final then signalRing r (if a.final && !a.refused then freeTag a.path a.tag (completed r a rest s) else completed r a rest s)
        else if a.final && !a.refused then freeTag a.path a.tag (completed r a rest s) else completed r a rest s)) := by
  have turn : completionTurn r s = writeCompletion r s := (if_neg (by simp [any_of_popReply popped])).trans (if_neg (by simpa [ringFull] using room))
  refine (if_pos hr).trans (congrArg (Host.Outcome.next ∘ signal) ?_)
  rw [turn, writeCompletion, popped]
  simp only [beq_iff_eq]
  rfl

/-! ### A command that waits too long at intake (R94) -/

/-- No command of a path's tag waits among `l`, be it a packet or raw bytes. -/
theorem noneWaits {l : List Waiting} {path : Path} {tag : Nat} (gone : ∀ w ∈ l, ∀ q, w.body = .command q → (sameLane q.path path && q.tag == tag) = false) :
    l.any (fun w => match w.body with | .command p => sameLane p.path path && p.tag == tag | .raw _ => false) = false := by
  rw [List.any_eq_false]
  intro w hw
  split
  next q body => simp [gone w hw q body]
  next => simp

theorem sameLane_ring {q : Path} {k slot c a n : Nat} (same : sameLane q (.ring k slot c a n) = true) : ∃ slot' c' a' n', q = .ring k slot' c' a' n' := by
  cases q with
  | ring r slot' c' a' n' => exact ⟨slot', c', a', n', by simpa [sameLane] using same⟩
  | _ => simp [sameLane] at same

theorem sameLane_of_flight {s : State} {path : Path} {tag : Nat} {f : Flight} (flight : s.paths.flights.find? (fun f => sameLane f.path path && f.tag == tag && !f.answered) = some f) :
    sameLane f.path path = true := by
  obtain ⟨⟨lane, -⟩, -⟩ := by simpa only [Bool.and_eq_true] using List.find?_some (p := fun f : Flight => sameLane f.path path && f.tag == tag && !f.answered) flight
  exact lane

/-- The state in which a command timed out at intake is answered, `f` being its flight: the record and the count are made, the flight is closed. -/
def timedOut (r : Nat) (f : Flight) (tag : Nat) (s : State) : State :=
  closeFlight f.path tag (markAnswered f.path tag (count 0x06B (gbk 0x0404 (masterOf s f.path) (le 1 (masterOf s f.path) ++ le 1 r ++ le 1 tag) s)))

def timeoutReply (r : Nat) (f : Flight) (tag : Nat) (s : State) : Reply :=
  { path := f.path, flags := f.flags % 4, opcode := f.opcode, tag, status := Status.timeout.code, handle := f.handle,
    tick := tickNow (count 0x06B (gbk 0x0404 (masterOf s f.path) (le 1 (masterOf s f.path) ++ le 1 r ++ le 1 tag) s)) % 2 ^ 32 }

theorem timedOut_leaves (r : Nat) (f : Flight) (tag : Nat) (s : State) : (timedOut r f tag s).paths.outgoing = s.paths.outgoing ∧
    (timedOut r f tag s).gbk = (gbk 0x0404 (masterOf s f.path) (le 1 (masterOf s f.path) ++ le 1 r ++ le 1 tag) s).gbk := by
  simp [timedOut, closeFlight, markAnswered]

theorem exec_intakeTimeout_ring {s : State} {r slot c a n tag : Nat} {f : Flight}
    (flight : s.paths.flights.find? (fun f => sameLane f.path (.ring r slot c a n) && f.tag == tag && !f.answered) = some f)
    (gone : ∀ w ∈ s.clerk.intake ++ s.paths.remoteQueue, ∀ q, w.body = .command q → (sameLane q.path (.ring r slot c a n) && q.tag == tag) = false) :
    exec (.intakeTimeout (.ring r slot c a n) tag) s = .next (sendReply (timeoutReply r f tag s) (timedOut r f tag s)) := by
  have unread := noneWaits gone
  refine congrArg Host.Outcome.next ?_
  simp only [flight]
  refine (if_neg fun held => ?_).trans rfl
  obtain waits | elsewhere := Bool.or_eq_true_iff.mp held
  · exact Bool.noConfusion (waits.symm.trans unread)
  · exact Bool.noConfusion elsewhere

theorem sendReply_ring {q : Reply} {r slot c a n : Nat} (path : q.path = .ring r slot c a n) (s : State) :
    sendReply q s = { s with paths := { s.paths with outgoing := s.paths.outgoing ++ [q] } } := by
  simp only [sendReply, path]

/-! ### What signalling leaves of the interrupt enables -/

theorem signal_leaves_enables (s : State) :
    (signal s).host.intEnable = s.host.intEnable ∧ (signal s).host.alertEnable = s.host.alertEnable ∧ (signal s).ord = s.ord := by
  unfold signal
  dsimp only
  split <;> simp

theorem held_modRing_cmpHead (r v : Nat) (s : State) : (ringOf (modRing r (fun x => { x with cmpHead := v }) s) r).held = (ringOf s r).held := by
  cases listed : s.host.rings[r]? <;> simp [ringOf, modRing, modHost, modAt, listed]

/-- Settles O15: each event of an open link takes the branch that the ring's registers choose; a command timed out at intake is answered on its flight's ring. -/
theorem ringEventsComplete : Obligations.RingEventsComplete := by
  intro r v s x link hr hx
  subst hx
  obtain ⟨pcieSelected, -⟩ : s.host.hostsel = false ∧ s.boot.stage ≠ 0 := by simpa [pcie] using link
  refine ⟨?linkReset, fun up speed msi aer change => ?linkState, fun inactive hv => ?enable, fun active => ?disable, fun tail => ?doorbell, fun tail => ?badTail,
    fun d b p ready enabled pending room good hp t ht taken => ?fetch, fun a rest t popped room ht => ⟨fun more => ?part, fun last kept => ?final⟩,
    fun held => ?head, fun irq timed due => ?moderation, fun p tag f ring flight gone => ?intake⟩
  case linkReset =>
    refine ⟨_, if_neg (by simp [link]), (signal_leaves_link _).1, signal_leaves_enables _ |>.1, signal_leaves_enables _ |>.2.1, signal_leaves_mailboxes _ |>.1, ?_,
      signal_leaves_enables _ |>.2.2, signal_leaves _ |>.1⟩
    intro f hf k
    rw [(signal_leaves_link _).2.2.1] at hf
    have kept := (List.mem_filter.mp hf).2
    cases path : f.path with
    | ring => simp [path] at kept
    | _ => rfl
  case linkState =>
    refine ⟨_, (if_neg (by simp [link])).trans (congrArg (Host.Outcome.next ∘ signal) ?_), rfl⟩
    simp only [beq_iff_eq, Bool.and_eq_true, Bool.or_eq_true, bne_iff_ne, List.contains_iff_mem]
    exact if_pos change
  case enable =>
    rw [exec_ringCtlEnable link hr, writeRingCtl_start inactive (bit_setEnable v), bits_setEnable v 8 (by decide), bits_setEnable v 16 (by decide), bit_one_setEnable]
  case disable => rw [exec_ringCtlDisable link hr, writeRingCtl_active active, bit_clearedEnable, bit_one_clearedEnable]
  case doorbell =>
    exact (if_pos (by simp [link, hr])).trans (congrArg (Host.Outcome.next ∘ signal) (if_neg (by simpa using tail)))
  case badTail =>
    refine (if_pos (by simp [link, hr])).trans (congrArg (Host.Outcome.next ∘ signal) ((if_pos (by simpa using tail)).trans ?_))
    simp [ringError, b2n]
  case fetch =>
    subst hp ht
    refine (if_neg (by simp [link, hr, ready, enabled, pending])).trans ((if_neg (by simp [room])).trans ((if_neg (by simp [good])).trans ?_))
    exact congrArg Host.Outcome.next (by rw [ringPacket, taken])
  case part => rw [exec_completionWrite hr popped room, more]; subst ht; rfl
  case final => rw [exec_completionWrite hr popped room, last, kept]; subst ht; rfl
  case head =>
    refine (if_pos (by simp [link, hr])).trans (congrArg (Host.Outcome.next ∘ signal) ?_)
    have noneHeld := (held_modRing_cmpHead r (v % 128) s).trans held
    simp only [writeCmpHead, noneHeld, writeHeld]
  case moderation => exact if_pos (by simp [link, hr, irq, timed, due])
  case intake =>
    obtain ⟨k, slot, c, a, n, rfl⟩ := ring
    obtain ⟨slot', c', a', n', of⟩ := sameLane_ring (sameLane_of_flight flight)
    obtain ⟨kept, recorded⟩ := timedOut_leaves k f tag s
    have master : masterOf s f.path = 0 := by rw [of]; rfl
    refine ⟨_, k, timeoutReply k f tag s, (exec_intakeTimeout_ring flight gone).trans (congrArg _ (sendReply_ring of _)), by simp [onRing], by rw [kept], rfl, rfl, rfl, rfl, ?_⟩
    rw [← master]
    exact recorded

end Sys2Proof.Machine

namespace Sys2Proof.Machine

/-!
Proofs of chapter 4: the events of the mailboxes (O16).
-/

/-! ### The events of mailbox `m` while it is served -/

section
variable {s : State} {m : Nat} (hm : m < 16)
include hm

theorem exec_mbxPost (served : s.boot.stage ≠ 0) (mine : mbxOpen s m = true) (v : Nat) : exec (.mbxPost m v) s = .next (signal (writeIdb m (v ||| 1) s)) :=
  (if_neg (by simp [hm, served])).trans (congrArg (Host.Outcome.next ∘ signal) (if_pos mine))

theorem exec_mbxDiscard (served : s.boot.stage ≠ 0) (mine : mbxOpen s m = true) (v : Nat) : exec (.mbxDiscard m v) s = .next (signal (writeIdb m (v ||| 2) s)) :=
  (if_neg (by simp [hm, served])).trans (congrArg (Host.Outcome.next ∘ signal) (if_pos mine))

theorem exec_mbxOack (served : s.boot.stage ≠ 0) (mine : mbxOpen s m = true) (v : Nat) : exec (.mbxOack m v) s = .next (signal (writeOack m v s)) :=
  (if_neg (by simp [hm, served])).trans (congrArg (Host.Outcome.next ∘ signal) (if_pos mine))

theorem exec_mbxIack (posted : (mbxOf s m).post = true) : exec (.mbxIack m) s = .next (signal (mbxTake m s)) := if_pos (by simp [hm, posted])

theorem exec_mbxOutboundPost : exec (.mbxOutboundPost m) s = .next (signal (outboundPost m s)) := if_pos hm

end

/-! ### The doorbell, the segments taken, and the buffer released -/

theorem mbxPost_free {s : State} {m : Nat} (free : (mbxOf s m).post = false) : mbxPost m s = modMbx m (fun b => { b with post := true, ackValid := false }) s :=
  modMbx_congr (by simp [free])

/-- A segment in its turn, with more to come, joins what the mailbox holds. -/
theorem mbxTake_part {s : State} {m : Nat} (ready : s.mode.ready = true) (more : (mbxOf s m).iMore = true) (full : (mbxOf s m).iLen = 256)
    (turn : (mbxOf s m).iSeg = (mbxOf s m).nextSeg) (notLast : (mbxOf s m).iSeg < 15) :
    mbxTake m s = mbxAck m 1 (modMbx m (fun x => { x with partial_ := (mbxOf s m).partial_ ++ (mbxOf s m).inBuf.take 256, nextSeg := x.nextSeg + 1 }) s) := by
  refine (if_neg (by simp [ready])).trans ((if_neg (by simp [full])).trans ((if_neg (by simp [← turn]; omega)).trans ((if_pos more).trans ?_)))
  rw [full]

/-- The last segment completes its packet, which enters intake. -/
theorem mbxTake_packet {s : State} {m : Nat} {p : Packet} (ready : s.mode.ready = true) (last : (mbxOf s m).iMore = false) (nonempty : 1 ≤ (mbxOf s m).iLen) (fits : (mbxOf s m).iLen ≤ 256)
    (turn : (mbxOf s m).iSeg = (mbxOf s m).nextSeg) (hp : p = parsePacket (.mailbox m) ((mbxOf s m).partial_ ++ (mbxOf s m).inBuf.take (mbxOf s m).iLen))
    (whole : packetCode s m p = none) (taken : intakeCheck s p = none) :
    mbxTake m s = mbxAck m 0 (modMbx m (fun b => { b with partial_ := [], nextSeg := 0 }) (enqueue p s)) := by
  have entered : mbxPacket p s = enqueue p s := by rw [mbxPacket, taken]
  have length : (mbxOf s m).iLen ≠ 0 ∧ ¬ 256 < (mbxOf s m).iLen := by omega
  refine (if_neg (by simp [ready])).trans ((if_neg (by simp [length, last])).trans ((if_neg (by simp [turn, last])).trans ((if_neg (by simp [last])).trans ?_)))
  rw [← hp]
  simp only [whole, entered]

/-- The host's good acknowledgement in its turn releases the outbound buffer. -/
theorem writeOack_releases {s : State} {m v : Nat} (full : (mbxOf s m).oFull = true) (seq : bits v 8 8 = (mbxOf s m).oSeq) (good : bits v 0 8 = 0) :
    writeOack m v s = releaseOut m false s :=
  (if_neg (by simp [full, seq])).trans ((if_neg (by simp [good])).trans (by simp [good]))

/-- Settles O16: each event takes the branch of the doorbell, of the segment's place, or of the outbound buffer that its premises name. -/
theorem mailboxEventsComplete : Obligations.MailboxEventsComplete := by
  intro m v s b hm served hb
  subst hb
  refine ⟨fun mine free stay => ?post, fun mine unposted => ?discard, fun posted ready last some fits turn p hp whole taken => ?packet, fun posted ready more full turn notLast => ?part,
    fun r rest free idle popped => ?first, fun tag free busy => ?next, fun mine full seq good more => ?released, fun tag mine full seq good done busy => ?finished, fun full => ?aged⟩
  case post =>
    have set : bit (v ||| 1) 1 = false := (bit_one_setEnable v).trans stay
    rw [exec_mbxPost hm served mine, writeIdb, bit_setEnable, set, ← mbxPost_free free]
    rfl
  case discard =>
    have low : bit (v ||| 2) 0 = false := by simpa [bit, Nat.testBit_or] using unposted
    have two : Nat.testBit 2 1 = true := rfl
    have high : bit (v ||| 2) 1 = true := by simp [bit, Nat.testBit_or, two]
    rw [exec_mbxDiscard hm served mine, writeIdb, low, high]
    rfl
  case packet => rw [exec_mbxIack hm posted, mbxTake_packet ready last some fits turn hp whole taken]
  case part => rw [exec_mbxIack hm posted, mbxTake_part ready more full turn notLast]
  case first =>
    rw [exec_mbxOutboundPost hm, outboundPost]
    simp only [free, idle, popped]
    rfl
  case next =>
    rw [exec_mbxOutboundPost hm, outboundPost]
    simp only [free, busy]
    rfl
  case released =>
    rw [exec_mbxOack hm served mine, writeOack_releases full seq good, releaseOut]
    simp [List.isEmpty_eq_false_iff.mpr more]
  case finished =>
    rw [exec_mbxOack hm served mine, writeOack_releases full seq good, releaseOut]
    simp [done, busy]
  case aged => exact if_pos (by simp [hm, full])

end Sys2Proof.Machine

namespace Sys2Proof.Machine

/-!
Proofs of chapters 2, 5 and 22: the remote path, the service port and the clerk's turn (O17).
-/

/-! ### The clerk's turn -/

/-- At an offset already reached, a turn is one look at the head of that source. -/
theorem exec_clerkAccept {s : State} {cls index offset : Nat} (reached : offset ≤ s.clerk.offset) (open_ : taking s = true) (active : cls ≠ 1 → s.mode.role ≠ 2) (elsewhere : cls = 1 → index ≠ 3) :
    exec (.clerkAccept cls index offset) s = .next (acceptHead runWaiting cls index s) := by
  have offsetStands : { s with clerk := { s.clerk with offset := max s.clerk.offset offset } } = s := by rw [Nat.max_eq_left reached]
  change execClerkAccept cls index offset s = _
  rw [execClerkAccept, offsetStands]
  exact congrArg Host.Outcome.next ((if_neg (by simpa using elsewhere)).trans ((if_neg (by simpa using active)).trans (if_pos open_)))

/-- Raw bytes at the head, with quota left, become the next entry of the open waybill. -/
theorem acceptHead_raw {s : State} {cls index : Nat} {w : Waiting} {rest : List Waiting} {b : List Byte} (head : popWaiting cls index s.clerk.intake = some (w, rest))
    (raw : w.body = .raw b) (unheld : w.held = 0) (quota : quotaSpent s (entryOf s w) = false) (now : Packet → State → State) :
    acceptHead now cls index s = count 0x001 { s with clerk := { s.clerk with intake := rest, open_ := s.clerk.open_ ++ [entryOf s w] } } := by
  rw [acceptHead, head]
  simp only [raw, quota, unheld, Nat.lt_irrefl, if_false, Bool.false_eq_true]
  rfl

/-- A command at the head that does not enter the waybill runs at once. -/
theorem acceptHead_command {s : State} {cls index : Nat} {w : Waiting} {rest : List Waiting} {p : Packet} {i : OpInfo} (head : popWaiting cls index s.clerk.intake = some (w, rest))
    (command : w.body = .command p) (known : opInfo p.opcode = some i) (immediate : i.w = false) (now : Packet → State → State) :
    acceptHead now cls index s = now p { s with clerk := { s.clerk with intake := rest } } := by
  rw [acceptHead, head]
  simp only [command, known, immediate, Bool.false_eq_true, if_false]

/-! ### The remote path -/

/-- A datagram whose form, key, code and counter are good is one use of the key slot, and its packet is taken. -/
theorem exec_remoteDatagram {s : State} {port addr udp : Nat} {b : List Byte} {k : KeySlot} (form : port ≤ 1 ∧ bit s.paths.portsEnabled port = true ∧ linkUp s port = true ∧ s.mode.coppice = false)
    (length : 40 ≤ b.length ∧ b.length ≤ 4120 ∧ b.length = fld b 22 2 + 40) (mark : fld b 0 1 = 0x47 ∧ fld b 1 1 = 0x43) (key : remoteKey s (fld b 2 1) = some k)
    (code : (Config.cmac k.key (b.take (b.length - 8))).toNat = fld b (b.length - 8) 8) (counted : fld b 8 8 ≠ 0) {w : Window}
    (window : (s.paths.windows.find? (fun w => w.slot == fld b 2 1)).getD { slot := fld b 2 1 } = w) (fresh : counterFresh w (fld b 8 8) = true) :
    exec (.remoteDatagram port addr udp s.paths.udpPort b) s = .next (remotePacket (parsePacket (.remote port (fld b 2 1) addr udp) ((b.take (b.length - 8)).drop 16)) (count 0x074
      { useSlot (fld b 2 1) s with paths := { s.paths with windows := s.paths.windows.filter (fun x => x.slot != fld b 2 1) ++ [w.accept (fld b 8 8)], accepted := modAt s.paths.accepted port (satAdd 32 · 1) } })) := by
  obtain ⟨known, enabled, up, normal⟩ := form
  obtain ⟨least, most, whole⟩ := length
  obtain ⟨first, second⟩ := mark
  have arrives : ¬ (decide (1 < port) || !bit s.paths.portsEnabled port || !linkUp s port || decide (s.paths.udpPort ≠ s.paths.udpPort) || s.mode.coppice) = true := by
    simp [enabled, up, normal]; omega
  have wellFormed : ¬ (decide (b.length < 40) || decide (4120 < b.length) || fld b 0 1 != 0x47 || fld b 1 1 != 0x43 || b.length != fld b 22 2 + 40) = true := by
    simp [first, second, ← whole]; omega
  have freshAfterUse : counterFresh (((useSlot (fld b 2 1) s).paths.windows.find? (fun w => w.slot == fld b 2 1)).getD { slot := fld b 2 1 }) (fld b 8 8) = true := by
    rw [← fresh, ← window]; rfl
  change execRemoteDatagram port addr udp s.paths.udpPort b s = _
  subst window
  refine congrArg Host.Outcome.next ((if_neg (by simpa using arrives)).trans ((if_neg (by simpa using wellFormed)).trans ?_))
  simp only [key]
  exact (if_neg (by simp [code])).trans (if_neg (by simp [counted, freshAfterUse]))

/-- Settles O17: a datagram passes its form, its key, its code and its counter; the clerk's turn is a look at the head of one source. -/
theorem pathEventsComplete : Obligations.PathEventsComplete := by
  intro s
  refine ⟨fun port addr udp b k known enabled up normal least most first second whole key code counted w window fresh => ?datagram, fun closed open_ => ?open_, rfl,
    fun b p connected open_ room hp taken => ?service, fun cls index offset w rest b other reached active open_ head raw unheld quota => ?entry,
    fun index offset w rest p i elsewhere reached open_ head command info immediate => ?command⟩
  case datagram => exact ⟨_, exec_remoteDatagram ⟨known, enabled, up, normal⟩ ⟨least, most, whole⟩ ⟨first, second⟩ key code counted window fresh, rfl⟩
  case open_ => exact if_neg (by simp [closed, open_])
  case service =>
    subst hp
    refine (if_neg (by simp [connected, open_, room])).trans ?_
    simp only [taken]
  case entry => rw [exec_clerkAccept reached open_ (fun _ => active) (by omega), acceptHead_raw head raw unheld quota]
  case command => rw [exec_clerkAccept reached open_ (absurd rfl) (fun _ => elsewhere), acceptHead_command head command info immediate]

end Sys2Proof.Machine

namespace Sys2Proof.Machine

/-!
Proofs of chapters 2, 3 and 5: the boundary of a tick, results, streams and the replay (O18).
-/

/-! ### What the sealing of a tick leaves in the clerk -/

/-- The open tick, the offset reached in it, and the last waybill sealed: its tick, its digest, and the digest the next one chains to. -/
def sealing (s : State) : Nat × Nat × Nat × Digest × Digest := (s.clerk.tick, s.clerk.offset, s.clerk.lastTick, s.clerk.lastD, s.clerk.chain)

theorem sealing_of_clerk {s t : State} (clerk : t.clerk = s.clerk) : sealing t = sealing s := by rw [sealing, clerk, sealing]

@[simp] theorem sealing_placeEntry (e : Entry) (s : State) : sealing (placeEntry e s) = sealing s := rfl

@[simp] theorem sealing_placeClerk (kind : Nat) (b : List Byte) (s : State) : sealing (placeClerk kind b s) = sealing s := by
  unfold placeClerk
  dsimp only
  (repeat' split) <;> rfl

@[simp] theorem sealing_releaseHeld (s : State) : sealing (releaseHeld s) = sealing s := by
  refine (foldl_leaves (part := sealing) (fun s e => ?_) _ _).trans rfl
  dsimp only
  split <;> rfl

@[simp] theorem exportQueue_clerk (s : State) : (exportQueue s).clerk = s.clerk := by
  unfold exportQueue
  split <;> rfl

@[simp] theorem exportWaybill_clerk (tick : Nat) (s : State) : (exportWaybill tick s).clerk = s.clerk := by
  unfold exportWaybill
  (repeat' split)
  · rfl
  · rfl
  · exact exportQueue_clerk _

@[simp] theorem noteHints_clerk (s : State) : (noteHints s).clerk = s.clerk := rfl

@[simp] theorem syncLodges_clerk (old new : Ordered) (rs : List CmdResult) (s : State) : (syncLodges old new rs s).clerk = s.clerk := by
  have dropped (s : State) (c : Channel) : (dropLodge c.handle s).clerk = s.clerk := rfl
  have added (s : State) (c : Channel) : (addLodge c.handle (createHint rs c.handle).1 (createHint rs c.handle).2 s).clerk = s.clerk := by
    unfold addLodge allocRegion
    dsimp only
    (repeat' split) <;> rfl
  exact (foldl_leaves (part := State.clerk) added _ _).trans (foldl_leaves (part := State.clerk) dropped _ s)

@[simp] theorem sendStiles_clerk (r : TickResult) (s : State) : (sendStiles r s).clerk = s.clerk := rfl

@[simp] theorem ungateDrive_clerk (before : Ordered) (s : State) : (ungateDrive before s).clerk = s.clerk := by
  unfold ungateDrive
  split <;> rfl

@[simp] theorem sealing_gbk (kind master : Nat) (detail : List Byte) (s : State) : sealing (gbk kind master detail s) = sealing s := rfl

@[simp] theorem sealing_noteTaints (before : Ordered) (tick : Nat) (s : State) : sealing (noteTaints before tick s) = sealing s := by
  unfold noteTaints
  refine foldl_leaves (part := sealing) (fun s h => ?_) _ _
  rw [sealing_gbk]
  rfl

@[simp] theorem sealing_computeWaybill (w : Waybill) (d : Digest) (s : State) : sealing (computeWaybill w d s) = sealing s := by
  unfold computeWaybill
  dsimp only
  rw [sealing_noteTaints]
  refine sealing_of_clerk ?_
  rw [ungateDrive_clerk, syncLodges_clerk, sendStiles_clerk]

theorem sealing_placeAll (l : List (Nat × List Byte)) (s : State) : sealing (l.foldl (fun s x => placeClerk x.1 x.2 s) s) = sealing s :=
  foldl_leaves (part := sealing) (g := fun s (x : Nat × List Byte) => placeClerk x.1 x.2 s) (fun s x => sealing_placeClerk x.1 x.2 s) l s

/-- The waybill stored last is what the next one chains to. -/
theorem sealing_storeWaybill (w : Waybill) (carry : List Entry) (s : State) :
    sealing (modClerk (fun c => { c with open_ := carry, tick := w.tick + 1, offset := 0, long := false }) (count 0x000 (storeWaybill w s))) =
      (w.tick + 1, 0, w.tick, w.digest, w.digest) := rfl

/-- The open tick's waybill is sealed: the next tick is open at its start, and chains to the waybill's digest. -/
theorem sealing_closeTick (es carry : List Entry) (s : State) :
    sealing (closeTick es carry s) = (s.clerk.tick + 1, 0, s.clerk.tick, (closedWaybill es s).digest, (closedWaybill es s).digest) := by
  unfold closeTick
  dsimp only
  generalize sealed : computeWaybill _ _ _ = t
  have kept := congrArg sealing sealed
  rw [sealing_computeWaybill, sealing_releaseHeld, sealing_of_clerk (exportWaybill_clerk ..), sealing_storeWaybill] at kept
  refine Eq.trans ?_ kept.symm
  split
  next r _ _ => exact sealing_placeAll r.clerk t
  next => rfl

/-! ### The boundary of a tick -/

theorem exec_tickBoundary {s : State} (running : s.clerk.running = true) (events : List StoreEvent) :
    exec (.tickBoundary events) s = .next (signal (boundary (events.foldl (fun s e => storeEvent e s) s))) :=
  congrArg (Host.Outcome.next ∘ signal ∘ boundary) (if_pos running)

theorem boundary_standby {s : State} (running : s.clerk.running = true) (standby : s.mode.role = 2) : boundary s = standbyBoundary s :=
  (if_neg (by simp [running])).trans (if_pos (by simp [standby]))

/-- With no handover at hand an active module seals its tick. -/
theorem boundary_active {s : State} (running : s.clerk.running = true) (active : s.mode.role ≠ 2) (staying : s.twin.handover = none) : boundary s = activeBoundary s := by
  refine (if_neg (by simp [running])).trans ((if_neg (by simpa using active)).trans ?_)
  rw [staying]
  split
  next handover => cases handover
  next => rfl

/-! ### Results, streams and the replay -/

theorem issueLast_unissued {s : State} {r : TickResult} {o : Ordered} {c : Calc} (last : s.computed.getLast? = some (r, o)) (unissued : r.issued = false)
    (hc : c = ((lookD r.tick (contextOf s) s.contexts).calc r.tick o r).issueNow) :
    issueLast s = { s with computed := s.computed.dropLast ++ [(c.res, c.ord)], ord := { s.ord with lanterns := c.ord.lanterns, backlog := c.ord.backlog } } := by
  subst hc
  rw [issueLast, last]
  exact if_neg (by simp [unissued])

/-- With a later result behind it, the oldest is released as it stands. -/
theorem exec_resultRelease {s : State} {r : TickResult} {o : Ordered} {rest : List (TickResult × Ordered)} (computed : s.computed = (r, o) :: rest) (later : rest ≠ []) :
    exec .resultRelease s = .next (signal (releaseResult r o { s with computed := rest })) := by
  have several : ¬ s.computed.length ≤ 1 := by
    have := List.length_pos_iff.mpr later
    rw [computed, List.length_cons]
    omega
  change execResultRelease s = _
  rw [execResultRelease, if_neg several, computed]
  rfl

/-- The release of a result ends with a checkpoint and the comparison with the twin, on a state that shows the result's tick. -/
theorem releaseResult_ends (r : TickResult) (o : Ordered) (s : State) : ∃ m, releaseResult r o s = compareTwin r.tick (takeCkpt r o m) ∧ m.rel = o ∧ m.relTick = r.tick :=
  ⟨_, rfl, rfl, rfl⟩

/-- Settles O18: a tick that closes leaves the clerk at the start of the next (`sealing_closeTick`); the other clauses are the branches that their premises name. -/
theorem tickEventsComplete : Obligations.TickEventsComplete := by
  intro s
  refine ⟨fun running active staying b hb => ?closing, fun running standby => ?standby, fun es running => exec_tickBoundary running es, fun r o c last unissued hc => ?issue,
    fun r o rest computed later => ?release, fun h c cause found unfaulted least most => ?fault, fun h c cfg r chan stream found running remote => ⟨fun waiting window => ?send, fun n m unacked => ?resend⟩,
    fun w t rerun next held good => ?replay⟩
  case closing =>
    subst hb
    have sealed := sealing_closeTick (beforeSeal s).clerk.open_ [] (beforeSeal s)
    obtain ⟨tick, offset, lastTick, lastD, chain⟩ := by simpa only [sealing, Prod.mk.injEq] using sealed
    refine ⟨_, (exec_tickBoundary running []).trans ?_, rfl, tick, offset, lastTick, lastD, chain⟩
    exact congrArg (Host.Outcome.next ∘ signal) (boundary_active running active staying)
  case standby => exact (exec_tickBoundary running []).trans (congrArg (Host.Outcome.next ∘ signal) (boundary_standby running standby))
  case issue => exact congrArg Host.Outcome.next (issueLast_unissued last unissued hc)
  case release =>
    obtain ⟨m, ends, rel, tick⟩ := releaseResult_ends r o { s with computed := rest }
    exact ⟨m, by rw [exec_resultRelease computed later, ends], rel, tick⟩
  case fault =>
    change execChannelFaultDetect h cause s = _
    rw [execChannelFaultDetect, found]
    refine congrArg Host.Outcome.next ((if_neg (by simp [unfaulted]; omega)).trans ?_)
    have notComputation : ¬ (cause == 1) = true := by simp; omega
    simp only [notComputation]
    rfl
  case send =>
    change execStreamMessageSend h s = _
    rw [execStreamMessageSend, chan, stream, found]
    exact congrArg Host.Outcome.next (if_pos (by simp [running, remote, waiting, window]))
  case resend =>
    change execStreamResend h n s = _
    rw [execStreamResend, chan, stream, found]
    simp only [unacked, running, remote, beq_iff_eq]
    rfl
  case replay =>
    subst next
    change execReplayTick s = _
    refine congrArg Host.Outcome.next ((if_neg (by simp [rerun])).trans ?_)
    simp only [modReplay, modClerk, held, good]
    rfl

end Sys2Proof.Machine
